-- ==== Sys2Proof/Word.lean ====
section
/-! DEFINITION. The word types of the WY640's ports: bytes, 16-bit fields, masks of outputs and 32-bit counters. -/

namespace Sys2Proof

/-- One byte of a frame (R209). -/
abbrev Byte := BitVec 8

/-- A frame's destination or check (R149), and a mask of the outputs 0-15 of a signal panel (R165). -/
abbrev Word16 := BitVec 16

/-- A counter of the statistics unit (R184) or the value of a notice (R191). -/
abbrev Word32 := BitVec 32

end Sys2Proof
end

