-- ==== Sys2Proof/Syntax.lean ====
section
/-! DEFINITION. The commands of the WY640: one constructor for each row of spec/opcode_table.json, with what the event
itself names as operands (a record of a timer, a frame that arrives). -/

namespace Sys2Proof

/-- A frame as it arrives at a port or as it is sent (R149, R209): the header fields, the payload bytes and the check. -/
structure Frame where
  /-- a node address from 0 to 63 or a group tag from 64 to 65,535 -/
  destination : Word16
  /-- address of the sender -/
  source : Byte
  /-- the kind code (R209) -/
  kind : Byte
  /-- the length field: the number of payload bytes -/
  length : Byte
  /-- the payload bytes received -/
  payload : List Byte
  /-- the 16-bit cyclic check -/
  check : Word16
  deriving DecidableEq, Repr, Inhabited

/-- One command of the WY640: one row of the table of operations and events. -/
inductive Instr where
  /-- COLD_RESET (R208): power-up or the reset input. -/
  | coldReset
  /-- YARD_SECOND (R200): the yard second advances by 1. -/
  | yardSecond
  /-- MINUTE_TICK (R200): the clock passes from second 59 to second 0. -/
  | minuteTick
  /-- LEAVING_TIMEOUT (R16) of the bus record index. -/
  | leavingTimeout (bus : Nat)
  /-- DIRECTION_EXPIRY (R32) of the direction of the bus record index. -/
  | directionExpiry (bus : Nat)
  /-- CALL_TIMEOUT (R70) of the dispenser. -/
  | callTimeout (dispenser : Nat)
  /-- DEFERRAL_END (R70) of the fuel queue entry of the bus record index. -/
  | deferralEnd (bus : Nat)
  /-- DOCKING_TIMEOUT (R75) of the dispenser. -/
  | dockingTimeout (dispenser : Nat)
  /-- WASH_CALL_TIMEOUT (R95) of the wash lane. -/
  | washCallTimeout (washLane : Nat)
  /-- CYCLE_DEADLINE (R99) of the wash lane. -/
  | cycleDeadline (washLane : Nat)
  /-- END_OF_CLEARING (R98) of the wash lane. -/
  | endOfClearing (washLane : Nat)
  /-- RELEASE_TIMEOUT (R122) of the release record of the lane. -/
  | releaseTimeout (lane : Nat)
  /-- ACKNOWLEDGEMENT_TIMEOUT (R172) of the SENT entry to the node. -/
  | acknowledgementTimeout (node : Nat)
  /-- QUIET_TIMER_EXPIRY (R160). -/
  | quietTimerExpiry
  /-- FIELD_FRAME_ARRIVAL (R153): the frame arrives at the field port. -/
  | fieldFrameArrival (frame : Frame)
  /-- TAG (R10): the head of the field inbox, a TAG entry, is delivered. -/
  | tag
  /-- SAMPLE (R138): the head of the field inbox, a SAMPLE entry, is delivered. -/
  | sample
  /-- ACK (R172): the head of the field inbox, an ACK entry, is delivered. -/
  | ack
  /-- HEALTH (R179): the head of the field inbox, a HEALTH entry, is delivered. -/
  | health
  /-- NOZZLE (R72): the head of the field inbox, a NOZZLE entry, is delivered. -/
  | nozzle
  /-- DELIVERY (R76): the head of the field inbox, a DELIVERY entry, is delivered. -/
  | delivery
  /-- DISP_ALARM (R81): the head of the field inbox, a DISP ALARM entry, is delivered. -/
  | dispAlarm
  /-- WASH_EVENT_ENTERED (R96): the head of the field inbox, a WASH EVENT of code 1, is delivered. -/
  | washEventEntered
  /-- WASH_EVENT_DONE (R98): the head of the field inbox, a WASH EVENT of code 2, is delivered. -/
  | washEventDone
  /-- WASH_EVENT_ABORTED (R99): the head of the field inbox, a WASH EVENT of code 3, is delivered. -/
  | washEventAborted
  /-- WASH_EVENT_READY (R100): the head of the field inbox, a WASH EVENT of code 4, is delivered. -/
  | washEventReady
  /-- WASH_EVENT_UNKNOWN (R101): the head of the field inbox, a WASH EVENT of any other code, is delivered. -/
  | washEventUnknown
  /-- TRANSMISSION (R171): the port arbiter sends a command entry. -/
  | transmission
  /-- TRANSMIT_COMPLETION (R171): the frame on the field port has been sent. -/
  | transmitCompletion
  /-- OFFICE_FRAME_ARRIVAL (R196): the frame arrives at the office port. -/
  | officeFrameArrival (frame : Frame)
  /-- OFFICE_TRANSMISSION (R193): the office transmitter begins an ANSWER or a NOTICE. -/
  | officeTransmission
  /-- OFFICE_TRANSMIT_COMPLETION (R193): the frame on the office port has been sent. -/
  | officeTransmitCompletion
  /-- MODE_CHANGE_TAKES_EFFECT (R204): a pending mode change takes effect at the empty command queue. -/
  | modeChangeTakesEffect
  /-- SET_MODE (R204), order 0x01 at the head of the order inbox. -/
  | setMode
  /-- SET_CLOCK (R200), order 0x02. -/
  | setClock
  /-- SET_PARAMETER (R201), order 0x03. -/
  | setParameter
  /-- OPEN_LOAD (R202), order 0x04. -/
  | openLoad
  /-- LOAD_RECORDS (R203), order 0x05. -/
  | loadRecords
  /-- ABANDON_LOAD (R202), order 0x06. -/
  | abandonLoad
  /-- READ_RECORD (R199), order 0x07. -/
  | readRecord
  /-- READ_LANE (R43), order 0x08. -/
  | readLane
  /-- READ_QUEUE (R199), order 0x09. -/
  | readQueue
  /-- PLACE_BUS (R41), order 0x0A. -/
  | placeBus
  /-- REMOVE_BUS (R42), order 0x0B. -/
  | removeBus
  /-- SET_LANE_STATE (R40), order 0x0C. -/
  | setLaneState
  /-- PIN_DUTY (R113), order 0x0D. -/
  | pinDuty
  /-- UNPIN_DUTY (R114), order 0x0E. -/
  | unpinDuty
  /-- CANCEL_DUTY (R114), order 0x0F. -/
  | cancelDuty
  /-- WASH_NOW (R8), order 0x10. -/
  | washNow
  /-- ADD_STOCK (R83), order 0x11. -/
  | addStock
  /-- SET_STOCK (R83), order 0x12. -/
  | setStock
  /-- REOPEN_WASH_LANE (R105), order 0x13. -/
  | reopenWashLane
  /-- CLOSE_WASH_LANE (R104), order 0x14. -/
  | closeWashLane
  /-- OPEN_DISPENSER (R82), order 0x15. -/
  | openDispenser
  /-- CLOSE_DISPENSER (R82), order 0x16. -/
  | closeDispenser
  /-- REINSTATE_NODE (R179), order 0x17. -/
  | reinstateNode
  /-- ABORT_COMMANDS (R176), order 0x18. -/
  | abortCommands
  /-- READ_STATISTIC (R187), order 0x19. -/
  | readStatistic
  /-- DECREMENT_STATISTIC (R188), order 0x1A. -/
  | decrementStatistic
  /-- CLEAR_FLAGS (R194), order 0x1B. -/
  | clearFlags
  /-- RESTART (R207), order 0x1C. -/
  | restart
  /-- FORWARD (R162), order 0x1D. -/
  | forward
  /-- UNKNOWN_ORDER (R199): the head of the order inbox has a code outside the order table. -/
  | unknownOrder
  deriving DecidableEq, Repr

end Sys2Proof
end

