-- ==== Sys2Proof/Config.lean ====
section
/-! DEFINITION. The free values: what the manual leaves open and the part nevertheless fixes. Each is opaque, so no
proof can know it, and a statement about the model holds whatever it is. -/

namespace Sys2Proof.Config

/-- Which of the passes due at one moment of an event is made next, as the index (taken modulo their number) into the list of
the passes that are due. R205 and R207 say that any may be taken first. The argument is the model's own count of such choices
(`State.choice`). DESIGN CHOICE, log 6: safe. -/
opaque passChoice : Nat → Nat

/-- The destination field of an ANSWER or NOTICE frame, by its kind code. R193 gives the source, and no rule gives the
destination. DESIGN CHOICE, log 7: safe. -/
opaque officeDestination : Byte → Word16

/-- The number that stands for the reason TIMEOUT in the value of a "wash aborted" notice (R99, R191). R209 says that a reason
carries its position in its list, and no rule gives the list of the abort reasons. DESIGN CHOICE, log 8: safe. -/
opaque abortTimeoutCode : Word32

/-- The number that stands for the reason NO COMMAND in the value of a "wash aborted" notice (R99, R191). DESIGN CHOICE, log 8:
safe. -/
opaque abortNoCommandCode : Word32

/-- The value of a "load completed" or "load abandoned" notice, from the table code and the next index (R202). No rule gives
their places within the 32 bits. DESIGN CHOICE, log 9: safe. -/
opaque loadNoticeValue : Nat → Nat → Word32

/-- A byte of a NOTICE's payload that stands for an absent subject or is one of the four of an absent value, from the nine bytes before
the subjects and the byte's position. R191 and R209 give the presence bits, and no rule gives the bytes. DESIGN CHOICE, log 45: safe. -/
opaque absentNoticeByte : List Byte → Nat → Byte

end Sys2Proof.Config
end

