-- ==== Sys2Proof/Machine/State.lean ====
section
/-! DEFINITION. The state of the WY640 as plain data: what each block of 00_scope.md owns, the queue of commands that wait,
and the state after a cold reset. -/

namespace Sys2Proof.Machine

/-! ### Names the manual gives -/

/-- The four modes (R204), in the order of the status byte (R209). -/
inductive Mode where
  | configure | run | shadow | doze
  deriving DecidableEq, Repr, Inhabited

/-- The ten places of a bus (R6), with the place detail that is not derived: the dispenser, wash lane or lane. The position
of a PARKED bus is its position in the lane's contents. -/
inductive Place where
  | out | fuelWait | fuelBay (dispenser : Nat) | washWait | wash (washLane : Nat) | hold | directed (lane : Nat)
  | parked (lane : Nat) | leaving | lost
  deriving DecidableEq, Repr, Inhabited

/-- The kinds of stacking lane (R20). -/
inductive LaneKind where
  | through | deadEnd
  deriving DecidableEq, Repr, Inhabited

/-- The office state of a lane (R22): OPEN, ENTRY-CLOSED or CLOSED. -/
inductive OfficeState where
  | opened | entryClosed | closed
  deriving DecidableEq, Repr, Inhabited

/-- An entry of a lane's contents (R23). -/
inductive LaneEntry where
  | bus (index : Nat) | placeholder
  deriving DecidableEq, Repr, Inhabited

/-- The states of a duty (R109); `vacant` is the manual's OPEN. -/
inductive DutyState where
  | vacant | bound | called | released | leaving | departed | missed | cancelled
  deriving DecidableEq, Repr, Inhabited

/-- How a duty departed (R109). -/
inductive DepartedAs where
  | onTime | late | unreleased | unconfirmed
  deriving DecidableEq, Repr, Inhabited

/-- The phase of a release record (R118), with `shown at` in SHOWING. -/
inductive Phase where
  | calling | showing (shownAt : Nat) | stopping
  deriving DecidableEq, Repr, Inhabited

/-- Why a dispenser is CLOSED (R65). -/
inductive ClosedReason where
  | office | fault
  deriving DecidableEq, Repr, Inhabited

/-- The states of a dispenser (R65), with the closed reason in CLOSED. -/
inductive DispenserState where
  | closed (reason : ClosedReason) | free | calling | docked | fuelling | clearing
  deriving DecidableEq, Repr, Inhabited

/-- The states of a wash lane (R91). -/
inductive WashState where
  | closed | ready | calling | washing | clearing | faulted
  deriving DecidableEq, Repr, Inhabited

/-- The programme of a wash lane (R91). -/
inductive Programme where
  | full | short
  deriving DecidableEq, Repr, Inhabited

/-- The grade of a wash lane (R91). -/
inductive Grade where
  | normal | restricted | out
  deriving DecidableEq, Repr, Inhabited

/-- The accepted state of a detector channel (R137). -/
inductive ChannelState where
  | vacant | occupied | faulted
  deriving DecidableEq, Repr, Inhabited

/-- The use of a detector channel (R135). -/
inductive ChannelUse where
  | laneEntry | laneExit | laneMouth | dispenserBay | spare
  deriving DecidableEq, Repr, Inhabited

/-- The role of a field node (R152). -/
inductive Role where
  | gateIn | gateOut | detector | signal | dispenser | wash
  deriving DecidableEq, Repr, Inhabited

/-- The health of a field node (R178). -/
inductive Health where
  | good | doubtful | cutOff
  deriving DecidableEq, Repr, Inhabited

/-- The outcome of a request (00_scope.md "Outcomes", R173), in the order of the notice's value (R209). -/
inductive Result3 where
  | done | failed | aborted
  deriving DecidableEq, Repr, Inhabited

/-- The result codes of an ANSWER (R209). -/
inductive ResultCode where
  | ok | busy | mode | range | conflict | window | unknown
  deriving DecidableEq, Repr, Inhabited

/-- The tables of the load window (R202). -/
inductive Table where
  | roster | classes | lanes | schedule | nodes | channels | dispensers | washLanes | groupHash | parameters
  deriving DecidableEq, Repr, Inhabited

/-- Why a bus is held (R56). -/
inductive HeldReason where
  | noLane | listFull | restricted
  deriving DecidableEq, Repr, Inhabited

/-- Why a bus is wash-skipped (R89). -/
inductive SkipReason where
  | queueFull | missedTwice | retryFailed | restricted | waived
  deriving DecidableEq, Repr, Inhabited

/-- Why a wash cycle is aborted (R99): the controller's reason code, TIMEOUT or NO COMMAND. -/
inductive AbortReason where
  | controller (code : Nat) | timeout | noCommand
  deriving DecidableEq, Repr, Inhabited

/-- Why a field frame is rejected (R153, R154), in the order of the notice's value (R209). -/
inductive RejectReason where
  | unknownSource | wrongKind | badLength
  deriving DecidableEq, Repr, Inhabited

/-- The thirty counters (R184), in the order of their codes. -/
inductive Counter where
  | arrivals | strangerReads | reappearances | fuelServed | fuelDenied | fuelAbandoned | fuelSkipped | litresDelivered
  | meterExcess | orphanDeliveries | washGood | washAborted | washSkipped | laneEntries | misroutes | unexpectedEntries
  | overfull | lostBuses | departuresOnTime | departuresLate | departuresUnreleased | departuresUnconfirmed | dutiesMissed
  | exchanges | releaseNoShows | inboxLosses | badCheckFrames | rejectedFrames | commandFailures | noticesDropped
  deriving DecidableEq, Repr, Inhabited

/-- The kinds of notice (R191 codes 1 to 44, R202, R204, R207 codes 45 to 49), in the order of their codes from 1. -/
inductive NoticeKind where
  | stranger | reappeared | leftWithoutRelease | outWhileOut | laneUncertain | directionExpired | misroute | overfull
  | unexpectedExit | held | fuelSkipped | dispenserClosed | fuelAbandoned | bayMismatch | fuelDenied | noNozzleRequest
  | meterExcess | orphanDelivery | dispenserAlarm | stockBelowReserve | washSkipped | washGrade | washCallMissed | washAborted
  | washLaneOut | washEventIgnored | washWaived | washWaiverEnded | releaseWithdrawn | departed | dutyMissed | dutyLate
  | headStopFailed | released | releaseNoShow | exchange | dutyBlocked | loopFault | loopRecovered | frameRejected | relay
  | forwardOutcome | nodeHealth | wouldSend | loadCompleted | loadAbandoned | modeChanged | modeChangeDropped | restarted
  deriving DecidableEq, Repr, Inhabited

/-! ### Records of the blocks -/

/-- The yard second and the yard clock (R200). -/
structure Clock where
  yardSecond : Nat
  valid : Bool
  minute : Nat
  second : Nat
  deriving DecidableEq, Repr, Inhabited

/-- A class record (R2). -/
structure ClassRec where
  valid : Bool
  length : Nat
  capacity : Nat
  deriving DecidableEq, Repr, Inhabited

/-- A bus record (R3, R5). -/
structure BusRec where
  valid : Bool
  fleet : Nat
  tag : Nat
  cls : Nat
  washInterval : Nat
  place : Place
  level : Option Nat
  nights : Nat
  washNow : Bool
  fuelSkipped : Bool
  fuelMissed : Bool
  washSkipped : Bool
  boundDuty : Option Nat
  lastSeen : Nat
  deriving DecidableEq, Repr, Inhabited

/-- A signal output: a node and one of its outputs (R20, R64, R90). -/
structure Signal where
  node : Nat
  output : Nat
  deriving DecidableEq, Repr, Inhabited

/-- A lane record (R20, R22). -/
structure LaneRec where
  valid : Bool
  kind : LaneKind
  length : Nat
  classMask : BitVec 4
  cost : Nat
  entrySignal : Signal
  headSignal : Signal
  entryLoop : Nat
  exitLoop : Nat
  office : OfficeState
  uncertain : Bool
  contents : List LaneEntry
  deriving DecidableEq, Repr, Inhabited

/-- A direction record (R29). `ticket` is the model's own: the number of the ASPECT SET request whose outcome it awaits. -/
structure Direction where
  bus : Nat
  lane : Nat
  issuedAt : Nat
  ticket : Nat
  deriving DecidableEq, Repr, Inhabited

/-- An entry of the fuel queue (R61). -/
structure FuelEntry where
  bus : Nat
  priority : Nat
  enqueuedAt : Nat
  misses : Nat
  turnsLeft : Nat
  deadline : Option Nat
  front : Bool
  deriving DecidableEq, Repr, Inhabited

/-- The occupant of a dispenser, with the fields it keeps of its queue entry (R65). -/
structure FuelOccupant where
  bus : Nat
  priority : Nat
  enqueuedAt : Nat
  misses : Nat
  deriving DecidableEq, Repr, Inhabited

/-- A dispenser record (R64, R65). The two tickets are the model's own: the requests whose outcomes it awaits. -/
structure DispenserRec where
  valid : Bool
  island : Nat
  classMask : BitVec 4
  controller : Nat
  baySignal : Signal
  bayLoop : Nat
  state : DispenserState
  occupant : Option FuelOccupant
  grant : Option Nat
  closeAtEnd : Bool
  since : Nat
  callTicket : Nat
  grantTicket : Nat
  deriving DecidableEq, Repr, Inhabited

/-- An entry of the wash queue (R88), and the occupant of a wash lane with the fields it keeps (R91, R93). -/
structure WashEntry where
  bus : Nat
  enqueuedAt : Nat
  missedOnce : Bool
  retried : Bool
  deriving DecidableEq, Repr, Inhabited

/-- A wash-lane record (R90, R91). The two tickets are the model's own: the requests whose outcomes it awaits. -/
structure WashLaneRec where
  valid : Bool
  classMask : BitVec 4
  controller : Nat
  entrySignal : Signal
  fullTime : Nat
  shortTime : Nat
  clearBase : Nat
  state : WashState
  occupant : Option WashEntry
  programme : Option Programme
  deadline : Option Nat
  score : Nat
  pacing : Nat
  closeAtEnd : Bool
  since : Nat
  callTicket : Nat
  goTicket : Nat
  deriving DecidableEq, Repr, Inhabited

/-- A duty record (R108, R109). -/
structure DutyRec where
  valid : Bool
  code : Nat
  planned : Nat
  cls : Nat
  minLevel : Nat
  state : DutyState
  bus : Option Nat
  pin : Option Nat
  releaseLane : Option Nat
  late : Bool
  blocked : Bool
  unreleased : Bool
  departedAs : Option DepartedAs
  deriving DecidableEq, Repr, Inhabited

/-- A release record (R118); its lane is its index. `ticket` is the model's own: the request whose outcome it awaits. -/
structure ReleaseRec where
  duty : Option Nat
  phase : Phase
  ticket : Nat
  deriving DecidableEq, Repr, Inhabited

/-- A detector channel record (R135, R137). -/
structure ChannelRec where
  valid : Bool
  node : Nat
  input : Nat
  use : ChannelUse
  k : Nat
  hold : Nat
  onDelta : Nat
  offDelta : Nat
  baseline : Option Nat
  sum : Nat
  count : Nat
  discard : Nat
  state : ChannelState
  candidate : Option ChannelState
  run : Nat
  goodRun : Nat
  deriving DecidableEq, Repr, Inhabited

/-- A node record: the role half (R152) and the live half (R180). The health is derived from the score. -/
structure NodeRec where
  valid : Bool
  role : Role
  roleIndex : Nat
  score : Nat
  recovery : Nat
  mark : Bool
  shadow : Word16
  deriving DecidableEq, Repr, Inhabited

/-- The payload fields of the eight kinds of frame from field nodes (R150). -/
inductive FieldReport where
  | tag (code : Nat) (level : Option Nat)
  | sample (first : Nat) (readings : List Nat)
  | ack (echoed : Byte) (ok : Bool)
  | health (ready : Bool) (status : Nat)
  | nozzle (code : Nat)
  | delivery (litres : Nat) (full : Bool)
  | dispAlarm (reason : Nat)
  | washEvent (event : Nat) (reason : Nat)
  deriving DecidableEq, Repr, Inhabited

/-- An entry of the field inbox (R156). -/
structure InboxEntry where
  source : Nat
  role : Role
  roleIndex : Nat
  report : FieldReport
  acceptedAt : Nat
  deriving DecidableEq, Repr, Inhabited

/-- What a request was placed for. It names the requester, and with it the priority and the one-shot flag (R166), and the
record that awaits the outcome. Every number is a ticket but for the record's index before it. -/
inductive Purpose where
  | direction (ticket : Nat)
  | laneClear
  | bayCall (dispenser ticket : Nat)
  | bayClear
  | grant (dispenser ticket : Nat)
  | refuse
  | washCall (washLane ticket : Nat)
  | washClear
  | washGo (washLane ticket : Nat)
  | release (lane ticket : Nat)
  | releaseStop (lane ticket : Nat)
  | quiet
  | allStop
  | forward
  deriving DecidableEq, Repr, Inhabited

/-- A contribution to a command entry (R165): who asked and for what, and the outputs for an aspect command. -/
structure Contribution where
  purpose : Purpose
  outputs : Word16
  deriving DecidableEq, Repr, Inhabited

/-- The kind of a command entry (R151, R165) with the payload that its contributions do not give. -/
inductive CommandKind where
  | aspectSet | aspectClear | allStop
  | grant (litres : Nat)
  | refuse
  | washGo (programme : Programme)
  | quiet (milliseconds : Nat)
  | forwarded (kind : Byte) (payload : List Byte)
  deriving DecidableEq, Repr, Inhabited

/-- WAITING or SENT (R165). In SENT, whether the acknowledgement timeout has been started by the transmit completion (R171). -/
inductive EntryState where
  | waiting | sent (timing : Bool)
  deriving DecidableEq, Repr, Inhabited

/-- An entry of the command queue (R165). Its mask, priority and one-shot are derived from the contributions. `id` is the
model's own number of the entry. -/
structure CommandEntry where
  id : Nat
  kind : CommandKind
  destination : Nat
  contributions : List Contribution
  attempts : Nat
  state : EntryState
  deriving DecidableEq, Repr, Inhabited

/-- The frame on the field port's transmitter and the entry it was sent for (R171). -/
structure FieldTx where
  frame : Frame
  entry : Nat
  deriving DecidableEq, Repr, Inhabited

/-- A notice record (R191). The class is fixed by the kind. -/
structure Notice where
  kind : NoticeKind
  yardSecond : Nat
  clockMinute : Option Nat
  bus : Option Nat
  lane : Option Nat
  duty : Option Nat
  node : Option Nat
  dispenser : Option Nat
  washLane : Option Nat
  channel : Option Nat
  value : Option Word32
  deriving DecidableEq, Repr, Inhabited

/-- An order in the order inbox (R197): the order code, the order tag, and the bytes after the tag. -/
structure Order where
  code : Byte
  tag : Byte
  data : List Byte
  deriving DecidableEq, Repr, Inhabited

/-- An answer in the answer list (R197, R209): the status byte as it was when the answer was made, the result, the order's code
and tag, and the data. -/
structure Answer where
  status : Byte
  result : ResultCode
  code : Byte
  tag : Byte
  data : List Byte
  deriving DecidableEq, Repr, Inhabited

/-- The open load window (R202). -/
structure Window where
  table : Table
  first : Nat
  stop : Nat
  next : Nat
  deriving DecidableEq, Repr, Inhabited

/-- The seventeen parameters (R201). -/
structure Params where
  dayStart : Nat
  callLead : Nat
  grace : Nat
  abandon : Nat
  fuelSkipLevel : Nat
  reserve : Nat
  minimumGrant : Nat
  callTimeout : Nat
  dockingTimeout : Nat
  directionTimeout : Nat
  releaseTimeout : Nat
  leavingTimeout : Nat
  washMargin : Nat
  allowInversion : Bool
  quietTime : Nat
  detectorTag : Nat
  signalTag : Nat
  deriving DecidableEq, Repr, Inhabited

/-! ### The blocks -/

/-- What the gate logic owns (01_roster_and_gate.md). -/
structure Gate where
  classes : Vector ClassRec 4
  buses : Vector BusRec 256
  deriving DecidableEq, Repr

/-- What the lane map owns (02_stacking_lanes.md). -/
structure LaneMap where
  lanes : Vector LaneRec 32
  directions : List Direction
  deriving DecidableEq, Repr

/-- What the fuel scheduler owns (04_fuel_turns_and_stock.md). -/
structure Fuel where
  queue : List FuelEntry
  dispensers : Vector DispenserRec 6
  stock : Nat
  committed : Nat
  belowReserve : Bool
  deriving DecidableEq, Repr

/-- What the wash scheduler owns (05_wash_lanes.md). -/
structure Wash where
  queue : List WashEntry
  lanes : Vector WashLaneRec 2
  waived : Vector Bool 4
  deriving DecidableEq, Repr

/-- What the pull-out scheduler owns (06_pull_out.md): the schedule, and for each lane its release record. -/
structure PullOut where
  duties : Vector DutyRec 256
  releases : Vector (Option ReleaseRec) 32
  deriving DecidableEq, Repr

/-- What the field port owns beside the node table (08_field_segment.md). The quiet timer holds the time it was loaded with. -/
structure FieldPort where
  groupHash : Vector Bool 64
  inbox : List InboxEntry
  quietTimer : Option Nat
  deriving DecidableEq, Repr

/-- What the command queue owns beside the nodes' live fields (09_command_queue_signals_and_node_health.md). -/
structure CommandQueue where
  queue : List CommandEntry
  tx : Option FieldTx
  deriving DecidableEq, Repr

/-- The notice queue and the dropped indication (R192, R194). -/
structure Notices where
  queue : List Notice
  dropped : Bool
  deriving DecidableEq, Repr

/-- A timer that may run out in CONFIGURE and still stand in a DOZE entered from there, with the yard second it counts from (leaving, docking) or
ends at (cycle, clearing). No call and no deferral can: CONFIGURE holds no call (R87, R107), and DOZE is entered with an empty fuel queue
(R204). -/
inductive Timer where
  | leaving (bus lastSeen : Nat) | docking (dispenser since : Nat) | cycle (washLane deadline : Nat) | clearing (washLane deadline : Nat)
  deriving DecidableEq, Repr, Inhabited

/-- What the office port controller owns beside the parameters and the notices (11_office_port_tables_and_modes.md). `dozeFrom` is the
mode DOZE was last entered from (R175, R206; log 4). `overdue` holds the timers that ran out in CONFIGURE, while DOZE entered from there
lasts: they are taken at the next entry to RUN or SHADOW (R16, R85, R106; log 31). -/
structure Office where
  orders : List Order
  answers : List Answer
  tx : Option Frame
  window : Option Window
  mode : Mode
  pendingMode : Option Mode
  dozeFrom : Option Mode
  overdue : List Timer
  deriving DecidableEq, Repr

/-- The state of the WY640. `pending` is the queue of the commands that wait; `serial` and `choice` are the model's own
counters (logs 5 and 6). The node table has 64 places: place 0, the part itself, holds no record and stays invalid. -/
structure State where
  clock : Clock
  gate : Gate
  laneMap : LaneMap
  holdList : List Nat
  fuel : Fuel
  wash : Wash
  pullOut : PullOut
  channels : Vector ChannelRec 80
  nodes : Vector NodeRec 64
  field : FieldPort
  commands : CommandQueue
  counters : Vector Word32 30
  notices : Notices
  office : Office
  params : Params
  serial : Nat
  choice : Nat
  pending : List Instr
  deriving DecidableEq, Repr

/-- The reasons a command could stop the machine: there are none. The manual gives every command an effect in every state. -/
inductive Fault where
  deriving DecidableEq, Repr

/-- The reasons a command could have no meaning. -/
inductive Refusal where
  /-- Raised by an arm of `exec` whose command has no meaning yet: safe, since the machine stops. No arm raises it. -/
  | notModelled (mnemonic : String)
  deriving DecidableEq, Repr

/-! ### The state after a cold reset (R208 and the rule of each block) -/

/-- The cold values of the parameters (R201). -/
def Params.cold : Params where
  dayStart := 720
  callLead := 10
  grace := 3
  abandon := 45
  fuelSkipLevel := 85
  reserve := 0
  minimumGrant := 20
  callTimeout := 120
  dockingTimeout := 300
  directionTimeout := 180
  releaseTimeout := 240
  leavingTimeout := 600
  washMargin := 120
  allowInversion := true
  quietTime := 2000
  detectorTag := 64
  signalTag := 65

/-- A class record after a cold reset (R2). -/
def ClassRec.cold : ClassRec := { valid := false, length := 2, capacity := 100 }

/-- A bus record after a cold reset (R18): invalid, every live field at its out value. -/
def BusRec.cold : BusRec where
  valid := false
  fleet := 0
  tag := 0
  cls := 0
  washInterval := 0
  place := .out
  level := none
  nights := 0
  washNow := false
  fuelSkipped := false
  fuelMissed := false
  washSkipped := false
  boundDuty := none
  lastSeen := 0

/-- A lane record after a cold reset (R44). -/
def LaneRec.cold : LaneRec where
  valid := false
  kind := .through
  length := 0
  classMask := 0
  cost := 0
  entrySignal := { node := 0, output := 0 }
  headSignal := { node := 0, output := 0 }
  entryLoop := 0
  exitLoop := 0
  office := .opened
  uncertain := false
  contents := []

/-- A dispenser record after a cold reset (R86). -/
def DispenserRec.cold : DispenserRec where
  valid := false
  island := 0
  classMask := 0
  controller := 0
  baySignal := { node := 0, output := 0 }
  bayLoop := 0
  state := .closed .office
  occupant := none
  grant := none
  closeAtEnd := false
  since := 0
  callTicket := 0
  grantTicket := 0

/-- A wash-lane record after a cold reset (R107). -/
def WashLaneRec.cold : WashLaneRec where
  valid := false
  classMask := 0
  controller := 0
  entrySignal := { node := 0, output := 0 }
  fullTime := 0
  shortTime := 0
  clearBase := 0
  state := .closed
  occupant := none
  programme := none
  deadline := none
  score := 0
  pacing := 0
  closeAtEnd := false
  since := 0
  callTicket := 0
  goTicket := 0

/-- A duty record after a cold reset (R133). -/
def DutyRec.cold : DutyRec where
  valid := false
  code := 0
  planned := 0
  cls := 0
  minLevel := 0
  state := .vacant
  bus := none
  pin := none
  releaseLane := none
  late := false
  blocked := false
  unreleased := false
  departedAs := none

/-- A channel record after a cold reset (R137). -/
def ChannelRec.cold : ChannelRec where
  valid := false
  node := 0
  input := 0
  use := .laneEntry
  k := 0
  hold := 0
  onDelta := 0
  offDelta := 0
  baseline := none
  sum := 0
  count := 0
  discard := 2
  state := .vacant
  candidate := none
  run := 0
  goodRun := 0

/-- A node record after a cold reset (R164, R183). -/
def NodeRec.cold : NodeRec where
  valid := false
  role := .gateIn
  roleIndex := 0
  score := 0
  recovery := 0
  mark := false
  shadow := 0

/-- The machine right after a cold reset (R208): CONFIGURE, the clock invalid, every table invalid, every collection empty.
The clock's minute and second are DESIGN CHOICE 0 (log 3); the model's own counters start at 0 (logs 5, 6). -/
def State.reset : State where
  clock := { yardSecond := 0, valid := false, minute := 0, second := 0 }
  gate := { classes := Vector.replicate 4 ClassRec.cold, buses := Vector.replicate 256 BusRec.cold }
  laneMap := { lanes := Vector.replicate 32 LaneRec.cold, directions := [] }
  holdList := []
  fuel := { queue := [], dispensers := Vector.replicate 6 DispenserRec.cold, stock := 0, committed := 0, belowReserve := false }
  wash := { queue := [], lanes := Vector.replicate 2 WashLaneRec.cold, waived := Vector.replicate 4 true }
  pullOut := { duties := Vector.replicate 256 DutyRec.cold, releases := Vector.replicate 32 none }
  channels := Vector.replicate 80 ChannelRec.cold
  nodes := Vector.replicate 64 NodeRec.cold
  field := { groupHash := Vector.replicate 64 false, inbox := [], quietTimer := none }
  commands := { queue := [], tx := none }
  counters := Vector.replicate 30 0
  notices := { queue := [], dropped := false }
  office := { orders := [], answers := [], tx := none, window := none, mode := .configure, pendingMode := none, dozeFrom := none, overdue := [] }
  params := Params.cold
  serial := 0
  choice := 0
  pending := []

end Sys2Proof.Machine
end

