-- ==== Sys2Proof/Machine/Ops.lean ====
section
/-! DEFINITION. The named operations over the state's tables, counters and notices, and the frame of one command: an event in
progress, with the outcomes it has decided and the passes it has triggered. -/

namespace Sys2Proof.Machine

/-! ### Tables -/

/-- The record at an index of a table. Outside the table there is no record: the default, an invalid record, is read. -/
def tget {α : Type} {n : Nat} [Inhabited α] (v : Vector α n) (i : Nat) : α :=
  if h : i < n then v[i] else default

/-- The table with the record at an index replaced. Outside the table nothing is written. -/
def tset {α : Type} {n : Nat} (v : Vector α n) (i : Nat) (a : α) : Vector α n :=
  v.setIfInBounds i a

/-- The table with every record changed by a function of its index and itself. -/
def tmap {α : Type} {n : Nat} (f : Nat → α → α) (v : Vector α n) : Vector α n :=
  ⟨(v.toList.zipIdx.map fun x => f x.2 x.1).toArray, by simp⟩

/-- The indices of a table's records, in order. -/
def indices {α : Type} {n : Nat} (_ : Vector α n) : List Nat := List.range n

/-- A list with the first element that meets a test taken out. -/
def removeFirst {α : Type} (p : α → Bool) : List α → List α
  | [] => []
  | x :: xs => if p x then xs else x :: removeFirst p xs

/-- A list with the last element that meets a test taken out, and that element. -/
def removeLast {α : Type} (p : α → Bool) : List α → List α × Option α
  | [] => ([], none)
  | x :: xs =>
    match removeLast p xs with
    | (ys, some y) => (x :: ys, some y)
    | (_, none) => if p x then (xs, some x) else (x :: xs, none)

/-- A list with an element put at a position; beyond the end it is put last. -/
def insertAt {α : Type} (x : α) : Nat → List α → List α
  | 0, xs => x :: xs
  | _ + 1, [] => [x]
  | n + 1, y :: ys => y :: insertAt x n ys

/-- A list with the element at a position taken out. -/
def removeAt {α : Type} : Nat → List α → List α
  | _, [] => []
  | 0, _ :: xs => xs
  | n + 1, x :: xs => x :: removeAt n xs

/-! ### Reading the state -/

/-- A bus record (R3). -/
def State.bus (s : State) (b : Nat) : BusRec := tget s.gate.buses b

/-- A class record (R2). -/
def State.cls (s : State) (c : Nat) : ClassRec := tget s.gate.classes c

/-- A lane record (R20). -/
def State.lane (s : State) (l : Nat) : LaneRec := tget s.laneMap.lanes l

/-- A duty record (R108). -/
def State.duty (s : State) (d : Nat) : DutyRec := tget s.pullOut.duties d

/-- The release record of a lane, if it holds one (R118). -/
def State.release (s : State) (l : Nat) : Option ReleaseRec := tget s.pullOut.releases l

/-- A dispenser record (R64). -/
def State.dispenser (s : State) (d : Nat) : DispenserRec := tget s.fuel.dispensers d

/-- A wash-lane record (R90). -/
def State.washLane (s : State) (w : Nat) : WashLaneRec := tget s.wash.lanes w

/-- A detector channel record (R135). -/
def State.channel (s : State) (c : Nat) : ChannelRec := tget s.channels c

/-- A node record (R152). An address outside 1 to 63 names none. -/
def State.node (s : State) (n : Nat) : NodeRec := if n = 0 then default else tget s.nodes n

/-- The current yard second (00_scope.md "Yard seconds"). -/
def State.now (s : State) : Nat := s.clock.yardSecond

/-- The mode (R204). -/
def State.mode (s : State) : Mode := s.office.mode

/-- A mode change is pending (R204). -/
def State.changePending (s : State) : Bool := s.office.pendingMode.isSome

/-- A mode change is pending, or the mode is neither RUN nor SHADOW: no bus is called or directed (R49, R67, R93). -/
def State.restricted (s : State) : Bool :=
  s.changePending || !(s.mode == .run || s.mode == .shadow)

/-- The load window is open on the schedule (R129, R130). -/
def State.scheduleWindow (s : State) : Bool :=
  match s.office.window with
  | some w => w.table == .schedule
  | none => false

/-- The bus bound to a duty is read from the duty (R110); the class length in bays of a bus (R2, R23). -/
def State.busLength (s : State) (b : Nat) : Nat := (s.cls (s.bus b).cls).length

/-! ### An event in progress -/

/-- An outcome decided for a contribution and not yet delivered (R173), with the command it was for. -/
structure Decided where
  contribution : Contribution
  kind : CommandKind
  destination : Nat
  result : Result3
  deriving DecidableEq, Repr

/-- A command while it is carried out: the state, the outcomes decided in the event and not yet delivered, which passes
the event has triggered (R48, R67, R93, R116), and who is passed over by the passes of this event (R48, R94, R121). Nothing of it
but the state lasts beyond the command. -/
structure Ev extends State where
  outs : List Decided
  rerunDue : Bool
  fuelDue : Bool
  washDue : Bool
  pullDue : Bool
  /-- buses returned to the hold list by a failed direction in this event (R48) -/
  heldBack : List Nat
  /-- buses returned to the wash queue by a failed entry signal in this event (R94) -/
  washBack : List Nat
  /-- wash lanes that went to READY by a failed entry signal in this event (R94) -/
  washLanesBack : List Nat
  /-- lanes from which a pass of this event made a release (R121) -/
  releasedHere : List Nat
  /-- the event has entered RUN or SHADOW, so that any of the passes may be made first (R205) -/
  entered : Bool
  deriving DecidableEq, Repr

/-- The beginning of an event. -/
def State.begin (s : State) : Ev where
  toState := s
  outs := []
  rerunDue := false
  fuelDue := false
  washDue := false
  pullDue := false
  heldBack := []
  washBack := []
  washLanesBack := []
  releasedHere := []
  entered := false

/-- Trigger the lane assigner's re-run (R48). -/
def Ev.triggerRerun (e : Ev) : Ev := { e with rerunDue := true }

/-- Trigger the fuel calling pass (R67). -/
def Ev.triggerFuel (e : Ev) : Ev := { e with fuelDue := true }

/-- Trigger the wash calling pass (R93). -/
def Ev.triggerWash (e : Ev) : Ev := { e with washDue := true }

/-- Trigger the pull-out pass (R116). -/
def Ev.triggerPull (e : Ev) : Ev := { e with pullDue := true }

/-- Trigger all four passes (R205, and the end of a pending mode change, R204). -/
def Ev.triggerAll (e : Ev) : Ev := e.triggerRerun.triggerFuel.triggerWash.triggerPull

/-- Write a bus record. -/
def Ev.setBus (e : Ev) (b : Nat) (r : BusRec) : Ev := { e with gate.buses := tset e.gate.buses b r }

/-- Write a class record. -/
def Ev.setClass (e : Ev) (c : Nat) (r : ClassRec) : Ev := { e with gate.classes := tset e.gate.classes c r }

/-- Write a lane record. -/
def Ev.setLane (e : Ev) (l : Nat) (r : LaneRec) : Ev := { e with laneMap.lanes := tset e.laneMap.lanes l r }

/-- Write the direction list. -/
def Ev.setDirections (e : Ev) (ds : List Direction) : Ev := { e with laneMap.directions := ds }

/-- Write the hold list. -/
def Ev.setHold (e : Ev) (bs : List Nat) : Ev := { e with holdList := bs }

/-- Write a duty record. -/
def Ev.setDuty (e : Ev) (d : Nat) (r : DutyRec) : Ev := { e with pullOut.duties := tset e.pullOut.duties d r }

/-- Write the release record of a lane. -/
def Ev.setRelease (e : Ev) (l : Nat) (r : Option ReleaseRec) : Ev :=
  { e with pullOut.releases := tset e.pullOut.releases l r }

/-- Write a dispenser record. -/
def Ev.setDispenser (e : Ev) (d : Nat) (r : DispenserRec) : Ev :=
  { e with fuel.dispensers := tset e.fuel.dispensers d r }

/-- Write the fuel queue. -/
def Ev.setFuelQueue (e : Ev) (q : List FuelEntry) : Ev := { e with fuel.queue := q }

/-- Write a wash-lane record. -/
def Ev.setWashLane (e : Ev) (w : Nat) (r : WashLaneRec) : Ev := { e with wash.lanes := tset e.wash.lanes w r }

/-- Write the wash queue. -/
def Ev.setWashQueue (e : Ev) (q : List WashEntry) : Ev := { e with wash.queue := q }

/-- Write a channel record. -/
def Ev.setChannel (e : Ev) (c : Nat) (r : ChannelRec) : Ev := { e with channels := tset e.channels c r }

/-- Write a node record. -/
def Ev.setNode (e : Ev) (n : Nat) (r : NodeRec) : Ev := { e with nodes := tset e.nodes n r }

/-- Write the command queue's list of entries. -/
def Ev.setCommands (e : Ev) (q : List CommandEntry) : Ev := { e with commands.queue := q }

/-- The next number of a request (log 5): the number, and the event with the counter advanced. -/
def Ev.nextSerial (e : Ev) : Nat × Ev := (e.serial, { e with serial := e.serial + 1 })

/-- Decide an outcome for a contribution (R173). -/
def Ev.decideOne (e : Ev) (d : Decided) : Ev := { e with outs := e.outs ++ [d] }

/-- Decide one outcome for each of several contributions of a command, in their order. -/
def Ev.decideAll (e : Ev) (kind : CommandKind) (destination : Nat) (r : Result3) (cs : List Contribution) : Ev :=
  { e with outs := e.outs ++ cs.map fun c => { contribution := c, kind := kind, destination := destination, result := r } }

/-- Change a bus's place, with last seen set to the current yard second (R6). -/
def Ev.setPlace (e : Ev) (b : Nat) (p : Place) : Ev :=
  e.setBus b { e.bus b with place := p, lastSeen := e.now }

/-! ### Counters (R184) -/

/-- The code of a counter (R184). -/
def Counter.code : Counter → Nat
  | .arrivals => 0
  | .strangerReads => 1
  | .reappearances => 2
  | .fuelServed => 3
  | .fuelDenied => 4
  | .fuelAbandoned => 5
  | .fuelSkipped => 6
  | .litresDelivered => 7
  | .meterExcess => 8
  | .orphanDeliveries => 9
  | .washGood => 10
  | .washAborted => 11
  | .washSkipped => 12
  | .laneEntries => 13
  | .misroutes => 14
  | .unexpectedEntries => 15
  | .overfull => 16
  | .lostBuses => 17
  | .departuresOnTime => 18
  | .departuresLate => 19
  | .departuresUnreleased => 20
  | .departuresUnconfirmed => 21
  | .dutiesMissed => 22
  | .exchanges => 23
  | .releaseNoShows => 24
  | .inboxLosses => 25
  | .badCheckFrames => 26
  | .rejectedFrames => 27
  | .commandFailures => 28
  | .noticesDropped => 29

/-- The value of a counter. -/
def State.counter (s : State) (c : Counter) : Word32 := tget s.counters c.code

/-- Add an amount to a counter; a result above 2^32 - 1 rolls (R184). -/
def Ev.countBy (e : Ev) (c : Counter) (n : Nat) : Ev :=
  { e with counters := tset e.counters c.code (e.counter c + BitVec.ofNat 32 n) }

/-- Add 1 to a counter. -/
def Ev.count (e : Ev) (c : Counter) : Ev := e.countBy c 1

/-! ### Notices (R191, R192) -/

/-- The class of a notice kind is ROUTINE (R191; R202 for the load notices); the others are NOTABLE. -/
def NoticeKind.routine : NoticeKind → Bool
  | .held | .fuelDenied | .noNozzleRequest | .washSkipped | .washCallMissed | .washLaneOut | .washEventIgnored
  | .releaseWithdrawn | .departed | .released | .exchange | .frameRejected | .relay | .forwardOutcome | .wouldSend
  | .loadCompleted | .loadAbandoned => true
  | .stranger | .reappeared | .leftWithoutRelease | .outWhileOut | .laneUncertain | .directionExpired | .misroute | .overfull
  | .unexpectedExit | .fuelSkipped | .dispenserClosed | .fuelAbandoned | .bayMismatch | .meterExcess | .orphanDelivery
  | .dispenserAlarm | .stockBelowReserve | .washGrade | .washAborted | .washWaived | .washWaiverEnded | .dutyMissed | .dutyLate
  | .headStopFailed | .releaseNoShow | .dutyBlocked | .loopFault | .loopRecovered | .nodeHealth | .modeChanged
  | .modeChangeDropped | .restarted => false

/-- A notice of a kind made now, with no subject and no value (R191). -/
def State.note (s : State) (k : NoticeKind) : Notice where
  kind := k
  yardSecond := s.now
  clockMinute := if s.clock.valid then some s.clock.minute else none
  bus := none
  lane := none
  duty := none
  node := none
  dispenser := none
  washLane := none
  channel := none
  value := none

/-- The value of a notice as 32 bits. -/
def noteValue (n : Nat) : Option Word32 := some (BitVec.ofNat 32 n)

/-- The capacity of the notice queue (R192). -/
def noticeCapacity : Nat := 48

/-- A notice is lost: notices dropped +1, and the dropped indication goes on (R192). -/
def Ev.dropNotice (e : Ev) : Ev :=
  { e.count .noticesDropped with notices.dropped := true }

/-- Send a notice: it joins the notice queue by the overflow rule (R192). -/
def Ev.send (e : Ev) (n : Notice) : Ev :=
  if e.notices.queue.length < noticeCapacity then { e with notices.queue := e.notices.queue ++ [n] }
  else if n.kind.routine then e.dropNotice
  else if e.notices.queue.any (fun m => m.kind.routine) then
    { e.dropNotice with notices.queue := removeFirst (fun m => m.kind.routine) e.notices.queue ++ [n] }
  else e.dropNotice

end Sys2Proof.Machine
end

