-- ==== Sys2Proof/Machine/Flags.lean ====
section
/-! DEFINITION. What the part derives from its state each time it is read: service minutes, healths, grades, used and open bays,
departures, permissions, the waiver, the indications and the status byte. -/

namespace Sys2Proof.Machine

/-! ### Service minutes (R1) -/

/-- The service minute that stands for "no departure" (R1). -/
def noDeparture : Nat := 1440

/-- The service minute of a clock minute: (m - day start) mod 1440 (R1). -/
def State.serviceMinute (s : State) (m : Nat) : Nat := (m + 1440 - s.params.dayStart % 1440) % 1440

/-- now_s: the service minute of the current clock minute (R1). -/
def State.nowS (s : State) : Nat := s.serviceMinute s.clock.minute

/-- planned_s: the service minute of a duty's planned clock minute (R1). -/
def State.plannedS (s : State) (d : Nat) : Nat := s.serviceMinute (s.duty d).planned

/-! ### Nodes (R178) -/

/-- The health derived from a score (R178). -/
def healthOf (score : Nat) : Health :=
  if score < 96 then .good else if score < 192 then .doubtful else .cutOff

/-- The health of a node. -/
def State.health (s : State) (n : Nat) : Health := healthOf (s.node n).score

/-- The node's health is CUT OFF. -/
def State.cutOff (s : State) (n : Nat) : Bool := s.health n == .cutOff

/-- A node to which an eligible entry fails at once: it is CUT OFF or its record is invalid (R170). -/
def State.unreachable (s : State) (n : Nat) : Bool := s.cutOff n || !(s.node n).valid

/-- A frame destination from 0 to 63 is a node (00_scope.md "Identities and ranges"). -/
def isNode (destination : Nat) : Bool := decide (destination < 64)

/-! ### Lanes (R20 to R26, R51) -/

/-- The signal that shows proceed for a release: a DEAD-END lane's is its entry signal (R20). -/
def LaneRec.head (r : LaneRec) : Signal :=
  match r.kind with
  | .through => r.headSignal
  | .deadEnd => r.entrySignal

/-- The exit-end loop: the exit loop of a THROUGH lane, the mouth loop of a DEAD-END lane (R20). -/
def LaneRec.exitEndLoop (r : LaneRec) : Nat :=
  match r.kind with
  | .through => r.exitLoop
  | .deadEnd => r.entryLoop

/-- The lane uses the channel as a loop (R21). -/
def LaneRec.usesLoop (r : LaneRec) (c : Nat) : Bool := r.entryLoop == c || r.exitEndLoop == c

/-- The lane uses the signal output (R21). -/
def LaneRec.usesSignal (r : LaneRec) (sig : Signal) : Bool := r.entrySignal == sig || r.head == sig

/-- The length of an entry: its class length for a bus, 2 bays for a placeholder (R23). -/
def State.entryLength (s : State) : LaneEntry → Nat
  | .bus b => s.busLength b
  | .placeholder => 2

/-- The used bays of a lane (R24). -/
def State.usedBays (s : State) (l : Nat) : Nat := ((s.lane l).contents.map s.entryLength).sum

/-- The free bays of a lane (R24). -/
def State.freeBays (s : State) (l : Nat) : Nat := (s.lane l).length - s.usedBays l

/-- The departure of a bus: its duty's planned_s, or 1440 for an unbound bus (R25). -/
def State.busDeparture (s : State) (b : Nat) : Nat :=
  match (s.bus b).boundDuty with
  | some d => s.plannedS d
  | none => noDeparture

/-- The departure of an entry (R25). -/
def State.entryDeparture (s : State) : LaneEntry → Nat
  | .bus b => s.busDeparture b
  | .placeholder => noDeparture

/-- The join-end entry: the last of a THROUGH lane, the first of a DEAD-END lane (R23). -/
def State.joinEnd (s : State) (l : Nat) : Option LaneEntry :=
  match (s.lane l).kind with
  | .through => (s.lane l).contents.getLast?
  | .deadEnd => (s.lane l).contents.head?

/-- Entry allowed (R26). -/
def State.entryAllowed (s : State) (l : Nat) : Bool :=
  (s.lane l).valid && (s.lane l).office == .opened && !s.cutOff (s.lane l).entrySignal.node
    && !((s.channel (s.lane l).entryLoop).state == .faulted)

/-- Release allowed (R26). -/
def State.releaseAllowed (s : State) (l : Nat) : Bool :=
  (s.lane l).valid && !((s.lane l).office == .closed) && !s.cutOff (s.lane l).head.node
    && !((s.channel (s.lane l).exitEndLoop).state == .faulted)

/-- The directions pending for a lane, oldest first (R29). -/
def State.directionsTo (s : State) (l : Nat) : List Direction := s.laneMap.directions.filter (fun d => d.lane == l)

/-- The open bays of a lane: its free bays less the lengths of the buses directed to it, at least 0 (R51). -/
def State.openBays (s : State) (l : Nat) : Nat :=
  s.freeBays l - ((s.directionsTo l).map (fun d => s.busLength d.bus)).sum

/-- The bus at the exit end of a lane, if its exit-end entry is a bus. -/
def State.exitEndBus (s : State) (l : Nat) : Option Nat :=
  match (s.lane l).contents with
  | .bus b :: _ => some b
  | _ => none

/-! ### Wash lanes (R91, R103) -/

/-- The grade derived from a fault score (R91, R92). -/
def gradeOf (score : Nat) : Grade :=
  if score < 32 then .normal else if score < 64 then .restricted else .out

/-- The grade of a wash lane. -/
def WashLaneRec.grade (r : WashLaneRec) : Grade := gradeOf r.score

/-- A lane is occupied while it is in CALLING or WASHING (R91). -/
def WashLaneRec.occupied (r : WashLaneRec) : Bool := r.state == .calling || r.state == .washing

/-- A class is set in a class mask. A number that is no class, 4 or more, is in none. -/
def inMask (mask : BitVec 4) (c : Nat) : Bool := mask.getLsbD c

/-- Neither node of a wash lane is CUT OFF (R93, R103). -/
def State.washNodesUp (s : State) (w : Nat) : Bool :=
  !s.cutOff (s.washLane w).controller && !s.cutOff (s.washLane w).entrySignal.node

/-- A wash lane is in service (R103). -/
def State.inService (s : State) (w : Nat) : Bool :=
  (s.washLane w).valid && !((s.washLane w).state == .closed) && !((s.washLane w).grade == .out) && s.washNodesUp w

/-- A class is to be waived: no lane in service takes it, and no lane that takes it is occupied (R103). -/
def State.waiverDue (s : State) (c : Nat) : Bool :=
  (indices s.wash.lanes).all fun w =>
    !(s.inService w && inMask (s.washLane w).classMask c) && !((s.washLane w).occupied && inMask (s.washLane w).classMask c)

/-- A class is waived, as last derived (R103). -/
def State.waived (s : State) (c : Nat) : Bool := tget s.wash.waived c

/-! ### Fuel (R66, R71) -/

/-- The free stock (R71). -/
def State.freeStock (s : State) : Nat := s.fuel.stock - s.fuel.committed

/-- A dispenser is callable for a class (R66). -/
def State.dispenserCallable (s : State) (d c : Nat) : Bool :=
  (s.dispenser d).valid && (s.dispenser d).state == .free && inMask (s.dispenser d).classMask c
    && !s.cutOff (s.dispenser d).controller && !s.cutOff (s.dispenser d).baySignal.node
    && (s.channel (s.dispenser d).bayLoop).valid && !((s.channel (s.dispenser d).bayLoop).state == .faulted)

/-- A wash lane is callable for a class (R93). -/
def State.washCallable (s : State) (w c : Nat) : Bool :=
  (s.washLane w).valid && (s.washLane w).state == .ready && !((s.washLane w).grade == .out)
    && inMask (s.washLane w).classMask c && s.washNodesUp w

/-! ### Indications and the status byte (R189, R198, R209) -/

/-- A duty is in a release or on its way out of the yard (R109). -/
def DutyRec.inRelease (r : DutyRec) : Bool :=
  r.valid && (r.state == .called || r.state == .released || r.state == .leaving)

/-- Pull-out is active while any valid duty is CALLED, RELEASED or LEAVING (R109). -/
def State.pullOutActive (s : State) : Bool := s.pullOut.duties.toList.any DutyRec.inRelease

/-- The attention indication: some counter holds 2^31 or more (R189). -/
def State.attention (s : State) : Bool := s.counters.toList.any (fun c => c.msb)

/-- The quieting indication: the quiet timer runs (R160). -/
def State.quieting (s : State) : Bool := s.field.quietTimer.isSome

/-- The mode's two bits in the status byte (R209). -/
def Mode.code : Mode → Nat
  | .configure => 0
  | .run => 1
  | .shadow => 2
  | .doze => 3

/-- The status byte (R198, R209). -/
def State.status (s : State) : Byte :=
  BitVec.ofBool s.notices.dropped ++ BitVec.ofBool s.attention ++ BitVec.ofBool s.quieting ++ BitVec.ofBool s.pullOutActive
    ++ BitVec.ofBool s.clock.valid ++ BitVec.ofBool s.changePending ++ BitVec.ofNat 2 s.mode.code

/-! ### Indications that are kept, and permissions compared across an event -/

/-- Derive the below reserve indication again, with its notice when it passes from off to on (R84). -/
def Ev.deriveReserve (e : Ev) : Ev :=
  let now := decide (e.freeStock < e.params.reserve)
  let e' : Ev := { e with fuel.belowReserve := now }
  if now && !e.fuel.belowReserve then
    e'.send { e.note .stockBelowReserve with value := noteValue e.freeStock }
  else e'

/-- Compare the permissions of every lane with those before: entry allowed passing from false to true triggers the re-run,
release allowed changing either way triggers the pull-out pass (R26). -/
def Ev.comparePermissions (e : Ev) (before : State) : Ev :=
  { e with
    rerunDue := e.rerunDue || (indices e.laneMap.lanes).any fun l => !before.entryAllowed l && e.entryAllowed l
    pullDue := e.pullDue || (indices e.laneMap.lanes).any fun l => before.releaseAllowed l != e.releaseAllowed l }

end Sys2Proof.Machine
end

