-- ==== Sys2Proof/WellFormed.lean ====
section
/-! DEFINITION. Which commands are well formed: each record a timer names lies in the range of 00_scope.md
("Identities and ranges"), and a frame carries as many payload bytes as its length field says. -/

namespace Sys2Proof

/-- A frame of either port: the payload is as long as the length field says (R149). -/
def Frame.wf (f : Frame) : Bool := f.payload.length == f.length.toNat

/-- The command names records that exist and frames that can be on a line. -/
def Instr.wf : Instr → Bool
  | .leavingTimeout b | .directionExpiry b | .deferralEnd b => decide (b < 256)
  | .callTimeout d | .dockingTimeout d => decide (d < 6)
  | .washCallTimeout w | .cycleDeadline w | .endOfClearing w => decide (w < 2)
  | .releaseTimeout l => decide (l < 32)
  | .acknowledgementTimeout n => decide (1 ≤ n) && decide (n < 64)
  | .fieldFrameArrival f | .officeFrameArrival f => f.wf
  | .coldReset | .yardSecond | .minuteTick | .quietTimerExpiry | .tag | .sample | .ack | .health | .nozzle | .delivery
  | .dispAlarm | .washEventEntered | .washEventDone | .washEventAborted | .washEventReady | .washEventUnknown
  | .transmission | .transmitCompletion | .officeTransmission | .officeTransmitCompletion | .modeChangeTakesEffect
  | .setMode | .setClock | .setParameter | .openLoad | .loadRecords | .abandonLoad | .readRecord | .readLane | .readQueue
  | .placeBus | .removeBus | .setLaneState | .pinDuty | .unpinDuty | .cancelDuty | .washNow | .addStock | .setStock
  | .reopenWashLane | .closeWashLane | .openDispenser | .closeDispenser | .reinstateNode | .abortCommands | .readStatistic
  | .decrementStatistic | .clearFlags | .restart | .forward | .unknownOrder => true

end Sys2Proof
end

