-- ==== Sys2Proof/Machine/Operands.lean ====
section
/-! DEFINITION. What frames, orders, answers and notices look like in bytes (R149, R209): the check, the headers, the codes of
listed values, the payloads read from frames and the bytes of what is sent. -/

namespace Sys2Proof.Machine

/-! ### Bytes (R209: most significant byte first) -/

/-- The number that bytes spell, most significant first. -/
def beNat (bs : List Byte) : Nat := bs.foldl (fun a b => a * 256 + b.toNat) 0

/-- The number of `n` bytes at an offset. -/
def numAt (bs : List Byte) (offset n : Nat) : Nat := beNat ((bs.drop offset).take n)

/-- A flag at an offset: 1 is yes and any other value no (R209). -/
def flagAt (bs : List Byte) (offset : Nat) : Bool := numAt bs offset 1 == 1

/-- One byte. -/
def byte1 (n : Nat) : List Byte := [BitVec.ofNat 8 n]

/-- Two bytes, most significant first. -/
def byte2 (n : Nat) : List Byte := [BitVec.ofNat 8 (n / 256), BitVec.ofNat 8 n]

/-- Three bytes, most significant first. -/
def byte3 (n : Nat) : List Byte := BitVec.ofNat 8 (n / 65536) :: byte2 n

/-- Four bytes, most significant first. -/
def byte4 (n : Nat) : List Byte := BitVec.ofNat 8 (n / 16777216) :: byte3 n

/-- A flag as one byte, 1 for yes and 0 for no (R209). -/
def byteFlag (b : Bool) : List Byte := byte1 (if b then 1 else 0)

/-- An optional value: one byte before it says whether it is present, and an absent value is given as 0 (R209). -/
def byteOpt (enc : Nat → List Byte) : Option Nat → List Byte
  | some n => byte1 1 ++ enc n
  | none => byte1 0 ++ enc 0

/-! ### The check (R149) -/

/-- One bit into the cyclic check of polynomial x^16 + x^12 + x^5 + 1. -/
def crcBit (c : Word16) (b : Bool) : Word16 := if (c.msb != b) then (c <<< 1) ^^^ 0x1021#16 else c <<< 1

/-- One byte into the check, most significant bit first. -/
def crcByte (c : Word16) (b : Byte) : Word16 := [7, 6, 5, 4, 3, 2, 1, 0].foldl (fun c i => crcBit c (b.getLsbD i)) c

/-- The check over bytes, from an initial value of all ones. -/
def crc (bs : List Byte) : Word16 := bs.foldl crcByte 0xFFFF#16

/-- The bytes of a frame that the check covers: the header and the payload (R149, R209). -/
def frameCovered (f : Frame) : List Byte :=
  byte2 f.destination.toNat ++ [f.source, f.kind, f.length] ++ f.payload

/-- The longest payload (R149). -/
def maxPayload : Nat := 48

/-- A frame whose length is at most 48 and whose check matches what was received (R149, R196). -/
def frameGood (f : Frame) : Bool :=
  decide (f.length.toNat ≤ maxPayload) && f.wf && f.check == crc (frameCovered f)

/-- A frame as the part sends it, with its check (R149). The part is node 0, so the source is 0 (R171, R193). -/
def sendFrame (destination : Word16) (kind : Byte) (payload : List Byte) : Frame :=
  let f : Frame :=
    { destination := destination, source := 0, kind := kind, length := BitVec.ofNat 8 payload.length, payload := payload, check := 0 }
  { f with check := crc (frameCovered f) }

/-! ### Codes of listed values (R209: a value's position in its list, counting from 0) -/

def Place.code : Place → Nat
  | .out => 0
  | .fuelWait => 1
  | .fuelBay _ => 2
  | .washWait => 3
  | .wash _ => 4
  | .hold => 5
  | .directed _ => 6
  | .parked _ => 7
  | .leaving => 8
  | .lost => 9

def LaneKind.code : LaneKind → Nat
  | .through => 0
  | .deadEnd => 1

def OfficeState.code : OfficeState → Nat
  | .opened => 0
  | .entryClosed => 1
  | .closed => 2

def DutyState.code : DutyState → Nat
  | .vacant => 0
  | .bound => 1
  | .called => 2
  | .released => 3
  | .leaving => 4
  | .departed => 5
  | .missed => 6
  | .cancelled => 7

def DepartedAs.code : DepartedAs → Nat
  | .onTime => 0
  | .late => 1
  | .unreleased => 2
  | .unconfirmed => 3

def ClosedReason.code : ClosedReason → Nat
  | .office => 0
  | .fault => 1

def DispenserState.code : DispenserState → Nat
  | .closed _ => 0
  | .free => 1
  | .calling => 2
  | .docked => 3
  | .fuelling => 4
  | .clearing => 5

def WashState.code : WashState → Nat
  | .closed => 0
  | .ready => 1
  | .calling => 2
  | .washing => 3
  | .clearing => 4
  | .faulted => 5

def Programme.code : Programme → Nat
  | .full => 0
  | .short => 1

def Grade.code : Grade → Nat
  | .normal => 0
  | .restricted => 1
  | .out => 2

def ChannelState.code : ChannelState → Nat
  | .vacant => 0
  | .occupied => 1
  | .faulted => 2

def ChannelUse.code : ChannelUse → Nat
  | .laneEntry => 0
  | .laneExit => 1
  | .laneMouth => 2
  | .dispenserBay => 3
  | .spare => 4

def Role.code : Role → Nat
  | .gateIn => 0
  | .gateOut => 1
  | .detector => 2
  | .signal => 3
  | .dispenser => 4
  | .wash => 5

def Health.code : Health → Nat
  | .good => 0
  | .doubtful => 1
  | .cutOff => 2

def Result3.code : Result3 → Nat
  | .done => 0
  | .failed => 1
  | .aborted => 2

def ResultCode.code : ResultCode → Nat
  | .ok => 0
  | .busy => 1
  | .mode => 2
  | .range => 3
  | .conflict => 4
  | .window => 5
  | .unknown => 6

def Table.code : Table → Nat
  | .roster => 0
  | .classes => 1
  | .lanes => 2
  | .schedule => 3
  | .nodes => 4
  | .channels => 5
  | .dispensers => 6
  | .washLanes => 7
  | .groupHash => 8
  | .parameters => 9

def HeldReason.code : HeldReason → Nat
  | .noLane => 0
  | .listFull => 1
  | .restricted => 2

def SkipReason.code : SkipReason → Nat
  | .queueFull => 0
  | .missedTwice => 1
  | .retryFailed => 2
  | .restricted => 3
  | .waived => 4

def RejectReason.code : RejectReason → Nat
  | .unknownSource => 0
  | .wrongKind => 1
  | .badLength => 2

/-- The code of a notice kind, 1 upward (R191, R202, R204, R207). -/
def NoticeKind.code : NoticeKind → Nat
  | .stranger => 1
  | .reappeared => 2
  | .leftWithoutRelease => 3
  | .outWhileOut => 4
  | .laneUncertain => 5
  | .directionExpired => 6
  | .misroute => 7
  | .overfull => 8
  | .unexpectedExit => 9
  | .held => 10
  | .fuelSkipped => 11
  | .dispenserClosed => 12
  | .fuelAbandoned => 13
  | .bayMismatch => 14
  | .fuelDenied => 15
  | .noNozzleRequest => 16
  | .meterExcess => 17
  | .orphanDelivery => 18
  | .dispenserAlarm => 19
  | .stockBelowReserve => 20
  | .washSkipped => 21
  | .washGrade => 22
  | .washCallMissed => 23
  | .washAborted => 24
  | .washLaneOut => 25
  | .washEventIgnored => 26
  | .washWaived => 27
  | .washWaiverEnded => 28
  | .releaseWithdrawn => 29
  | .departed => 30
  | .dutyMissed => 31
  | .dutyLate => 32
  | .headStopFailed => 33
  | .released => 34
  | .releaseNoShow => 35
  | .exchange => 36
  | .dutyBlocked => 37
  | .loopFault => 38
  | .loopRecovered => 39
  | .frameRejected => 40
  | .relay => 41
  | .forwardOutcome => 42
  | .nodeHealth => 43
  | .wouldSend => 44
  | .loadCompleted => 45
  | .loadAbandoned => 46
  | .modeChanged => 47
  | .modeChangeDropped => 48
  | .restarted => 49

/-- The value of a "wash aborted" notice: the controller's reason code, or the free number of TIMEOUT or NO COMMAND (log 8). -/
def AbortReason.value : AbortReason → Word32
  | .controller n => BitVec.ofNat 32 n
  | .timeout => Config.abortTimeoutCode
  | .noCommand => Config.abortNoCommandCode

/-! ### Values read from their codes -/

def Mode.ofCode : Nat → Option Mode
  | 0 => some .configure
  | 1 => some .run
  | 2 => some .shadow
  | 3 => some .doze
  | _ => none

def LaneKind.ofCode : Nat → Option LaneKind
  | 0 => some .through
  | 1 => some .deadEnd
  | _ => none

def OfficeState.ofCode : Nat → Option OfficeState
  | 0 => some .opened
  | 1 => some .entryClosed
  | 2 => some .closed
  | _ => none

def ChannelUse.ofCode : Nat → Option ChannelUse
  | 0 => some .laneEntry
  | 1 => some .laneExit
  | 2 => some .laneMouth
  | 3 => some .dispenserBay
  | 4 => some .spare
  | _ => none

def Role.ofCode : Nat → Option Role
  | 0 => some .gateIn
  | 1 => some .gateOut
  | 2 => some .detector
  | 3 => some .signal
  | 4 => some .dispenser
  | 5 => some .wash
  | _ => none

def Table.ofCode : Nat → Option Table
  | 0 => some .roster
  | 1 => some .classes
  | 2 => some .lanes
  | 3 => some .schedule
  | 4 => some .nodes
  | 5 => some .channels
  | 6 => some .dispensers
  | 7 => some .washLanes
  | 8 => some .groupHash
  | 9 => some .parameters
  | _ => none

/-- The lowest index of a table (R202). -/
def Table.lowest : Table → Nat
  | .nodes => 1
  | .roster | .classes | .lanes | .schedule | .channels | .dispensers | .washLanes | .groupHash | .parameters => 0

/-- The highest index of a table plus 1 (R202). -/
def Table.limit : Table → Nat
  | .roster => 256
  | .classes => 4
  | .lanes => 32
  | .schedule => 256
  | .nodes => 64
  | .channels => 80
  | .dispensers => 6
  | .washLanes => 2
  | .groupHash => 64
  | .parameters => 1

/-- The size of a loaded record in bytes (R209). -/
def Table.recordSize : Table → Nat
  | .roster => 8
  | .classes => 4
  | .lanes => 11
  | .schedule => 7
  | .nodes => 3
  | .channels => 10
  | .dispensers => 7
  | .washLanes => 10
  | .groupHash => 1
  | .parameters => 30

/-! ### Field frames (R150, R151, R154, R209) -/

/-- The kind code of a report from a field node (R209). -/
def FieldReport.kindCode : FieldReport → Byte
  | .tag _ _ => 0x01
  | .sample _ _ => 0x02
  | .ack _ _ => 0x03
  | .health _ _ => 0x04
  | .nozzle _ => 0x05
  | .delivery _ _ => 0x06
  | .dispAlarm _ => 0x07
  | .washEvent _ _ => 0x08

/-- The kinds a role may send (R154). -/
def Role.maySend (r : Role) (kind : Byte) : Bool :=
  kind == 0x03 || kind == 0x04 ||
  match r with
  | .gateIn | .gateOut => kind == 0x01
  | .detector => kind == 0x02
  | .signal => false
  | .dispenser => kind == 0x05 || kind == 0x06 || kind == 0x07
  | .wash => kind == 0x08

/-- The readings of a SAMPLE payload, two bytes each. -/
def readingsOf : List Byte → List Nat
  | hi :: lo :: rest => (hi.toNat * 256 + lo.toNat) :: readingsOf rest
  | _ => []

/-- The payload fields of an accepted kind, or none when the length is not the kind's (R154, R209). -/
def readReport (kind : Byte) (p : List Byte) : Option FieldReport :=
  if kind = 0x01 then
    if p.length = 5 then some (.tag (numAt p 0 3) (if flagAt p 3 then some (numAt p 4 1) else none)) else none
  else if kind = 0x02 then
    if 2 ≤ p.length ∧ 1 ≤ numAt p 1 1 ∧ numAt p 1 1 ≤ 8 ∧ p.length = 2 + 2 * numAt p 1 1 then
      some (.sample (numAt p 0 1) (readingsOf (p.drop 2)))
    else none
  else if kind = 0x03 then
    if p.length = 2 then some (.ack (BitVec.ofNat 8 (numAt p 0 1)) (numAt p 1 1 == 0)) else none
  else if kind = 0x04 then
    if p.length = 2 then some (.health (flagAt p 0) (numAt p 1 1)) else none
  else if kind = 0x05 then
    if p.length = 3 then some (.nozzle (numAt p 0 3)) else none
  else if kind = 0x06 then
    if p.length = 3 then some (.delivery (numAt p 0 2) (flagAt p 2)) else none
  else if kind = 0x07 then
    if p.length = 1 then some (.dispAlarm (numAt p 0 1)) else none
  else if kind = 0x08 then
    if p.length = 2 then some (.washEvent (numAt p 0 1) (numAt p 1 1)) else none
  else none

/-- The kind code of a command (R209). -/
def CommandKind.code : CommandKind → Byte
  | .aspectSet => 0x20
  | .aspectClear => 0x21
  | .allStop => 0x22
  | .grant _ => 0x23
  | .refuse => 0x24
  | .washGo _ => 0x25
  | .quiet _ => 0x26
  | .forwarded k _ => k

/-- The seven reserved kinds, which the office may not forward (R151). -/
def reservedKind (kind : Byte) : Bool := decide (0x20 ≤ kind.toNat) && decide (kind.toNat ≤ 0x26)

/-! ### Command entries (R165, R166) -/

/-- The priority of a request, fixed by its purpose (R166). -/
def Purpose.priority : Purpose → Nat
  | .laneClear | .bayClear | .refuse | .washClear | .releaseStop _ _ | .quiet | .allStop => 3
  | .grant _ _ | .release _ _ => 2
  | .direction _ | .bayCall _ _ | .washCall _ _ | .washGo _ _ => 1
  | .forward => 0

/-- The release's ASPECT SET is the one request made one-shot (R166). -/
def Purpose.oneShot : Purpose → Bool
  | .release _ _ => true
  | .direction _ | .laneClear | .bayCall _ _ | .bayClear | .grant _ _ | .refuse | .washCall _ _ | .washClear | .washGo _ _
  | .releaseStop _ _ | .quiet | .allStop | .forward => false

/-- The requester's code: its position in the list of R165. -/
def Purpose.requesterCode : Purpose → Nat
  | .direction _ | .laneClear => 0
  | .bayCall _ _ | .bayClear | .grant _ _ | .refuse => 1
  | .washCall _ _ | .washClear | .washGo _ _ => 2
  | .release _ _ | .releaseStop _ _ => 3
  | .quiet => 4
  | .forward => 5
  | .allStop => 6

/-- The union of the outputs of contributions (R165). -/
def maskOf (cs : List Contribution) : Word16 := cs.foldl (fun m c => m ||| c.outputs) 0

/-- An entry's mask (R165). -/
def CommandEntry.mask (x : CommandEntry) : Word16 := maskOf x.contributions

/-- An entry's priority: the highest of its contributions (R165). -/
def CommandEntry.priority (x : CommandEntry) : Nat := x.contributions.foldl (fun p c => max p c.purpose.priority) 0

/-- An entry is one-shot when every contribution is (R165). -/
def CommandEntry.oneShot (x : CommandEntry) : Bool := x.contributions.all (fun c => c.purpose.oneShot)

/-- An entry that waits. -/
def CommandEntry.waiting (x : CommandEntry) : Bool := x.state == .waiting

/-- The payload bytes of a command (R209). -/
def CommandEntry.payload (x : CommandEntry) : List Byte :=
  match x.kind with
  | .aspectSet | .aspectClear => byte2 x.mask.toNat
  | .allStop | .refuse => []
  | .grant litres => byte2 litres
  | .washGo p => byte1 p.code
  | .quiet ms => byte2 ms
  | .forwarded _ bytes => bytes

/-- The frame of a command entry (R171). -/
def CommandEntry.frame (x : CommandEntry) : Frame := sendFrame (BitVec.ofNat 16 x.destination) x.kind.code x.payload

/-- The one output of a signal as a mask (R20). -/
def Signal.mask (sig : Signal) : Word16 := BitVec.ofNat 16 (2 ^ sig.output)

/-! ### Office frames (R193, R197, R209) -/

/-- The kind code of an ANSWER frame. -/
def answerKind : Byte := 0x41

/-- The kind code of a NOTICE frame. -/
def noticeKind : Byte := 0x42

/-- The kind code of an ORDER frame. -/
def orderKind : Byte := 0x40

/-- The payload of an ANSWER (R209). -/
def Answer.payload (a : Answer) : List Byte := a.status :: (byte1 a.result.code ++ [a.code, a.tag] ++ a.data)

/-- The presence byte of a notice: bits 0 to 6 for the seven subjects and bit 7 for the value (R209). -/
def Notice.presence (n : Notice) : Byte :=
  BitVec.ofBool n.value.isSome ++ BitVec.ofBool n.channel.isSome ++ BitVec.ofBool n.washLane.isSome
    ++ BitVec.ofBool n.dispenser.isSome ++ BitVec.ofBool n.node.isSome ++ BitVec.ofBool n.duty.isSome
    ++ BitVec.ofBool n.lane.isSome ++ BitVec.ofBool n.bus.isSome

/-- The bytes of a NOTICE before its subjects: kind, class, yard second, clock minute, 65,535 when absent, and presence (R209). -/
def Notice.head (n : Notice) : List Byte :=
  byte1 n.kind.code ++ byteFlag (!n.kind.routine) ++ byte4 n.yardSecond ++ byte2 (n.clockMinute.getD 65535) ++ [n.presence]

/-- The byte of a subject at its position; that of an absent subject is a free value (log 45). -/
def Notice.subjectByte (n : Notice) (position : Nat) : Option Nat → List Byte
  | some x => byte1 x
  | none => [Config.absentNoticeByte n.head position]

/-- The four bytes of the value; those of an absent value are free values (log 45). -/
def Notice.valueBytes (n : Notice) : List Byte :=
  match n.value with
  | some v => byte4 v.toNat
  | none => [16, 17, 18, 19].map (Config.absentNoticeByte n.head)

/-- The payload of a NOTICE: the seven subjects at 9 to 15 and the value at 16 to 19 (R209). What the bytes of an absent subject or value hold no
rule says (log 45). -/
def Notice.payload (n : Notice) : List Byte :=
  n.head ++ n.subjectByte 9 n.bus ++ n.subjectByte 10 n.lane ++ n.subjectByte 11 n.duty ++ n.subjectByte 12 n.node
    ++ n.subjectByte 13 n.dispenser ++ n.subjectByte 14 n.washLane ++ n.subjectByte 15 n.channel ++ n.valueBytes

/-- The frame of an answer. -/
def Answer.frame (a : Answer) : Frame := sendFrame (Config.officeDestination answerKind) answerKind a.payload

/-- The frame of a notice. -/
def Notice.frame (n : Notice) : Frame := sendFrame (Config.officeDestination noticeKind) noticeKind n.payload

/-! ### Answer data: records and entries field after field (R209) -/

/-- The bytes of a signal: node and output. -/
def Signal.bytes (sig : Signal) : List Byte := byte1 sig.node ++ byte1 sig.output

/-- A class record (R2). -/
def ClassRec.bytes (r : ClassRec) : List Byte := byteFlag r.valid ++ byte1 r.length ++ byte2 r.capacity

/-- The place detail: a presence byte, then the lane, dispenser or wash lane and the position, each 0 where it does not
apply (R209). The position of a PARKED bus is where it stands in its lane (R6). -/
def State.placeDetail (s : State) (b : Nat) : List Byte :=
  match (s.bus b).place with
  | .fuelBay d => byte1 1 ++ byte1 d ++ byte1 0
  | .wash w => byte1 1 ++ byte1 w ++ byte1 0
  | .directed l => byte1 1 ++ byte1 l ++ byte1 0
  | .parked l => byte1 1 ++ byte1 l ++ byte1 ((s.lane l).contents.idxOf (.bus b))
  | .out | .fuelWait | .washWait | .hold | .leaving | .lost => byte1 0 ++ byte1 0 ++ byte1 0

/-- A bus record: loaded fields, then the live fields in the order of R5. -/
def State.busBytes (s : State) (b : Nat) : List Byte :=
  let r := s.bus b
  byteFlag r.valid ++ byte2 r.fleet ++ byte3 r.tag ++ byte1 r.cls ++ byte1 r.washInterval ++ byte1 r.place.code
    ++ s.placeDetail b ++ byteOpt byte1 r.level ++ byte1 r.nights ++ byteFlag r.washNow ++ byteFlag r.fuelSkipped
    ++ byteFlag r.fuelMissed ++ byteFlag r.washSkipped ++ byteOpt byte1 r.boundDuty ++ byte4 r.lastSeen

/-- The loaded fields of a lane record (R209). -/
def LaneRec.loadedBytes (r : LaneRec) : List Byte :=
  byteFlag r.valid ++ byte1 r.kind.code ++ byte1 r.length ++ byte1 r.classMask.toNat ++ byte1 r.cost ++ r.entrySignal.bytes
    ++ r.headSignal.bytes ++ byte1 r.entryLoop ++ byte1 r.exitLoop

/-- An entry of a lane's contents as READ LANE gives it (R43): bus or placeholder, the bus and its fleet number, the length and
the departure. -/
def State.laneEntryBytes (s : State) (x : LaneEntry) : List Byte :=
  match x with
  | .bus b => byte1 0 ++ byte1 b ++ byte2 (s.bus b).fleet ++ byte1 (s.entryLength x) ++ byte2 (s.entryDeparture x)
  | .placeholder => byte1 1 ++ byte1 0 ++ byte2 0 ++ byte1 (s.entryLength x) ++ byte2 (s.entryDeparture x)

/-- As many whole entries as fit in the room left (R199). -/
def fitting (room : Nat) : List (List Byte) → List Byte
  | [] => []
  | x :: xs => if x.length ≤ room then x ++ fitting (room - x.length) xs else []

/-- The bytes an answer's data may take: a 48-byte payload less the four bytes every ANSWER carries (R199, R209). -/
def answerRoom : Nat := 44

/-- A head, the total of the entries in two bytes, and as many whole entries from the first position on as fit (R199, R209). -/
def listData (head : List Byte) (first : Nat) (entries : List (List Byte)) : List Byte :=
  head ++ byte2 entries.length ++ fitting (answerRoom - (head.length + 2)) (entries.drop first)

/-- A duty record: loaded fields, the live fields in the order of R109, and planned_s. -/
def State.dutyBytes (s : State) (d : Nat) : List Byte :=
  let r := s.duty d
  byteFlag r.valid ++ byte2 r.code ++ byte2 r.planned ++ byte1 r.cls ++ byte1 r.minLevel ++ byte1 r.state.code
    ++ byteOpt byte1 r.bus ++ byteOpt byte1 r.pin ++ byteOpt byte1 r.releaseLane ++ byteFlag r.late ++ byteFlag r.blocked
    ++ byteFlag r.unreleased ++ byteOpt byte1 (r.departedAs.map DepartedAs.code) ++ byte2 (s.plannedS d)

/-- A node record: loaded fields, then score, health, recovery run, outstanding mark and shadow (R180). -/
def State.nodeBytes (s : State) (n : Nat) : List Byte :=
  let r := s.node n
  byteFlag r.valid ++ byte1 r.role.code ++ byte1 r.roleIndex ++ byte1 r.score ++ byte1 (s.health n).code ++ byte1 r.recovery
    ++ byteFlag r.mark ++ byte2 r.shadow.toNat

/-- A channel record: loaded fields, then the live fields in the order of R137. -/
def ChannelRec.bytes (r : ChannelRec) : List Byte :=
  byteFlag r.valid ++ byte1 r.node ++ byte1 r.input ++ byte1 r.use.code ++ byte1 r.k ++ byte1 r.hold ++ byte2 r.onDelta
    ++ byte2 r.offDelta ++ byteOpt byte2 r.baseline ++ byte4 r.sum ++ byte1 r.count ++ byte1 r.discard ++ byte1 r.state.code
    ++ byteOpt byte1 (r.candidate.map ChannelState.code) ++ byte1 r.run ++ byte1 r.goodRun

/-- The closed reason of a dispenser as one byte, 0 where it does not apply (log 15). -/
def DispenserState.reasonCode : DispenserState → Nat
  | .closed r => r.code
  | .free | .calling | .docked | .fuelling | .clearing => 0

/-- The occupant of a dispenser: presence, the bus, and the fields it keeps (R65, R209). -/
def fuelOccupantBytes : Option FuelOccupant → List Byte
  | some o => byte1 1 ++ byte1 o.bus ++ byte1 o.priority ++ byte4 o.enqueuedAt ++ byte1 o.misses
  | none => byte1 0 ++ byte1 0 ++ byte1 0 ++ byte4 0 ++ byte1 0

/-- A dispenser record: loaded fields, then the live fields in the order of R65. -/
def DispenserRec.bytes (r : DispenserRec) : List Byte :=
  byteFlag r.valid ++ byte1 r.island ++ byte1 r.classMask.toNat ++ byte1 r.controller ++ r.baySignal.bytes ++ byte1 r.bayLoop
    ++ byte1 r.state.code ++ byte1 r.state.reasonCode ++ fuelOccupantBytes r.occupant ++ byteOpt byte2 r.grant
    ++ byteFlag r.closeAtEnd ++ byte4 r.since

/-- The occupant of a wash lane: presence, the bus, and the fields it keeps (R91, R93, R209). -/
def washOccupantBytes : Option WashEntry → List Byte
  | some o => byte1 1 ++ byte1 o.bus ++ byte4 o.enqueuedAt ++ byteFlag o.missedOnce ++ byteFlag o.retried
  | none => byte1 0 ++ byte1 0 ++ byte4 0 ++ byteFlag false ++ byteFlag false

/-- A wash-lane record: loaded fields, then the live fields in the order of R91 and the grade. -/
def WashLaneRec.bytes (r : WashLaneRec) : List Byte :=
  byteFlag r.valid ++ byte1 r.classMask.toNat ++ byte1 r.controller ++ r.entrySignal.bytes ++ byte2 r.fullTime
    ++ byte2 r.shortTime ++ byte1 r.clearBase ++ byte1 r.state.code ++ washOccupantBytes r.occupant
    ++ byteOpt byte1 (r.programme.map Programme.code) ++ byteOpt byte4 r.deadline ++ byte1 r.score ++ byte1 r.pacing
    ++ byteFlag r.closeAtEnd ++ byte4 r.since ++ byte1 r.grade.code

/-- The parameters record (R209). -/
def Params.bytes (p : Params) : List Byte :=
  byte2 p.dayStart ++ byte1 p.callLead ++ byte1 p.grace ++ byte1 p.abandon ++ byte1 p.fuelSkipLevel ++ byte4 p.reserve
    ++ byte1 p.minimumGrant ++ byte2 p.callTimeout ++ byte2 p.dockingTimeout ++ byte2 p.directionTimeout
    ++ byte2 p.releaseTimeout ++ byte2 p.leavingTimeout ++ byte2 p.washMargin ++ byteFlag p.allowInversion
    ++ byte2 p.quietTime ++ byte2 p.detectorTag ++ byte2 p.signalTag

/-- A lane record in READ RECORD: loaded fields, office state, uncertain, and the contents as READ LANE gives them (log 15). -/
def State.laneBytes (s : State) (l : Nat) : List Byte :=
  let r := s.lane l
  listData (r.loadedBytes ++ byte1 r.office.code ++ byteFlag r.uncertain) 0 (r.contents.map s.laneEntryBytes)

/-- The data of READ RECORD (R199). -/
def State.recordBytes (s : State) (t : Table) (i : Nat) : List Byte :=
  match t with
  | .roster => s.busBytes i
  | .classes => (s.cls i).bytes
  | .lanes => s.laneBytes i
  | .schedule => s.dutyBytes i
  | .nodes => s.nodeBytes i
  | .channels => (s.channel i).bytes
  | .dispensers => (s.dispenser i).bytes
  | .washLanes => (s.washLane i).bytes
  | .groupHash => byteFlag (tget s.field.groupHash i)
  | .parameters => s.params.bytes

/-- The duty a lane's release record names and that duty's state, or absent (R43): a presence byte, then one byte each. -/
def State.releaseBytes (s : State) (l : Nat) : List Byte :=
  match (s.release l).bind (fun r => r.duty) with
  | some d => byte1 1 ++ byte1 d ++ byte1 (s.duty d).state.code
  | none => byte1 0 ++ byte1 0 ++ byte1 0

/-- The data of READ LANE (R43). -/
def State.laneData (s : State) (l first : Nat) : List Byte :=
  let r := s.lane l
  listData
    (r.loadedBytes ++ byte1 r.office.code ++ byteFlag r.uncertain ++ byteFlag (s.entryAllowed l) ++ byteFlag (s.releaseAllowed l)
      ++ byte1 (s.usedBays l) ++ byte1 (s.freeBays l) ++ byte1 (s.directionsTo l).length ++ s.releaseBytes l)
    first ((if r.valid then r.contents else []).map s.laneEntryBytes)

/-- An entry of the fuel queue as READ QUEUE gives it (R61). -/
def State.fuelEntryBytes (s : State) (x : FuelEntry) : List Byte :=
  byte1 x.bus ++ byte1 x.priority ++ byte4 x.enqueuedAt ++ byte1 x.misses ++ byte1 x.turnsLeft ++ byteOpt byte4 x.deadline
    ++ byteFlag x.front ++ byte2 (s.bus x.bus).fleet

/-- An entry of the wash queue as READ QUEUE gives it (R88). -/
def State.washEntryBytes (s : State) (x : WashEntry) : List Byte :=
  byte1 x.bus ++ byte4 x.enqueuedAt ++ byteFlag x.missedOnce ++ byteFlag x.retried ++ byte2 (s.bus x.bus).fleet
    ++ byte1 (s.bus x.bus).cls

/-- An entry of the hold list as READ QUEUE gives it (R46). -/
def State.holdEntryBytes (s : State) (b : Nat) : List Byte :=
  byte1 b ++ byte2 (s.bus b).fleet ++ byteOpt byte1 (s.bus b).boundDuty ++ byte4 (s.bus b).lastSeen

/-- A direction record as READ QUEUE gives it (R29). -/
def Direction.bytes (d : Direction) : List Byte := byte1 d.bus ++ byte1 d.lane ++ byte4 d.issuedAt

/-- The mask of an aspect entry, or the payload length of any other (R165). -/
def CommandEntry.maskOrLength (x : CommandEntry) : Nat :=
  match x.kind with
  | .aspectSet | .aspectClear => x.mask.toNat
  | .allStop | .grant _ | .refuse | .washGo _ | .quiet _ | .forwarded _ _ => x.payload.length

/-- A command entry as READ QUEUE gives it (R165, R209). -/
def CommandEntry.bytes (x : CommandEntry) : List Byte :=
  [x.kind.code] ++ byte2 x.destination ++ byte2 x.maskOrLength ++ byte1 x.priority ++ byteFlag x.oneShot ++ byte1 x.attempts
    ++ byteFlag (!x.waiting) ++ byte1 x.contributions.length
    ++ x.contributions.flatMap fun c => byte1 c.purpose.requesterCode

/-- The data of READ QUEUE for queue 0 to 4 (R199, R209). -/
def State.queueData (s : State) (q first : Nat) : Option (List Byte) :=
  match q with
  | 0 => some (listData [] first (s.fuel.queue.map s.fuelEntryBytes))
  | 1 => some (listData [] first (s.wash.queue.map s.washEntryBytes))
  | 2 => some (listData [] first (s.holdList.map s.holdEntryBytes))
  | 3 => some (listData [] first (s.laneMap.directions.map Direction.bytes))
  | 4 => some (listData [] first (s.commands.queue.map CommandEntry.bytes))
  | _ => none

end Sys2Proof.Machine
end

