-- ==== Sys2Proof/Machine/Commands.lean ====
section
/-! DEFINITION. The command queue (09_command_queue_signals_and_node_health.md): taking a request, merging aspects, failing at once,
the arbiter, ending an attempt, shadows, and node scores and health. -/

namespace Sys2Proof.Machine

/-- The capacity of the command queue (R165). -/
def commandCapacity : Nat := 24

/-! ### Shadows (R174) -/

/-- The effect of a done aspect entry on the node's shadow; a node whose role is not SIGNAL keeps its shadow (R174). -/
def Ev.updateShadow (e : Ev) (destination : Nat) (kind : CommandKind) (mask : Word16) : Ev :=
  let r := e.node destination
  if isNode destination && r.role == .signal then
    match kind with
    | .aspectSet => e.setNode destination { r with shadow := r.shadow ||| mask }
    | .aspectClear => e.setNode destination { r with shadow := r.shadow &&& ~~~mask }
    | .allStop | .grant _ | .refuse | .washGo _ | .quiet _ | .forwarded _ _ => e
  else e

/-- Every output of every shadow off (R174, R175). -/
def Ev.clearShadows (e : Ev) : Ev := { e with nodes := tmap (fun _ r => { r with shadow := 0 }) e.nodes }

/-! ### Failing at once (R170) -/

/-- An entry that fails at once: it waits, its destination is a node without outstanding mark, and that node is CUT OFF or has
no valid record (R170). Entries before it to the same node fail with it. -/
def State.failsNow (s : State) (x : CommandEntry) : Bool :=
  x.waiting && isNode x.destination && !(s.node x.destination).mark && s.unreachable x.destination

/-- Every entry that has become eligible and cannot be sent fails, oldest first (R170). -/
def Ev.failAtOnce (e : Ev) : Ev :=
  let bad := e.commands.queue.filter e.failsNow
  bad.foldl (fun e x => e.decideAll x.kind x.destination .failed x.contributions)
    (e.setCommands (e.commands.queue.filter fun x => !e.failsNow x))

/-! ### Merging aspects (R168, R169) -/

/-- Take outputs out of a waiting entry's contributions; a contribution left with none is withdrawn. -/
def strip (mask : Word16) (cs : List Contribution) : List Contribution :=
  (cs.map fun c => { c with outputs := c.outputs &&& ~~~mask }).filter fun c => c.outputs != 0

/-- The contributions withdrawn by taking outputs out: those left with none. -/
def stripped (mask : Word16) (cs : List Contribution) : List Contribution :=
  cs.filter fun c => c.outputs &&& ~~~mask == 0

/-- A WAITING entry of a kind to a destination. -/
def CommandEntry.mergeable (x : CommandEntry) (kind : CommandKind) (destination : Nat) : Bool :=
  x.waiting && x.kind == kind && x.destination == destination

/-- Take the outputs out of the waiting entries of the opposite aspect to the node (R168 step 1, R169 step 1). -/
def Ev.stripOpposite (e : Ev) (opposite : CommandKind) (destination : Nat) (mask : Word16) : Ev :=
  let hit (x : CommandEntry) : Bool := x.mergeable opposite destination
  let withdrawn := (e.commands.queue.filter hit).flatMap fun x => stripped mask x.contributions
  let kept := (e.commands.queue.map fun x => if hit x then { x with contributions := strip mask x.contributions } else x).filter
    fun x => !x.contributions.isEmpty
  (e.setCommands kept).decideAll opposite destination .aborted withdrawn

/-- Add a contribution to the first WAITING entry of the kind to the node. A failed attempt may leave two of them, and the earlier is taken (log 41). -/
def addTo (kind : CommandKind) (destination : Nat) (c : Contribution) : List CommandEntry → List CommandEntry
  | [] => []
  | x :: xs =>
    if x.mergeable kind destination then { x with contributions := x.contributions ++ [c] } :: xs
    else x :: addTo kind destination c xs

/-! ### Taking a request (R167, R181) -/

/-- A request as a new entry: WAITING, no attempts, one contribution (R167 step 3). -/
def Ev.append (e : Ev) (destination : Nat) (kind : CommandKind) (c : Contribution) : Ev :=
  let id := e.nextSerial.1
  let e := e.nextSerial.2
  e.setCommands (e.commands.queue ++
    [{ id := id, kind := kind, destination := destination, contributions := [c], attempts := 0, state := .waiting }])

/-- A WAITING entry of priority 0, which a priority-3 request may evict (R167). -/
def CommandEntry.evictable (x : CommandEntry) : Bool := x.waiting && x.priority == 0

/-- The room rule (R167 step 3): a new entry, an eviction and a new entry, or a refusal. -/
def Ev.takeRoom (e : Ev) (destination : Nat) (kind : CommandKind) (c : Contribution) : Ev :=
  if e.commands.queue.length < commandCapacity then e.append destination kind c
  else if c.purpose.priority = 3 then
    match removeLast CommandEntry.evictable e.commands.queue with
    | (rest, some x) =>
      ((e.setCommands rest).decideAll x.kind x.destination .aborted x.contributions).append destination kind c
    | (_, none) => e.decideAll kind destination .failed [c]
  else e.decideAll kind destination .failed [c]

/-- A request taken in RUN or DOZE: merged where the merge rules find an entry, and otherwise given a place (R167 steps 2, 3). -/
def Ev.takeQueued (e : Ev) (destination : Nat) (kind : CommandKind) (c : Contribution) : Ev :=
  let e :=
    match kind with
    | .aspectSet => e.stripOpposite .aspectClear destination c.outputs
    | .aspectClear => e.stripOpposite .aspectSet destination c.outputs
    | .allStop | .grant _ | .refuse | .washGo _ | .quiet _ | .forwarded _ _ => e
  let aspect := kind == .aspectSet || kind == .aspectClear
  if aspect && e.commands.queue.any (fun x => x.mergeable kind destination) then
    e.setCommands (addTo kind destination c e.commands.queue)
  else e.takeRoom destination kind c

/-- A request taken in SHADOW: completed in the event of its request, as failed or as done (R181). The "would send" notice is sent at the request, and
what the done outcome sends stands behind it, at the outcome's delivery (log 47). -/
def Ev.takeShadow (e : Ev) (destination : Nat) (kind : CommandKind) (c : Contribution) : Ev :=
  if isNode destination && e.unreachable destination then e.decideAll kind destination .failed [c]
  else
    ((e.decideAll kind destination .done [c]).updateShadow destination kind c.outputs).send
      { e.note .wouldSend with
        node := if isNode destination then some destination else none
        value := noteValue kind.code.toNat }

/-- The mode test of R167 step 1: in CONFIGURE, and below priority 3 while a mode change is pending, a request is refused. -/
def State.refusesRequest (s : State) (priority : Nat) : Bool :=
  s.mode == .configure || (s.changePending && decide (priority < 3))

/-- A block places a request with the command queue (R167). -/
def Ev.request (e : Ev) (destination : Nat) (kind : CommandKind) (c : Contribution) : Ev :=
  if e.refusesRequest c.purpose.priority then e.decideAll kind destination .failed [c]
  else if e.mode = .shadow then e.takeShadow destination kind c
  else (e.takeQueued destination kind c).failAtOnce

/-- A request for an aspect of one signal output. -/
def Ev.requestAspect (e : Ev) (sig : Signal) (kind : CommandKind) (p : Purpose) : Ev :=
  e.request sig.node kind { purpose := p, outputs := sig.mask }

/-- ASPECT CLEAR for a signal output, at priority 3, not awaited. -/
def Ev.requestClear (e : Ev) (sig : Signal) (p : Purpose) : Ev := e.requestAspect sig .aspectClear p

/-- A request for a command without outputs. -/
def Ev.requestPlain (e : Ev) (destination : Nat) (kind : CommandKind) (p : Purpose) : Ev :=
  e.request destination kind { purpose := p, outputs := 0 }

/-- Every shadow off, and ALL STOP to the signal group tag requested (R175). -/
def Ev.allStop (e : Ev) : Ev := (e.clearShadows).requestPlain e.params.signalTag .allStop .allStop

/-- The requests of an entry are taken anew in SHADOW. -/
def Ev.takeAgain (e : Ev) (x : CommandEntry) : Ev := x.contributions.foldl (fun e c => e.takeShadow x.destination x.kind c) e

/-- Clear the queue without any outcome, and every outstanding mark (R182, R183). A frame on the line is completed and then forgotten: R183 says so of a
restart, and at an entry to CONFIGURE it is the model's choice (log 48). -/
def Ev.clearCommands (e : Ev) : Ev :=
  { e.setCommands [] with nodes := tmap (fun _ r => { r with mark := false }) e.nodes }

/-- A wake from DOZE into SHADOW, where the queue holds no entry and nothing is transmitted (R181, R206): the queue and the marks are cleared, and the
requests that stood in the queue, WAITING or SENT, are taken anew in SHADOW, head to tail (log 32). -/
def Ev.finishInShadow (e : Ev) : Ev := e.commands.queue.foldl Ev.takeAgain e.clearCommands

/-! ### Node scores and health (R178) -/

/-- A dispenser's record names the node (R66). -/
def DispenserRec.names (r : DispenserRec) (n : Nat) : Bool := r.valid && (r.controller == n || r.baySignal.node == n)

/-- A wash lane's record names the node (R93). -/
def WashLaneRec.names (r : WashLaneRec) (n : Nat) : Bool := r.valid && (r.controller == n || r.entrySignal.node == n)

/-- A wash lane would be callable for some class (R93): every condition but the bus's class holds. -/
def State.washOpen (s : State) (w : Nat) : Bool :=
  (s.washLane w).valid && (s.washLane w).state == .ready && !((s.washLane w).grade == .out) && s.washNodesUp w

/-- Tell the fuel and wash schedulers of a health change out of CUT OFF: a dispenser that names the node triggers the fuel
calling pass (R66, R67), a wash lane that becomes callable the wash calling pass (R93). -/
def Ev.tellOutOfCutOff (e : Ev) (n : Nat) : Ev :=
  { e with
    fuelDue := e.fuelDue || e.fuel.dispensers.toList.any fun r => r.names n
    washDue := e.washDue || (indices e.wash.lanes).any fun w => (e.washLane w).names n && e.washOpen w }

/-- Set a node's score, and derive its health again with the effects of a change (R178): the notice, the lane map and the
schedulers told, and the recovery run 0 on a change to CUT OFF. The entries that fail by it fail by `failAtOnce`. -/
def Ev.setScore (e : Ev) (n score : Nat) : Ev :=
  let before := e.toState
  let r := e.node n
  let e := e.setNode n { r with score := score, recovery := if healthOf score = .cutOff ∧ healthOf r.score ≠ .cutOff then 0 else r.recovery }
  if healthOf score = healthOf r.score then e
  else
    let e := (e.send { e.note .nodeHealth with node := some n, value := noteValue (healthOf score).code }).comparePermissions before
    if healthOf r.score = .cutOff then e.tellOutOfCutOff n else e

/-- A node's score 0, health GOOD and recovery run 0, with the effects of a health change (R179, R182). -/
def Ev.restoreNode (e : Ev) (n : Nat) : Ev :=
  let e := e.setScore n 0
  e.setNode n { e.node n with recovery := 0 }

/-! ### The port arbiter (R170, R171) -/

/-- The eligible entries, in request order, given the destinations of the entries before (R170). -/
def State.eligibleFrom (s : State) (before : List Nat) : List CommandEntry → List CommandEntry
  | [] => []
  | x :: xs =>
    let rest := s.eligibleFrom (x.destination :: before) xs
    if x.waiting && !before.contains x.destination && (!isNode x.destination || !(s.node x.destination).mark) then x :: rest
    else rest

/-- The entries the arbiter chooses among (R170, R171). -/
def State.eligible (s : State) : List CommandEntry := s.eligibleFrom [] s.commands.queue

/-- The highest priority, and the earliest of it: a later entry wins only by a higher priority (R171). -/
def better (best : Option CommandEntry) (x : CommandEntry) : Option CommandEntry :=
  match best with
  | none => some x
  | some y => if y.priority < x.priority then some x else some y

/-- The entry the port arbiter chooses (R171), among the eligible entries that can be sent: an eligible entry to a node that cannot be
reached has failed at once (R170), so none is left out. -/
def State.arbiter (s : State) : Option CommandEntry :=
  (s.eligible.filter fun x => !(isNode x.destination && s.unreachable x.destination)).foldl better none

/-- Replace the entry of a number. -/
def replaceEntry (id : Nat) (f : CommandEntry → CommandEntry) (q : List CommandEntry) : List CommandEntry :=
  q.map fun x => if x.id = id then f x else x

/-- Transmit the chosen entry (R171): SENT, attempts +1, the node's mark set, the frame on the line. -/
def Ev.transmit (e : Ev) (x : CommandEntry) : Ev :=
  let e := e.setCommands (replaceEntry x.id (fun x => { x with state := .sent false, attempts := x.attempts + 1 }) e.commands.queue)
  let e := if isNode x.destination then e.setNode x.destination { e.node x.destination with mark := true } else e
  { e with commands.tx := some { frame := x.frame, entry := x.id } }

/-! ### The end of an attempt (R172) -/

/-- An entry ends as done: its contributions receive done, and a done aspect entry updates the shadow (R172, R174). -/
def Ev.entryDone (e : Ev) (x : CommandEntry) : Ev :=
  ((e.setCommands (removeFirst (fun y => y.id == x.id) e.commands.queue)).updateShadow x.destination x.kind x.mask).decideAll
    x.kind x.destination .done x.contributions

/-- The attempt of an entry to a node is done (R172): the mark cleared, the score down by 1, the entry done. -/
def Ev.attemptDone (e : Ev) (x : CommandEntry) : Ev :=
  let e := e.setNode x.destination { e.node x.destination with mark := false }
  let e := e.setScore x.destination ((e.node x.destination).score - 1)
  (e.entryDone x).failAtOnce

/-- The most attempts at an entry (R172). -/
def maxAttempts : Nat := 3

/-- The attempt of an entry to a node has failed (R172): the mark cleared, the score up by 8, the one-shot contributions withdrawn;
then the entry waits for its retry, or fails. -/
def Ev.attemptFailed (e : Ev) (x : CommandEntry) : Ev :=
  let e := e.setNode x.destination { e.node x.destination with mark := false }
  let e := e.setScore x.destination (min 255 ((e.node x.destination).score + 8))
  let gone := x.contributions.filter fun c => c.purpose.oneShot
  let left := x.contributions.filter fun c => !c.purpose.oneShot
  let e := e.decideAll x.kind x.destination .failed gone
  let e :=
    if !left.isEmpty && decide (x.attempts < maxAttempts) then
      e.setCommands (replaceEntry x.id (fun y => { y with state := .waiting, contributions := left }) e.commands.queue)
    else
      (e.setCommands (removeFirst (fun y => y.id == x.id) e.commands.queue)).decideAll x.kind x.destination .failed left
  e.failAtOnce

/-- The SENT entry to a node, if there is one (R177: at most one). -/
def State.sentTo (s : State) (n : Nat) : Option CommandEntry :=
  s.commands.queue.find? fun x => !x.waiting && isNode x.destination && x.destination == n

/-- An ACK from a node: it ends the attempt of the node's SENT entry when its echoed kind is the entry's (R172). -/
def Ev.takeAck (e : Ev) (n : Nat) (echoed : Byte) (ok : Bool) : Ev :=
  match e.sentTo n with
  | some x =>
    if x.kind.code = echoed then (if ok then e.attemptDone x else e.attemptFailed x) else e
  | none => e

/-- Withdraw every WAITING entry, each contribution aborted, in request order (R176). -/
def Ev.abortWaiting (e : Ev) : Ev :=
  (e.commands.queue.filter CommandEntry.waiting).foldl
    (fun e x => e.decideAll x.kind x.destination .aborted x.contributions)
    (e.setCommands (e.commands.queue.filter fun x => !x.waiting))

/-- A HEALTH frame at the command queue: the recovery run of a CUT OFF node (R179). -/
def Ev.takeHealth (e : Ev) (n : Nat) (ready : Bool) : Ev :=
  if e.cutOff n then
    if ready then
      if 8 ≤ (e.node n).recovery + 1 then e.restoreNode n
      else e.setNode n { e.node n with recovery := (e.node n).recovery + 1 }
    else e.setNode n { e.node n with recovery := 0 }
  else e

end Sys2Proof.Machine
end

