-- ==== Sys2Proof/Machine/Bindings.lean ====
section
/-! DEFINITION. Bindings of buses to duties, departures of duties, and the stop of a release (06_pull_out.md, R110 to R112, R119):
the pull-out scheduler's rules by which every other block acts on duties. -/

namespace Sys2Proof.Machine

/-- The stop of a lane's release record (R119): ASPECT CLEAR for the head signal is requested at priority 3 and the record goes
to STOPPING, naming the duty given. -/
def Ev.stopRelease (e : Ev) (l : Nat) (duty : Option Nat) : Ev :=
  let t := e.nextSerial.1
  let e := e.nextSerial.2.setRelease l (some { duty := duty, phase := .stopping, ticket := t })
  e.requestClear (e.lane l).head (.releaseStop l t)

/-- Bind a bus to a duty (R110). While a schedule load window is open nothing is bound. -/
def Ev.bind (e : Ev) (b d : Nat) : Ev :=
  if e.scheduleWindow then e
  else
    (e.setDuty d { e.duty d with bus := some b, state := .bound }).setBus b { e.bus b with boundDuty := some d }

/-- The counter of a departure (R185). -/
def DepartedAs.counter : DepartedAs → Counter
  | .onTime => .departuresOnTime
  | .late => .departuresLate
  | .unreleased => .departuresUnreleased
  | .unconfirmed => .departuresUnconfirmed

/-- Departed as, by the dominance order (R112 step 4). -/
def DutyRec.dominance (r : DutyRec) (classified : DepartedAs) : DepartedAs :=
  if r.unreleased then .unreleased
  else
    match classified with
    | .unreleased => .unreleased
    | .unconfirmed => .unconfirmed
    | .late => .late
    | .onTime => if r.late then .late else .onTime

/-- A duty departs with a classification (R112). -/
def Ev.depart (e : Ev) (d : Nat) (classified : DepartedAs) : Ev :=
  let r := e.duty d
  let e :=
    if r.state == .called || r.state == .released then
      match r.releaseLane with
      | some l => e.stopRelease l (some d)
      | none => e
    else e
  let r := e.duty d
  let r : DutyRec := { r with unreleased := r.unreleased || classified == DepartedAs.unreleased }
  let how := r.dominance classified
  let e := e.setDuty d { r with state := .departed, releaseLane := none, departedAs := some how }
  (e.count how.counter).send { e.note .departed with duty := some d, bus := r.bus, value := noteValue how.code }

/-- Clear the names of a binding on both sides (R111). -/
def Ev.clearNames (e : Ev) (b d : Nat) : Ev :=
  (e.setDuty d { e.duty d with bus := none }).setBus b { e.bus b with boundDuty := none }

/-- Withdraw the release of a duty (R111): stop at the release lane's head, the record ceasing to name the duty. -/
def Ev.withdrawRelease (e : Ev) (d : Nat) : Ev :=
  match (e.duty d).releaseLane with
  | some l =>
    let e := e.stopRelease l none
    let e := e.setDuty d { e.duty d with state := .vacant, releaseLane := none }
    e.send { e.note .releaseWithdrawn with duty := some d, lane := some l }
  | none => e.setDuty d { e.duty d with state := .vacant }

/-- Unbind a bus from its duty, by the state of the duty (R111). An unbound bus is left as it is. -/
def Ev.unbind (e : Ev) (b : Nat) : Ev :=
  match (e.bus b).boundDuty with
  | none => e
  | some d =>
    match (e.duty d).state with
    | .bound => (e.setDuty d { e.duty d with state := .vacant }).clearNames b d
    | .called | .released => (e.withdrawRelease d).clearNames b d
    | .leaving => (e.depart d .unconfirmed).clearNames b d
    | .departed | .vacant | .missed | .cancelled => e.clearNames b d

/-- The duty of a bus, if it is bound, departs with a classification (R13 to R16). -/
def Ev.departBus (e : Ev) (b : Nat) (classified : DepartedAs) : Ev :=
  match (e.bus b).boundDuty with
  | some d => e.depart d classified
  | none => e

/-- Clear the pin of every duty that meets a test (R5, R129). -/
def Ev.clearPins (e : Ev) (p : Nat → DutyRec → Bool) : Ev :=
  { e with pullOut.duties := tmap (fun i r => if p i r then { r with pin := none } else r) e.pullOut.duties }

/-! ### Rebinding (R131) -/

/-- Duties in order of planned_s, then of index (R120, R131): a duty is put before the first that is later. -/
def State.insertByPlanned (s : State) (d : Nat) : List Nat → List Nat
  | [] => [d]
  | x :: xs => if s.plannedS d < s.plannedS x then d :: x :: xs else x :: s.insertByPlanned d xs

/-- Duty indices, given in index order, in order of planned_s and then of index. -/
def State.byPlanned (s : State) (ds : List Nat) : List Nat := ds.foldl (fun acc d => s.insertByPlanned d acc) []

/-- Some valid OPEN duty's pin names the bus (R131). -/
def State.pinReserved (s : State) (b : Nat) : Bool :=
  s.pullOut.duties.toList.any fun r => r.valid && r.state == .vacant && r.pin == some b

/-- The buses of a class that may be bound by depth, each with its depth, in order of lane and position (R131 step 2). -/
def State.rebindable (s : State) (c : Nat) : List (Nat × Nat) :=
  (indices s.laneMap.lanes).flatMap fun l =>
    ((s.lane l).contents.zipIdx.filterMap fun x =>
      match x.1 with
      | .bus b =>
        if (s.bus b).boundDuty.isNone && (s.bus b).cls == c && !s.pinReserved b then some (x.2, b) else none
      | .placeholder => none)

/-- The first of least depth: the lower lane wins a tie, since the lanes are taken in order (R131). -/
def shallowest : List (Nat × Nat) → Option (Nat × Nat)
  | [] => none
  | x :: xs =>
    match shallowest xs with
    | none => some x
    | some y => if y.1 < x.1 then some y else some x

/-- Bind one OPEN duty in the rebinding pass (R131). -/
def Ev.rebindOne (e : Ev) (d : Nat) : Ev :=
  match (e.duty d).pin with
  | some b => if (e.bus b).valid && (e.bus b).boundDuty.isNone then e.bind b d else e
  | none =>
    match shallowest (e.rebindable (e.duty d).cls) with
    | some x => e.bind x.2 d
    | none => e

/-- The valid OPEN duties of a class, by planned_s and index, are bound one after another (R131). -/
def Ev.rebindClass (e : Ev) (c : Nat) : Ev :=
  (e.byPlanned ((indices e.pullOut.duties).filter fun d => (e.duty d).valid && (e.duty d).state == .vacant && (e.duty d).cls == c)).foldl
    Ev.rebindOne e

/-- The rebinding pass: the classes in turn (R131). -/
def Ev.rebind (e : Ev) : Ev := [0, 1, 2, 3].foldl Ev.rebindClass e

end Sys2Proof.Machine
end

