-- ==== Sys2Proof/Machine/Assign.lean ====
section
/-! DEFINITION. The lane assigner (03_lane_assignment.md) and the direction list of the lane map (R29 to R33): provisional binding,
eligibility, score, choice, the issue of a direction and its leaving the list, and the hold list. -/

namespace Sys2Proof.Machine

/-- The capacity of the direction list (R29). -/
def directionCapacity : Nat := 8

/-! ### The direction list (R29, R31) -/

/-- A direction leaves the list (R31): ASPECT CLEAR when no other direction to its lane remains, and a trigger of the re-run
when the list passes from 8 records to fewer. -/
def Ev.leaveDirection (e : Ev) (d : Direction) : Ev :=
  let full := decide (directionCapacity ≤ e.laneMap.directions.length)
  let e := e.setDirections (removeFirst (fun x => x == d) e.laneMap.directions)
  let e := if (e.directionsTo d.lane).isEmpty then e.requestClear (e.lane d.lane).entrySignal .laneClear else e
  if full && decide (e.laneMap.directions.length < directionCapacity) then e.triggerRerun else e

/-- A direction leaves the list and its bus turns LOST, with last seen set: the end of a direction by expiry or by misroute (R32, R58). -/
def Ev.loseDirected (e : Ev) (d : Direction) : Ev := (e.leaveDirection d).setPlace d.bus .lost

/-- The pending direction of a bus (R29). -/
def State.directionOf (s : State) (b : Nat) : Option Direction := s.laneMap.directions.find? fun d => d.bus == b

/-- A bus joins the hold list at its tail, with place HOLD and last seen set (R45). -/
def Ev.joinHold (e : Ev) (b : Nat) : Ev := (e.setHold (e.holdList ++ [b])).setPlace b .hold

/-- A bus is taken off the hold list (R45). -/
def Ev.leaveHold (e : Ev) (b : Nat) : Ev := e.setHold (e.holdList.filter fun x => x != b)

/-! ### Step 1: provisional binding (R50) -/

/-- The duty of smallest planned_s, and of lowest index among equals, given in index order (R50). -/
def State.earliest (s : State) : List Nat → Option Nat
  | [] => none
  | d :: ds =>
    match s.earliest ds with
    | none => some d
    | some x => if s.plannedS x < s.plannedS d then some x else some d

/-- The valid OPEN duties whose pin names the bus (R50 step 1). -/
def State.pinnedFor (s : State) (b : Nat) : List Nat :=
  (indices s.pullOut.duties).filter fun d => (s.duty d).valid && (s.duty d).state == .vacant && (s.duty d).pin == some b

/-- The valid OPEN unpinned duties of a class later than now_s plus call lead; no lower bound while the clock is invalid
(R50 step 2). -/
def State.nextFor (s : State) (c : Nat) : List Nat :=
  (indices s.pullOut.duties).filter fun d =>
    (s.duty d).valid && (s.duty d).state == .vacant && (s.duty d).pin == none && (s.duty d).cls == c
      && (!s.clock.valid || decide (s.nowS + s.params.callLead < s.plannedS d))

/-- The duty the assigner asks to be bound to an unbound bus: its pin, or the next duty of its class (R50). -/
def State.provisional (s : State) (b : Nat) : Option Nat :=
  match s.earliest (s.pinnedFor b) with
  | some d => some d
  | none => s.earliest (s.nextFor (s.bus b).cls)

/-- Step 1 of an attempt (R50): a bound bus keeps its duty, an unbound one is bound to a duty if one is found. -/
def Ev.bindProvisional (e : Ev) (b : Nat) : Ev :=
  if (e.bus b).boundDuty.isSome then e
  else
    match e.provisional b with
    | some d => e.bind b d
    | none => e

/-! ### Steps 2 and 3: eligibility and score (R52, R53) -/

/-- The score of a lane for a departure t (R53). -/
def State.score (s : State) (l t : Nat) : Nat :=
  let c := (s.lane l).cost
  match s.joinEnd l with
  | none => 320 + c
  | some x =>
    let b := s.entryDeparture x
    match (s.lane l).kind with
    | .through => if b ≤ t then min (t - b) 255 + c else 1024 + 4 * min (b - t) 240 + c
    | .deadEnd => if t ≤ b then min (b - t) 255 + c else 1024 + 4 * min (t - b) 240 + c

/-- Conditions 1 to 5 of eligibility (R52). -/
def State.scorable (s : State) (l b : Nat) : Bool :=
  (s.lane l).valid && s.entryAllowed l && inMask (s.lane l).classMask (s.bus b).cls && decide (s.busLength b ≤ s.openBays l)
    && ((s.lane l).kind == .through || (s.release l).isNone)

/-- A lane is eligible for a bus (R52). -/
def State.laneEligible (s : State) (l b : Nat) : Bool :=
  s.scorable l b && (s.params.allowInversion || decide (s.score l (s.busDeparture b) < 1024))

/-! ### Step 4: choice (R55) -/

/-- Lane l is chosen before lane m, of a higher index: a lower score, or at equal scores a better or equal fit (R55). -/
def State.prefers (s : State) (b l m : Nat) : Bool :=
  let t := s.busDeparture b
  decide (s.score l t < s.score m t) ||
    (s.score l t == s.score m t && decide (s.openBays l - s.busLength b ≤ s.openBays m - s.busLength b))

/-- The best of lanes given in index order (R55). -/
def State.bestLane (s : State) (b : Nat) : List Nat → Option Nat
  | [] => none
  | l :: ls =>
    match s.bestLane b ls with
    | none => some l
    | some m => if s.prefers b l m then some l else some m

/-- The lane the assigner chooses for a bus, if any is eligible (R55). -/
def State.chosenLane (s : State) (b : Nat) : Option Nat :=
  s.bestLane b ((indices s.laneMap.lanes).filter fun l => s.laneEligible l b)

/-! ### The attempt (R56) -/

/-- The issue of a direction (R29, R56). -/
def Ev.direct (e : Ev) (b l : Nat) : Ev :=
  let t := e.nextSerial.1
  let e := (e.nextSerial.2.leaveHold b).setDirections (e.laneMap.directions ++ [{ bus := b, lane := l, issuedAt := e.now, ticket := t }])
  (e.setPlace b (.directed l)).requestAspect (e.lane l).entrySignal .aspectSet (.direction t)

/-- An attempt ends without a direction: a bus not yet on the hold list joins it, with a "held" notice (R56). -/
def Ev.holdBus (e : Ev) (b : Nat) (r : HeldReason) : Ev :=
  if e.holdList.contains b then e
  else (e.joinHold b).send { e.note .held with bus := some b, value := noteValue r.code }

/-- An assignment attempt for a bus (R47, R49, R56). -/
def Ev.attempt (e : Ev) (b : Nat) : Ev :=
  let e := e.bindProvisional b
  if e.restricted then e.holdBus b .restricted
  else
    match e.chosenLane b with
    | none => e.holdBus b .noLane
    | some l => if e.laneMap.directions.length < directionCapacity then e.direct b l else e.holdBus b .listFull

end Sys2Proof.Machine
end

