-- ==== Sys2Proof/Machine/Wash.lean ====
section
/-! DEFINITION. The wash scheduler (05_wash_lanes.md): the wash test, the queue and its skips, calls, cycles and aborts, clearing,
the waiver, and what the restart does to the lanes. -/

namespace Sys2Proof.Machine

/-- The capacity of the wash queue (R88). -/
def washCapacity : Nat := 24

/-! ### Skips and the queue (R89, R103) -/

/-- A wash skip (R89): the flag, the count, the notice, and the bus handed on to the lane test. -/
def Ev.washSkip (e : Ev) (b : Nat) (r : SkipReason) : Ev :=
  let e := (e.setBus b { e.bus b with washSkipped := true }).count .washSkipped
  (e.send { e.note .washSkipped with bus := some b, value := noteValue r.code }).attempt b

/-- A due wash passed over at the wash test because the class is waived: the flag and the count, no notice (R103). -/
def Ev.passOverWash (e : Ev) (b : Nat) : Ev :=
  ((e.setBus b { e.bus b with washSkipped := true }).count .washSkipped).attempt b

/-- A bus joins the wash queue at the head or at the tail, with place WASH_WAIT and last seen set (R88). -/
def Ev.joinWash (e : Ev) (x : WashEntry) (head : Bool) : Ev :=
  (e.setWashQueue (if head then x :: e.wash.queue else e.wash.queue ++ [x])).setPlace x.bus .washWait

/-- The wash queue is full (R89). -/
def State.washFull (s : State) : Bool := decide (washCapacity ≤ s.wash.queue.length)

/-- The wash scheduler takes a bus handed over for a wash: it is enqueued at the tail, or skipped at a full queue (R89). -/
def Ev.enqueueWash (e : Ev) (b : Nat) : Ev :=
  if e.washFull then e.washSkip b .queueFull
  else (e.joinWash { bus := b, enqueuedAt := e.now, missedOnce := false, retried := false } false).triggerWash

/-- A bus returns to the wash queue. A bus of a waived class is skipped WAIVED, a bus that finds the queue full QUEUE FULL
(R89, R103). A return may be a trigger of the calling pass (R93) or not (R94, R107). -/
def Ev.returnWash (e : Ev) (x : WashEntry) (head trigger : Bool) : Ev :=
  if e.waived (e.bus x.bus).cls then e.washSkip x.bus .waived
  else if e.washFull then e.washSkip x.bus .queueFull
  else if trigger then (e.joinWash x head).triggerWash
  else e.joinWash x head

/-- The wash is due for a bus (R12 step 2). -/
def State.washDueFor (s : State) (b : Nat) : Bool :=
  decide ((s.bus b).washInterval ≤ (s.bus b).nights) || (s.bus b).washNow

/-- The wash test of routing (R12 step 2), and the lane test after it. -/
def Ev.washTest (e : Ev) (b : Nat) : Ev :=
  if e.washDueFor b then
    if e.waived (e.bus b).cls then e.passOverWash b else e.enqueueWash b
  else e.attempt b

/-! ### Lanes (R91) -/

/-- A wash lane changes state; state since is set (R91). -/
def Ev.washState (e : Ev) (w : Nat) (st : WashState) : Ev :=
  e.setWashLane w { e.washLane w with state := st, since := e.now }

/-- Set a fault score, and derive the grade again with its notice (R91). -/
def Ev.setFaultScore (e : Ev) (w score : Nat) : Ev :=
  let r := e.washLane w
  let e := e.setWashLane w { r with score := score }
  if gradeOf score = r.grade then e
  else e.send { e.note .washGrade with washLane := some w, value := noteValue (gradeOf score).code }

/-- A lane that would go to a state goes to CLOSED when close at end is on, which then goes off (R104). -/
def Ev.closeOr (e : Ev) (w : Nat) (st : WashState) : Ev :=
  if (e.washLane w).closeAtEnd then (e.setWashLane w { e.washLane w with closeAtEnd := false }).washState w .closed
  else e.washState w st

/-- A lane goes to READY, or to CLOSED when close at end is on; entry into READY triggers the calling pass (R93, R104). -/
def Ev.enterReady (e : Ev) (w : Nat) : Ev :=
  let ready := !(e.washLane w).closeAtEnd
  let e := e.closeOr w .ready
  if ready then e.triggerWash else e

/-- The clearing time of a lane for a pacing (R98). -/
def WashLaneRec.clearingTime (r : WashLaneRec) (pacing : Nat) : Nat := if 0 < pacing then 4 * r.clearBase else r.clearBase

/-- A lane goes to CLEARING, with the deadline of its clearing time for a pacing (R98). -/
def Ev.enterClearingWash (e : Ev) (w pacing : Nat) : Ev :=
  let e := e.setWashLane w { e.washLane w with deadline := some (e.now + (e.washLane w).clearingTime pacing) }
  e.washState w .clearing

/-- The occupant and the programme of a lane become absent. -/
def Ev.emptyWash (e : Ev) (w : Nat) : Ev := e.setWashLane w { e.washLane w with occupant := none, programme := none }

/-- A bus is called to a lane (R93). -/
def Ev.callWash (e : Ev) (x : WashEntry) (w : Nat) : Ev :=
  let t := e.nextSerial.1
  let e := e.nextSerial.2.setWashQueue (e.wash.queue.filter fun y => y.bus != x.bus)
  let prog : Programme := if (e.washLane w).grade = .restricted ∨ e.pullOutActive = true then .short else .full
  let e := (e.setWashLane w { e.washLane w with occupant := some x, programme := some prog, callTicket := t }).washState w .calling
  (e.setPlace x.bus (.wash w)).requestAspect (e.washLane w).entrySignal .aspectSet (.washCall w t)

/-- The entry signal of a call failed or was aborted (R94): the lane to READY, the bus to the queue head; neither is a trigger,
and both are passed over by the passes of this event. -/
def Ev.washSignalFailed (e : Ev) (w : Nat) : Ev :=
  match (e.washLane w).occupant with
  | some x =>
    let e := (e.emptyWash w).closeOr w .ready
    let e := e.returnWash x true false
    { e with washBack := x.bus :: e.washBack, washLanesBack := w :: e.washLanesBack }
  | none => (e.emptyWash w).closeOr w .ready

/-- The call timeout of a lane (R95). -/
def Ev.washCallTimedOut (e : Ev) (w : Nat) : Ev :=
  let occ := (e.washLane w).occupant
  let e := e.requestClear (e.washLane w).entrySignal .washClear
  let e := (e.emptyWash w).enterReady w
  match occ with
  | some x =>
    if x.missedOnce then e.washSkip x.bus .missedTwice
    else
      let e := e.returnWash { x with missedOnce := true } false true
      e.send { e.note .washCallMissed with bus := some x.bus, washLane := some w }
  | none => e

/-- The running time of a lane's programme. -/
def WashLaneRec.programmeTime (r : WashLaneRec) : Nat :=
  match r.programme with
  | some .short => r.shortTime
  | some .full => r.fullTime
  | none => r.fullTime

/-- "entered" in CALLING with no mode change pending (R96). -/
def Ev.washEntered (e : Ev) (w : Nat) : Ev :=
  let e := e.washState w .washing
  let e := e.requestClear (e.washLane w).entrySignal .washClear
  let t := e.nextSerial.1
  let r := e.washLane w
  let e := e.nextSerial.2.setWashLane w
    { r with deadline := some (e.now + r.programmeTime + e.params.washMargin), goTicket := t }
  e.requestPlain r.controller (.washGo (r.programme.getD .full)) (.washGo w t)

/-- "entered" in CALLING while a mode change is pending (R96): the bus is skipped, the lane clears. -/
def Ev.washEnteredRestricted (e : Ev) (w : Nat) : Ev :=
  let occ := (e.washLane w).occupant
  let e := e.requestClear (e.washLane w).entrySignal .washClear
  let e := e.emptyWash w
  let e :=
    match occ with
    | some x => e.washSkip x.bus .restricted
    | none => e
  e.enterClearingWash w (e.washLane w).pacing

/-- "done" in WASHING (R98): a good wash. -/
def Ev.washDone (e : Ev) (w : Nat) : Ev :=
  let occ := (e.washLane w).occupant
  let e :=
    match occ with
    | some x => e.setBus x.bus { e.bus x.bus with nights := 0, washNow := false }
    | none => e
  let e := e.count .washGood
  let e := e.setFaultScore w ((e.washLane w).score - 1)
  let pacing := (e.washLane w).pacing
  let e := (e.setWashLane w { e.washLane w with pacing := pacing - 1 }).emptyWash w
  let e :=
    match occ with
    | some x => e.attempt x.bus
    | none => e
  e.enterClearingWash w pacing

/-- An abort of a lane's cycle (R99). -/
def Ev.washAbort (e : Ev) (w : Nat) (reason : AbortReason) : Ev :=
  let occ := (e.washLane w).occupant
  let e := e.setFaultScore w (min 255 ((e.washLane w).score + 8))
  let e := (e.setWashLane w { e.washLane w with pacing := 8 }).count .washAborted
  let e := e.send
    { e.note .washAborted with washLane := some w, bus := occ.map WashEntry.bus, value := some reason.value }
  let e := (e.setWashLane w { e.washLane w with occupant := none, programme := none, deadline := none }).closeOr w .faulted
  match occ with
  | some x =>
    if x.retried then e.washSkip x.bus .retryFailed
    else e.returnWash { x with retried := true } true true
  | none => e

/-- "ready" in FAULTED (R100). -/
def Ev.washReady (e : Ev) (w : Nat) : Ev :=
  if (e.washLane w).grade = .out then e.send { e.note .washLaneOut with washLane := some w }
  else e.enterClearingWash w (e.washLane w).pacing

/-- A wash event that is not acted on (R101): the notice, with the event code as received. -/
def Ev.washIgnored (e : Ev) (w code : Nat) : Ev :=
  e.send { e.note .washEventIgnored with washLane := some w, value := noteValue code }

/-- A WASH EVENT "entered" for a lane (R96, R101). -/
def Ev.eventEntered (e : Ev) (w : Nat) : Ev :=
  if (e.washLane w).state = .calling then
    if e.changePending then e.washEnteredRestricted w else e.washEntered w
  else e.washIgnored w 1

/-- A WASH EVENT "done" for a lane (R98, R101). -/
def Ev.eventDone (e : Ev) (w : Nat) : Ev := if (e.washLane w).state = .washing then e.washDone w else e.washIgnored w 2

/-- A WASH EVENT "aborted" for a lane, with the controller's reason code (R99, R101). -/
def Ev.eventAborted (e : Ev) (w reason : Nat) : Ev :=
  if (e.washLane w).state = .washing then e.washAbort w (.controller reason) else e.washIgnored w 3

/-- A WASH EVENT "ready" for a lane (R100, R101). -/
def Ev.eventReady (e : Ev) (w : Nat) : Ev := if (e.washLane w).state = .faulted then e.washReady w else e.washIgnored w 4

/-- The end of clearing (R98): the deadline absent, and READY or CLOSED. -/
def Ev.washCleared (e : Ev) (w : Nat) : Ev :=
  (e.setWashLane w { e.washLane w with deadline := none }).enterReady w

/-- A bus in WASH is taken out of the yard state: the lane's occupant slot is emptied (R102). -/
def Ev.takeOutOfWash (e : Ev) (w : Nat) : Ev :=
  if (e.washLane w).state = .calling then
    let e := e.requestClear (e.washLane w).entrySignal .washClear
    (e.emptyWash w).enterReady w
  else e.setWashLane w { e.washLane w with occupant := none }

/-! ### The waiver (R103) -/

/-- A class becomes waived: its waiting buses are skipped, oldest first, and the notice is sent (R103). -/
def Ev.startWaiver (e : Ev) (c : Nat) : Ev :=
  let e : Ev := { e with wash.waived := tset e.wash.waived c true }
  let gone := e.wash.queue.filter fun x => (e.bus x.bus).cls == c
  let e := e.setWashQueue (e.wash.queue.filter fun x => (e.bus x.bus).cls != c)
  let e := gone.foldl (fun e x => e.washSkip x.bus .waived) e
  e.send { e.note .washWaived with value := noteValue c }

/-- A class ceases to be waived (R103). -/
def Ev.endWaiver (e : Ev) (c : Nat) : Ev :=
  let e : Ev := { e with wash.waived := tset e.wash.waived c false }
  e.send { e.note .washWaiverEnded with value := noteValue c }

/-- Derive the waiver of one class again (R103). -/
def Ev.deriveWaiverOf (e : Ev) (c : Nat) : Ev :=
  if e.waiverDue c = e.waived c then e
  else if e.waiverDue c then e.startWaiver c
  else e.endWaiver c

/-- Derive the waiver of every class again (R103), the classes in the order of their numbers (log 38). -/
def Ev.deriveWaiver (e : Ev) : Ev := [0, 1, 2, 3].foldl Ev.deriveWaiverOf e

/-! ### Office orders (R104, R105) and the restart (R107) -/

/-- CLOSE WASH LANE on a valid lane (R104). Close at end that is on in CLEARING stays on in CLOSED (log 51). -/
def Ev.closeWash (e : Ev) (w : Nat) : Ev :=
  match (e.washLane w).state with
  | .ready | .clearing | .faulted => (e.setWashLane w { e.washLane w with deadline := none }).washState w .closed
  | .closed => e
  | .calling | .washing => e.setWashLane w { e.washLane w with closeAtEnd := true }

/-- REOPEN WASH LANE on a valid lane (R105). -/
def Ev.reopenWash (e : Ev) (w : Nat) : Ev :=
  let e := e.setFaultScore w 0
  let e := e.setWashLane w { e.washLane w with pacing := 0, closeAtEnd := false }
  match (e.washLane w).state with
  | .closed | .faulted => (e.setWashLane w { e.washLane w with deadline := none }).enterReady w
  | .ready | .clearing | .calling | .washing => e

/-- A warm restart, or entry to CONFIGURE, settles a wash lane: CALLING goes to READY and its bus to the queue head (R107). -/
def Ev.settleWashLane (e : Ev) (w : Nat) : Ev :=
  if (e.washLane w).state = .calling then
    let occ := (e.washLane w).occupant
    let e := (e.emptyWash w).enterReady w
    match occ with
    | some x => e.returnWash x true false
    | none => e
  else e

/-- Both wash lanes settled (R107), lane 0 and then lane 1, so that of two returned buses lane 1's stands first (log 26). -/
def Ev.settleWash (e : Ev) : Ev := (indices e.wash.lanes).foldl Ev.settleWashLane e

end Sys2Proof.Machine
end

