-- ==== Sys2Proof/Machine/Fuel.lean ====
section
/-! DEFINITION. The fuel scheduler (04_fuel_turns_and_stock.md): the fuel queue and its skips, calls, docking, misses, grants,
deliveries, alarms, closures, and what the restart does to the dispensers. -/

namespace Sys2Proof.Machine

/-- The capacity of the fuel queue (R61). -/
def fuelCapacity : Nat := 40

/-! ### The queue (R61 to R63) -/

/-- An entry stands before a new one: front first, then higher priority, then earlier enqueued at, then joining order (R61). A bus that returns to its
"original position" (R68, R79) joins anew, and so stands behind those that agree with it on all three (log 42). -/
def FuelEntry.before (y x : FuelEntry) : Bool :=
  if y.front != x.front then y.front
  else if y.priority != x.priority then decide (x.priority < y.priority)
  else decide (y.enqueuedAt ≤ x.enqueuedAt)

/-- The queue with an entry at the position the order gives it (R61). -/
def insertFuel (x : FuelEntry) : List FuelEntry → List FuelEntry
  | [] => [x]
  | y :: ys => if y.before x then y :: insertFuel x ys else x :: y :: ys

/-- The newest entry of a priority: the latest enqueued at, and among equals the one that stands last (R61). -/
def newestOf (p : Nat) (q : List FuelEntry) : Option FuelEntry :=
  q.foldl (fun best x =>
    if x.priority == p then
      match best with
      | none => some x
      | some y => if y.enqueuedAt ≤ x.enqueuedAt then some x else some y
    else best) none

/-- The lowest priority present in a queue (R63). -/
def lowestPriority (q : List FuelEntry) : Nat := q.foldl (fun p x => min p x.priority) 3

/-- A fuel skip (R63): the flag, the count, the notice, and the bus handed on to the wash test. That the notice stands before those of the hand-over is the
model's choice (log 49). -/
def Ev.fuelSkip (e : Ev) (b priority : Nat) : Ev :=
  let e := (e.setBus b { e.bus b with fuelSkipped := true }).count .fuelSkipped
  (e.send { e.note .fuelSkipped with bus := some b, value := noteValue priority }).washTest b

/-- An entry is inserted: the bus's place becomes FUEL_WAIT with last seen set, and the calling pass is triggered (R62, R67). -/
def Ev.insertFuelEntry (e : Ev) (x : FuelEntry) : Ev :=
  ((e.setFuelQueue (insertFuel x e.fuel.queue)).setPlace x.bus .fuelWait).triggerFuel

/-- A bus joins the fuel queue, by the rule of R63 at a full queue. -/
def Ev.joinFuel (e : Ev) (x : FuelEntry) : Ev :=
  if e.fuel.queue.length < fuelCapacity then e.insertFuelEntry x
  else if x.priority = 3 ∧ lowestPriority e.fuel.queue < 3 then
    match newestOf (lowestPriority e.fuel.queue) e.fuel.queue with
    | some y =>
      let e := e.setFuelQueue (e.fuel.queue.filter fun z => z.bus != y.bus)
      (e.fuelSkip y.bus y.priority).insertFuelEntry x
    | none => e.fuelSkip x.bus x.priority
  else e.fuelSkip x.bus x.priority

/-- The priority of an enqueue, from the bus's level and wash-now (R62). -/
def BusRec.fuelPriority (r : BusRec) : Nat :=
  match r.level with
  | none => 2
  | some v => if r.washNow && decide (50 ≤ v) then 0 else if v < 20 then 3 else if v < 50 then 2 else 1

/-- The fuel scheduler takes a bus handed over by the fuel test (R62). -/
def Ev.enqueueFuel (e : Ev) (b : Nat) : Ev :=
  e.joinFuel
    { bus := b, priority := (e.bus b).fuelPriority, enqueuedAt := e.now, misses := 0, turnsLeft := 0, deadline := none, front := false }

/-- An occupant's bus returns to the queue with its entry's fields, not deferred, at the head or at its original position. -/
def Ev.returnFuel (e : Ev) (o : FuelOccupant) (front : Bool) : Ev :=
  e.joinFuel
    { bus := o.bus, priority := o.priority, enqueuedAt := o.enqueuedAt, misses := o.misses, turnsLeft := 0, deadline := none,
      front := front }

/-- The occupant of a dispenser, if there is one, returns to the queue. -/
def Ev.returnOccupant (e : Ev) (o : Option FuelOccupant) (front : Bool) : Ev :=
  match o with
  | some o => e.returnFuel o front
  | none => e

/-! ### Dispensers (R65, R78) -/

/-- A dispenser changes state; state since is set (R65). -/
def Ev.dispState (e : Ev) (d : Nat) (st : DispenserState) : Ev :=
  e.setDispenser d { e.dispenser d with state := st, since := e.now }

/-- A dispenser goes to FREE, a trigger of the calling pass (R78). -/
def Ev.enterFree (e : Ev) (d : Nat) : Ev := (e.dispState d .free).triggerFuel

/-- A dispenser enters CLEARING; CLOSED instead when close at end is on; and FREE in the same event when its bay loop's accepted
state is VACANT (R78). -/
def Ev.enterClearing (e : Ev) (d : Nat) : Ev :=
  if (e.dispenser d).closeAtEnd then
    (e.setDispenser d { e.dispenser d with closeAtEnd := false }).dispState d (.closed .office)
  else
    let e := e.dispState d .clearing
    if (e.channel (e.dispenser d).bayLoop).state = .vacant then e.enterFree d else e

/-- A dispenser goes to CLOSED with reason fault; with close at end on it takes reason office and turns it off (R82). -/
def Ev.closeForFault (e : Ev) (d : Nat) : Ev :=
  let r := e.dispenser d
  (e.setDispenser d { r with closeAtEnd := false }).dispState d (.closed (if r.closeAtEnd then .office else .fault))

/-- The occupant slot of a dispenser is emptied. -/
def Ev.emptyDispenser (e : Ev) (d : Nat) : Ev := e.setDispenser d { e.dispenser d with occupant := none }

/-- ASPECT CLEAR for the bay signal, at priority 3, not awaited. -/
def Ev.clearBay (e : Ev) (d : Nat) : Ev := e.requestClear (e.dispenser d).baySignal .bayClear

/-- A grant is released without a delivery: committed down by it, the grant absent (R74, R81). -/
def Ev.releaseGrant (e : Ev) (d : Nat) : Ev :=
  match (e.dispenser d).grant with
  | some g =>
    let e : Ev := { e with fuel.committed := e.fuel.committed - g }
    (e.setDispenser d { e.dispenser d with grant := none }).deriveReserve
  | none => e

/-! ### Calls (R67 to R70) -/

/-- A bus is called to a dispenser: steps 1 to 4 of a call (R67). -/
def Ev.callFuel (e : Ev) (x : FuelEntry) (d : Nat) : Ev :=
  let t := e.nextSerial.1
  let e := e.nextSerial.2.setFuelQueue (e.fuel.queue.filter fun y => y.bus != x.bus)
  let o : FuelOccupant := { bus := x.bus, priority := x.priority, enqueuedAt := x.enqueuedAt, misses := x.misses }
  let e := (e.setDispenser d { e.dispenser d with occupant := some o, callTicket := t }).dispState d .calling
  (e.setPlace x.bus (.fuelBay d)).requestAspect (e.dispenser d).baySignal .aspectSet (.bayCall d t)

/-- A deferred entry after the call of another bus: turns left down by 1, and at 0 the deferral ends (R67 step 5). -/
def FuelEntry.afterCall (x : FuelEntry) : FuelEntry :=
  if x.deadline.isSome then
    { x with turnsLeft := x.turnsLeft - 1, deadline := if x.turnsLeft - 1 = 0 then none else x.deadline }
  else x

/-- Step 5 of a call: the deferred entries that wait are lowered, if the dispenser is still CALLING for the bus (R67). -/
def Ev.lowerTurns (e : Ev) (d b : Nat) : Ev :=
  if (e.dispenser d).state = .calling ∧ (e.dispenser d).occupant.map FuelOccupant.bus = some b then
    e.setFuelQueue (e.fuel.queue.map FuelEntry.afterCall)
  else e

/-- The bay signal of a call failed or was aborted (R68). -/
def Ev.baySignalFailed (e : Ev) (d : Nat) : Ev :=
  let o := (e.dispenser d).occupant
  let e := (e.closeForFault d).emptyDispenser d
  let e := e.returnOccupant o false
  e.send { e.note .dispenserClosed with dispenser := some d }

/-- Docking: OCCUPIED on the bay loop of a CALLING dispenser (R69). -/
def Ev.dock (e : Ev) (d : Nat) : Ev := (e.dispState d .docked).clearBay d

/-- The turns left after a number of misses (R70). -/
def turnsAfter (misses : Nat) : Nat := if misses = 1 then 1 else if misses = 2 then 2 else 4

/-- The bus of a call that timed out: deferred in the queue, or its turn abandoned at the fourth miss (R70 step 3). -/
def Ev.missedCall (e : Ev) (o : FuelOccupant) (d : Nat) : Ev :=
  if o.misses + 1 ≤ 3 then
    e.joinFuel
      { bus := o.bus, priority := o.priority, enqueuedAt := o.enqueuedAt, misses := o.misses + 1, turnsLeft := turnsAfter (o.misses + 1),
        deadline := some (e.now + turnsAfter (o.misses + 1) * 60), front := false }
  else
    let e := (e.setBus o.bus { e.bus o.bus with fuelMissed := true }).count .fuelAbandoned
    (e.send { e.note .fuelAbandoned with bus := some o.bus, dispenser := some d }).washTest o.bus

/-- The call timeout of a dispenser (R70). -/
def Ev.callTimedOut (e : Ev) (d : Nat) : Ev :=
  let o := (e.dispenser d).occupant
  let e := ((e.clearBay d).enterFree d).emptyDispenser d
  match o with
  | some o => e.missedCall o d
  | none => e

/-- The end of a deferral (R70): the deadline absent and turns left 0. -/
def FuelEntry.endDeferral (x : FuelEntry) : FuelEntry := { x with turnsLeft := 0, deadline := none }

/-- The end of a bus's deferral by its deadline, a trigger of the calling pass (R70). -/
def Ev.deferralEnds (e : Ev) (b : Nat) : Ev :=
  (e.setFuelQueue (e.fuel.queue.map fun x => if x.bus = b then x.endDeferral else x)).triggerFuel

/-- A turn ends with no fuel: the docking timeout, or a bay left before the request (R75). -/
def Ev.dockingTimedOut (e : Ev) (d : Nat) : Ev :=
  match (e.dispenser d).occupant with
  | some o =>
    let e := (e.setBus o.bus { e.bus o.bus with fuelMissed := true }).count .fuelAbandoned
    let e := e.send { e.note .noNozzleRequest with bus := some o.bus, dispenser := some d }
    ((e.emptyDispenser d).washTest o.bus).enterClearing d
  | none => e.enterClearing d

/-! ### Grants (R72 to R74) -/

/-- REFUSE to the dispenser's controller, at priority 3, not awaited (R72). -/
def Ev.refuseNozzle (e : Ev) (d : Nat) : Ev := e.requestPlain (e.dispenser d).controller .refuse .refuse

/-- The limit of a grant: the litres that would fill the tank, rounded up; the full capacity for an unknown level (R73). -/
def fuelLimit (capacity : Nat) : Option Nat → Nat
  | some v => (capacity * (100 - v) + 99) / 100
  | none => capacity

/-- The litres available to an occupant: the free stock less the reserve, which is waived at priority 3 (R73). -/
def State.available (s : State) (priority : Nat) : Nat := s.freeStock - (if priority = 3 then 0 else s.params.reserve)

/-- The litres to grant, or none for a denial (R73). -/
def State.grantFor (s : State) (o : FuelOccupant) : Option Nat :=
  let limit := fuelLimit (s.cls (s.bus o.bus).cls).capacity (s.bus o.bus).level
  let avail := s.available o.priority
  if avail = 0 then none
  else if min limit avail < limit ∧ min limit avail < s.params.minimumGrant then none
  else some (min limit avail)

/-- A grant of litres (R74). -/
def Ev.grantFuel (e : Ev) (d litres : Nat) : Ev :=
  let t := e.nextSerial.1
  let e := e.nextSerial.2.setDispenser d { e.dispenser d with grant := some litres, grantTicket := t }
  let e : Ev := { e with fuel.committed := e.fuel.committed + litres }
  e.deriveReserve.requestPlain (e.dispenser d).controller (.grant litres) (.grant d t)

/-- A denial (R73). -/
def Ev.denyFuel (e : Ev) (d : Nat) (o : FuelOccupant) : Ev :=
  let e := (e.refuseNozzle d).count .fuelDenied
  let e := e.send
    { e.note .fuelDenied with bus := some o.bus, dispenser := some d, value := noteValue (e.available o.priority) }
  ((e.emptyDispenser d).washTest o.bus).enterClearing d

/-- A NOZZLE request of the occupant of a DOCKED dispenser without a grant (R72, R73). -/
def Ev.requestGrant (e : Ev) (d : Nat) (o : FuelOccupant) : Ev :=
  if e.changePending then e.refuseNozzle d
  else
    match e.grantFor o with
    | some litres => e.grantFuel d litres
    | none => e.denyFuel d o

/-- A NOZZLE frame for a dispenser (R64, R72). A DOCKED dispenser with its GRANT pending and no occupant meets two cases of R72, and the grant is tested
first (log 37). -/
def Ev.takeNozzle (e : Ev) (d tag : Nat) : Ev :=
  let r := e.dispenser d
  if !r.valid then e
  else if r.state = .docked then
    if r.grant.isSome then e
    else
      match r.occupant with
      | some o =>
        if tag ≠ 0 ∧ (e.bus o.bus).tag = tag then e.requestGrant d o
        else
          let e := e.refuseNozzle d
          e.send { e.note .bayMismatch with dispenser := some d, bus := some o.bus, value := noteValue tag }
      | none => e.refuseNozzle d
  else e.refuseNozzle d

/-- The GRANT of a dispenser is acknowledged (R74). -/
def Ev.grantDone (e : Ev) (d : Nat) : Ev := e.dispState d .fuelling

/-- The GRANT of a dispenser failed or was aborted (R74). -/
def Ev.grantFailed (e : Ev) (d : Nat) : Ev :=
  let o := (e.dispenser d).occupant
  let e := ((e.releaseGrant d).closeForFault d).emptyDispenser d
  let e := e.send { e.note .dispenserClosed with dispenser := some d }
  e.returnOccupant o true

/-! ### Deliveries (R76, R77) -/

/-- The level after a delivery of the litres charged (R76 step 4). -/
def levelAfter (capacity litres : Nat) (full : Bool) : Option Nat → Option Nat
  | some v => if full then some 100 else some (min 100 (v + litres * 100 / capacity))
  | none => if full then some 100 else none

/-- A delivery that settles a grant (R76). The below reserve indication is derived once, after stock and committed have both changed (log 50). -/
def Ev.settleDelivery (e : Ev) (d g litres : Nat) (full : Bool) : Ev :=
  let o := (e.dispenser d).occupant
  let e : Ev := { e with fuel.stock := e.fuel.stock - min litres g, fuel.committed := e.fuel.committed - g }
  let e := (e.setDispenser d { e.dispenser d with grant := none, occupant := none }).deriveReserve
  let e :=
    if g < litres then
      let e := e.count .meterExcess
      e.send { e.note .meterExcess with dispenser := some d, value := noteValue litres }
    else e
  let e := e.countBy .litresDelivered litres
  let e :=
    match o with
    | some o =>
      let r := e.bus o.bus
      let e := e.setBus o.bus { r with level := levelAfter (e.cls r.cls).capacity (min litres g) full r.level }
      (e.count .fuelServed).washTest o.bus
    | none => e
  e.enterClearing d

/-- A delivery from a dispenser that holds no grant (R77). -/
def Ev.orphanDelivery (e : Ev) (d litres : Nat) : Ev :=
  let e : Ev := { e with fuel.stock := e.fuel.stock - min litres e.freeStock }
  let e := (e.deriveReserve.countBy .litresDelivered litres).count .orphanDeliveries
  e.send { e.note .orphanDelivery with dispenser := some d, value := noteValue litres }

/-- A DELIVERY frame for a dispenser (R64, R76, R77). -/
def Ev.takeDelivery (e : Ev) (d litres : Nat) (full : Bool) : Ev :=
  if !(e.dispenser d).valid then e
  else
    match (e.dispenser d).grant with
    | some g => e.settleDelivery d g litres full
    | none => e.orphanDelivery d litres

/-! ### Loop changes (R69, R75, R78, R79) -/

/-- The dispensers whose valid record names the channel as bay loop (R146), in the order of their numbers, in which they act (log 40). -/
def State.baysOf (s : State) (c : Nat) : List Nat :=
  (indices s.fuel.dispensers).filter fun d => (s.dispenser d).valid && (s.dispenser d).bayLoop == c

/-- The scheduler acts on loop changes in RUN, SHADOW and DOZE (R85). -/
def State.fuelActs (s : State) : Bool := s.mode != .configure

/-- An accepted OCCUPIED on a dispenser's bay loop (R69). -/
def Ev.bayOccupied (e : Ev) (d : Nat) : Ev := if (e.dispenser d).state = .calling then e.dock d else e

/-- An accepted VACANT on a dispenser's bay loop (R75, R78). -/
def Ev.bayVacant (e : Ev) (d : Nat) : Ev :=
  match (e.dispenser d).state with
  | .docked => if (e.dispenser d).grant.isSome then e else e.dockingTimedOut d
  | .clearing => e.enterFree d
  | .closed _ | .free | .calling | .fuelling => e

/-- A dispenser's bay loop goes to FAULTED (R79): a call is withdrawn. -/
def Ev.bayFaulted (e : Ev) (d : Nat) : Ev :=
  if (e.dispenser d).state = .calling then
    let o := (e.dispenser d).occupant
    let e := ((e.clearBay d).enterFree d).emptyDispenser d
    e.returnOccupant o false
  else e

/-- A dispenser's bay loop leaves FAULTED: it frees a CLEARING dispenser (R78), and triggers the calling pass (R66, R67). -/
def Ev.bayRecovered (e : Ev) (d : Nat) : Ev :=
  (if (e.dispenser d).state = .clearing then e.enterFree d else e).triggerFuel

/-! ### Removal, alarms and closures (R80 to R82) -/

/-- A bus in FUEL_BAY is taken out of the yard state (R80). -/
def Ev.takeOutOfBay (e : Ev) (d : Nat) : Ev :=
  let e := e.emptyDispenser d
  match (e.dispenser d).state with
  | .calling => (e.clearBay d).enterFree d
  | .docked => if (e.dispenser d).grant.isSome then e else e.enterClearing d
  | .closed _ | .free | .fuelling | .clearing => e

/-- A DISP ALARM frame for a dispenser (R64, R81). -/
def Ev.takeAlarm (e : Ev) (d reason : Nat) : Ev :=
  let r := e.dispenser d
  if !r.valid then e
  else
    match r.state with
    | .closed _ => e.send { e.note .dispenserAlarm with dispenser := some d, value := noteValue reason }
    | .free | .calling | .docked | .fuelling | .clearing =>
      let e := if r.state = .calling then e.clearBay d else e
      let e := e.releaseGrant d
      let e := (e.emptyDispenser d).closeForFault d
      let e := e.returnOccupant r.occupant true
      e.send { e.note .dispenserAlarm with dispenser := some d, value := noteValue reason }

/-- A HEALTH frame of a dispenser's node: ready ends a fault closure (R81). -/
def Ev.dispenserHealth (e : Ev) (d : Nat) (ready : Bool) : Ev :=
  if ready ∧ (e.dispenser d).state = .closed .fault then e.enterClearing d else e

/-- OPEN DISPENSER on a valid dispenser (R82). -/
def Ev.openDisp (e : Ev) (d : Nat) : Ev :=
  let e := e.setDispenser d { e.dispenser d with closeAtEnd := false }
  match (e.dispenser d).state with
  | .closed _ => e.enterClearing d
  | .free | .calling | .docked | .fuelling | .clearing => e

/-- CLOSE DISPENSER on a valid dispenser (R82). -/
def Ev.closeDisp (e : Ev) (d : Nat) : Ev :=
  match (e.dispenser d).state with
  | .free | .clearing => e.dispState d (.closed .office)
  | .closed .fault => e.setDispenser d { e.dispenser d with state := .closed .office }
  | .closed .office => e
  | .calling =>
    let o := (e.dispenser d).occupant
    let e := ((e.clearBay d).dispState d (.closed .office)).emptyDispenser d
    e.returnOccupant o false
  | .docked | .fuelling => e.setDispenser d { e.dispenser d with closeAtEnd := true }

/-! ### The restart (R87) -/

/-- A warm restart, or entry to CONFIGURE, settles a dispenser by its state (R87). -/
def Ev.settleDispenser (e : Ev) (d : Nat) : Ev :=
  match (e.dispenser d).state with
  | .closed _ | .free | .clearing => e
  | .calling =>
    let o := (e.dispenser d).occupant
    ((e.enterFree d).emptyDispenser d).returnOccupant o true
  | .docked =>
    if (e.dispenser d).grant.isSome then (e.setDispenser d { e.dispenser d with grant := none }).dispState d .docked else e
  | .fuelling => (e.setDispenser d { e.dispenser d with grant := none }).dispState d .docked

/-- Every dispenser settled, committed 0, the below reserve indication derived again (R87). -/
def Ev.settleFuel (e : Ev) : Ev :=
  let e := (indices e.fuel.dispensers).foldl Ev.settleDispenser e
  Ev.deriveReserve { e with fuel.committed := 0 }

end Sys2Proof.Machine
end

