-- ==== Sys2Proof/Machine/Lanes.lean ====
section
/-! DEFINITION. The lane map (02_stacking_lanes.md): the uncertain flag, changes of contents and what they tell the neighbours,
passages and their readings, and the exits as the pull-out scheduler takes them (R123, R124). -/

namespace Sys2Proof.Machine

/-! ### The uncertain flag and the contents (R27, R28) -/

/-- A lane is marked uncertain, with a notice when the flag passes from off to on (R27). -/
def Ev.markUncertain (e : Ev) (l : Nat) : Ev :=
  if (e.lane l).uncertain then e
  else (e.setLane l { e.lane l with uncertain := true }).send { e.note .laneUncertain with lane := some l }

/-- The bus that is the exit-end entry of contents, if that entry is a bus. -/
def headBus : List LaneEntry → Option Nat
  | .bus b :: _ => some b
  | .placeholder :: _ => none
  | [] => none

/-- The triggers of a change of contents: the re-run when they lose an entry, the pull-out pass when another bus becomes the
exit-end entry (R28). -/
def Ev.tellContents (e : Ev) (old new : List LaneEntry) : Ev :=
  let e := if new.length < old.length then e.triggerRerun else e
  match headBus new with
  | some b => if headBus old = some b then e else e.triggerPull
  | none => e

/-- The contents of a lane change, and the neighbours are told (R28). -/
def Ev.changeContents (e : Ev) (l : Nat) (new : List LaneEntry) : Ev :=
  (e.setLane l { e.lane l with contents := new }).tellContents (e.lane l).contents new

/-- Contents with an entry joined at the join end: the back of a THROUGH lane, the mouth of a DEAD-END lane (R23). -/
def LaneRec.joined (r : LaneRec) (x : LaneEntry) : List LaneEntry :=
  match r.kind with
  | .through => r.contents ++ [x]
  | .deadEnd => x :: r.contents

/-- The lane has room for an entry: the used bays would not exceed the length (R24, R35). -/
def State.hasRoom (s : State) (l : Nat) (x : LaneEntry) : Bool := decide (s.usedBays l + s.entryLength x ≤ (s.lane l).length)

/-- An entry joins a lane. -/
def Ev.joinLane (e : Ev) (l : Nat) (x : LaneEntry) : Ev := e.changeContents l ((e.lane l).joined x)

/-- A bus joins a lane and is PARKED there (R34). -/
def Ev.park (e : Ev) (b l : Nat) : Ev := (e.joinLane l (.bus b)).setPlace b (.parked l)

/-- A bus is removed from the contents of a lane, wherever it stands. -/
def Ev.removeFromLane (e : Ev) (b l : Nat) : Ev :=
  e.changeContents l ((e.lane l).contents.filter fun x => x != .bus b)

/-! ### Entries (R34, R35) -/

/-- A join is refused for want of room (R35). -/
def Ev.overfull (e : Ev) (l : Nat) (b intended : Option Nat) : Ev :=
  let e := (e.count .overfull).markUncertain l
  e.send { e.note .overfull with lane := some l, bus := b, value := intended.bind noteValue }

/-- A directed bus that finds no room becomes LOST (R35). -/
def Ev.overfullBus (e : Ev) (l b : Nat) (intended : Option Nat) : Ev :=
  ((e.setPlace b .lost).count .lostBuses).overfull l (some b) intended

/-- A matched entry (R34 case 1). -/
def Ev.matchedEntry (e : Ev) (l : Nat) (d : Direction) : Ev :=
  let e := e.leaveDirection d
  if e.hasRoom l (.bus d.bus) then (e.park d.bus l).count .laneEntries else e.overfullBus l d.bus none

/-- A misroute: the direction was to another lane (R34 case 2). The end of the direction turns the bus LOST (R58); where there is room the same event then
has it join this lane, which makes it PARKED (R34), and where there is none it stays LOST (R35). That the two rules act one after the other is inferred (log 33). -/
def Ev.misroute (e : Ev) (l : Nat) (d : Direction) : Ev :=
  let e := (e.loseDirected d).count .misroutes
  if e.hasRoom l (.bus d.bus) then
    let e := e.park d.bus l
    e.send { e.note .misroute with bus := some d.bus, lane := some l, value := noteValue d.lane }
  else e.overfullBus l d.bus (some d.lane)

/-- An unexpected entry (R34 case 3). -/
def Ev.unexpectedEntry (e : Ev) (l : Nat) : Ev :=
  let e := e.count .unexpectedEntries
  if e.hasRoom l .placeholder then (e.joinLane l .placeholder).markUncertain l else e.overfull l none none

/-- An entry passage on a THROUGH lane (R34). -/
def Ev.entryPassage (e : Ev) (l : Nat) : Ev :=
  match e.directionsTo l with
  | d :: _ => e.matchedEntry l d
  | [] =>
    match e.laneMap.directions with
    | d :: _ => e.misroute l d
    | [] => e.unexpectedEntry l

/-! ### Exits (R36, R37, R123, R124) -/

/-- The RELEASED duty that a lane's release record in SHOWING names, if it names one (R36, R118). -/
def State.releasedDuty (s : State) (l : Nat) : Option Nat :=
  match s.release l with
  | some r =>
    match r.phase, r.duty with
    | .showing _, some d => if (s.duty d).state = .released then some d else none
    | _, _ => none
  | none => none

/-- A released exit: the bus becomes LEAVING, its duty LEAVING, and stop is requested at the head (R36, R123). -/
def Ev.releasedExit (e : Ev) (l d b : Nat) : Ev :=
  let e := (e.changeContents l (e.lane l).contents.tail).setPlace b .leaving
  (e.setDuty d { e.duty d with state := .leaving }).stopRelease l (some d)

/-- A bound bus leaves by an unexpected exit: its duty is marked unreleased and goes to LEAVING (R124). -/
def Ev.exitUnreleased (e : Ev) (l d : Nat) : Ev :=
  let r := e.duty d
  let e :=
    if r.state = .called ∨ r.state = .released then
      match r.releaseLane with
      | some m => e.stopRelease m (some d)
      | none => e
    else e
  e.setDuty d { e.duty d with unreleased := true, state := .leaving, releaseLane := some l }

/-- The exit-end entry of an unexpected exit is removed; a bus becomes LEAVING (R37). -/
def Ev.removeExit (e : Ev) (l : Nat) : Ev :=
  let c := (e.lane l).contents
  let e := e.changeContents l c.tail
  match headBus c with
  | some b =>
    let e := e.setPlace b .leaving
    match (e.bus b).boundDuty with
    | some d => e.exitUnreleased l d
    | none => e
  | none => e

/-- An unexpected exit (R37). -/
def Ev.unexpectedExit (e : Ev) (l : Nat) : Ev :=
  let c := (e.lane l).contents
  let e := (if c.isEmpty then e else e.removeExit l).markUncertain l
  e.send { e.note .unexpectedExit with lane := some l, bus := headBus c }

/-- An exit passage on a lane (R36, R37). -/
def Ev.exitPassage (e : Ev) (l : Nat) : Ev :=
  match e.releasedDuty l, headBus (e.lane l).contents with
  | some d, some b => if (e.duty d).bus = some b then e.releasedExit l d b else e.unexpectedExit l
  | _, _ => e.unexpectedExit l

/-- A passage on a DEAD-END lane's mouth loop: the five cases in order (R38). -/
def Ev.mouthPassage (e : Ev) (l : Nat) : Ev :=
  match e.directionsTo l with
  | d :: _ => e.matchedEntry l d
  | [] =>
    if (e.releasedDuty l).isSome then e.exitPassage l
    else
      match e.laneMap.directions with
      | d :: _ => e.misroute l d
      | [] => if (e.lane l).contents.isEmpty then e.unexpectedEntry l else e.unexpectedExit l

/-- The valid lane whose record names a channel as a loop. -/
def State.laneOfLoop (s : State) (c : Nat) : Option Nat :=
  (indices s.laneMap.lanes).find? fun l => (s.lane l).valid && (s.lane l).usesLoop c

/-- A passage on a channel of a lane use, read by the lane's kind and by the loop (02_stacking_lanes.md "Passages"). -/
def Ev.passage (e : Ev) (c : Nat) : Ev :=
  match e.laneOfLoop c with
  | none => e
  | some l =>
    match (e.lane l).kind with
    | .deadEnd => e.mouthPassage l
    | .through => if (e.lane l).entryLoop = c then e.entryPassage l else e.exitPassage l

end Sys2Proof.Machine
end

