-- ==== Sys2Proof/Machine/Gate.lean ====
section
/-! DEFINITION. The gate logic (01_roster_and_gate.md): tag lookup, routing, arrivals, reappearances, gate-out reads, the leaving
timeout and day-start processing. -/

namespace Sys2Proof.Machine

/-- Tag lookup: the valid bus record that carries a code; a code of 0 finds none (R4). -/
def State.findTag (s : State) (code : Nat) : Option Nat :=
  if code = 0 then none
  else (indices s.gate.buses).find? fun b => (s.bus b).valid && (s.bus b).tag == code

/-! ### Routing (R12) -/

/-- The fuel test: level unknown, or below the parameter fuel skip level (R12 step 1). -/
def State.needsFuel (s : State) (b : Nat) : Bool :=
  match (s.bus b).level with
  | some v => decide (v < s.params.fuelSkipLevel)
  | none => true

/-- A bus is routed by the three tests in turn (R12). -/
def Ev.route (e : Ev) (b : Nat) : Ev := if e.needsFuel b then e.enqueueFuel b else e.washTest b

/-- A level as a gate read gives it: absent or above 100 is unknown (R10). -/
def levelRead : Option Nat → Option Nat
  | some v => if v ≤ 100 then some v else none
  | none => none

/-- An arrival (R10). -/
def Ev.arrive (e : Ev) (b : Nat) (level : Option Nat) : Ev :=
  let e := e.count .arrivals
  (e.setBus b
    { e.bus b with
      level := levelRead level
      fuelSkipped := false
      fuelMissed := false
      washSkipped := false
      lastSeen := e.now }).route b

/-! ### Taking a bus out of the yard state (R11, R15, R5) -/

/-- A bus is removed from whatever holds it, and the owning block acts on it (R11 step 1, R33, R80, R102). -/
def Ev.takeOut (e : Ev) (b : Nat) : Ev :=
  match (e.bus b).place with
  | .fuelWait => e.setFuelQueue (e.fuel.queue.filter fun x => x.bus != b)
  | .fuelBay d => e.takeOutOfBay d
  | .washWait => e.setWashQueue (e.wash.queue.filter fun x => x.bus != b)
  | .wash w => e.takeOutOfWash w
  | .hold => e.leaveHold b
  | .directed _ =>
    match e.directionOf b with
    | some d => e.leaveDirection d
    | none => e
  | .parked l => e.removeFromLane b l
  | .out | .leaving | .lost => e

/-- A reappearance (R11). -/
def Ev.reappear (e : Ev) (b : Nat) (level : Option Nat) : Ev :=
  let p := (e.bus b).place
  let e := e.takeOut b
  let e :=
    match p with
    | .parked l => e.markUncertain l
    | .leaving => e.departBus b .unconfirmed
    | .out | .fuelWait | .fuelBay _ | .washWait | .wash _ | .hold | .directed _ | .lost => e
  let e := (e.unbind b).count .reappearances
  (e.send { e.note .reappeared with bus := some b, value := noteValue p.code }).arrive b level

/-- A gate-in read of a bus (R10, R11). -/
def Ev.gateIn (e : Ev) (b : Nat) (level : Option Nat) : Ev :=
  if (e.bus b).place = .out then e.arrive b level else e.reappear b level

/-! ### Gate-out (R13 to R15) -/

/-- The classification taken from a gate-out read for a duty (R13 step 2). -/
def State.classifyOut (s : State) (d : Nat) : DepartedAs :=
  if s.clock.valid then (if s.plannedS d + s.params.grace < s.nowS then .late else .onTime) else .unconfirmed

/-- The duty of a bus, if it is bound, departs as the gate-out read classifies it. -/
def Ev.departByRead (e : Ev) (b : Nat) : Ev :=
  match (e.bus b).boundDuty with
  | some d => e.depart d (e.classifyOut d)
  | none => e

/-- A gate-out read of a LEAVING bus (R13). -/
def Ev.gateOutLeaving (e : Ev) (b : Nat) : Ev := ((e.setPlace b .out).departByRead b).unbind b

/-- The departure of a bus read at the gate-out while PARKED: by the read's test if its duty is RELEASED, and otherwise unreleased
(R14 step 3). -/
def Ev.departParked (e : Ev) (b : Nat) : Ev :=
  match (e.bus b).boundDuty with
  | some d => e.depart d (if (e.duty d).state = .released then e.classifyOut d else .unreleased)
  | none => e

/-- A gate-out read of a PARKED bus (R14). -/
def Ev.gateOutParked (e : Ev) (b l : Nat) : Ev :=
  let atExit := headBus (e.lane l).contents = some b
  let e := e.removeFromLane b l
  let e := if atExit then e else e.markUncertain l
  let e := ((e.departParked b).unbind b).setPlace b .out
  e.send { e.note .leftWithoutRelease with bus := some b, lane := some l, value := noteValue (Place.parked l).code }

/-- A gate-out read of a bus in any other place but OUT (R15). -/
def Ev.gateOutOther (e : Ev) (b : Nat) : Ev :=
  let p := (e.bus b).place
  let e := (((e.takeOut b).departBus b .unreleased).unbind b).setPlace b .out
  e.send { e.note .leftWithoutRelease with bus := some b, value := noteValue p.code }

/-- A gate-out read of an OUT bus (R15). -/
def Ev.gateOutOut (e : Ev) (b : Nat) : Ev :=
  (e.setBus b { e.bus b with lastSeen := e.now }).send { e.note .outWhileOut with bus := some b }

/-- A gate-out read of a bus (R13 to R15). -/
def Ev.gateOut (e : Ev) (b : Nat) : Ev :=
  match (e.bus b).place with
  | .leaving => e.gateOutLeaving b
  | .parked l => e.gateOutParked b l
  | .out => e.gateOutOut b
  | .fuelWait | .fuelBay _ | .washWait | .wash _ | .hold | .directed _ | .lost => e.gateOutOther b

/-- A stranger read (R9). -/
def Ev.stranger (e : Ev) (reader code : Nat) : Ev :=
  (e.count .strangerReads).send { e.note .stranger with node := some reader, value := noteValue code }

/-- A TAG frame at the gate logic (R9 to R15). Only a GATE-IN or GATE-OUT reader's TAG is accepted (R154). -/
def Ev.takeTag (e : Ev) (source : Nat) (role : Role) (code : Nat) (level : Option Nat) : Ev :=
  match e.findTag code with
  | none => e.stranger source code
  | some b =>
    match role with
    | .gateIn => e.gateIn b level
    | .gateOut => e.gateOut b
    | .detector | .signal | .dispenser | .wash => e

/-! ### The leaving timeout and the day start (R16, R17, R115) -/

/-- The leaving timeout of a bus has run out (R16). -/
def State.leavingDue (s : State) (b : Nat) : Bool :=
  (s.bus b).valid && (s.bus b).place == .leaving && decide (s.params.leavingTimeout < s.now - (s.bus b).lastSeen)

/-- The leaving timeout of a bus (R16). -/
def Ev.leavingExpires (e : Ev) (b : Nat) : Ev := ((e.setPlace b .out).departBus b .unconfirmed).unbind b

/-- A duty after the duty reset (R115). -/
def DutyRec.dayReset (r : DutyRec) : DutyRec :=
  if r.valid ∧ (r.state = .departed ∨ r.state = .missed ∨ r.state = .cancelled) then
    { r with state := .vacant, late := false, blocked := false, unreleased := false, departedAs := none }
  else r

/-- Day-start processing: nights since wash +1 for every valid bus, and the duty reset (R17, R115). -/
def Ev.dayStart (e : Ev) : Ev :=
  let e : Ev := { e with gate.buses := tmap (fun _ r => if r.valid then { r with nights := min 15 (r.nights + 1) } else r) e.gate.buses }
  { e with pullOut.duties := tmap (fun _ r => r.dayReset) e.pullOut.duties }

end Sys2Proof.Machine
end

