-- ==== Sys2Proof/Machine/Outcomes.lean ====
section
/-! DEFINITION. What each block does with the outcome of its request (R30, R68, R74, R94, R97, R119, R121, R163), and the delivery of
the outcomes an event decides (R173). -/

namespace Sys2Proof.Machine

/-- The outcome of a direction's ASPECT SET (R30, R58). -/
def Ev.directionOutcome (e : Ev) (ticket : Nat) (r : Result3) : Ev :=
  match e.laneMap.directions.find? (fun d => d.ticket == ticket) with
  | some d =>
    if r = .done then e
    else
      let e := (e.leaveDirection d).joinHold d.bus
      { e with heldBack := d.bus :: e.heldBack }
  | none => e

/-- The outcome of a bay signal's ASPECT SET (R68). -/
def Ev.bayCallOutcome (e : Ev) (d ticket : Nat) (r : Result3) : Ev :=
  if (e.dispenser d).state = .calling ∧ (e.dispenser d).callTicket = ticket ∧ r ≠ .done then e.baySignalFailed d else e

/-- The outcome of a GRANT (R74). -/
def Ev.grantOutcome (e : Ev) (d ticket : Nat) (r : Result3) : Ev :=
  if (e.dispenser d).grant.isSome ∧ (e.dispenser d).grantTicket = ticket then
    if r = .done then e.grantDone d else e.grantFailed d
  else e

/-- The outcome of a wash entry signal's ASPECT SET (R94). -/
def Ev.washCallOutcome (e : Ev) (w ticket : Nat) (r : Result3) : Ev :=
  if (e.washLane w).state = .calling ∧ (e.washLane w).callTicket = ticket ∧ r ≠ .done then e.washSignalFailed w else e

/-- The outcome of a WASH GO (R97). -/
def Ev.washGoOutcome (e : Ev) (w ticket : Nat) (r : Result3) : Ev :=
  if (e.washLane w).state = .washing ∧ (e.washLane w).goTicket = ticket ∧ r ≠ .done then e.washAbort w .noCommand else e

/-- The proceed of a release is acknowledged: the record is SHOWING and the duty RELEASED (R121). -/
def Ev.proceedDone (e : Ev) (l d : Nat) (r : ReleaseRec) : Ev :=
  let e := e.setRelease l (some { r with phase := .showing e.now })
  let e := e.setDuty d { e.duty d with state := .released }
  e.send { e.note .released with duty := some d, bus := (e.duty d).bus, lane := some l }

/-- The proceed of a release failed or was aborted: the record ends and the duty is BOUND again (R121). -/
def Ev.proceedFailed (e : Ev) (l d : Nat) : Ev :=
  let e := (e.setRelease l none).setDuty d { e.duty d with state := .bound, releaseLane := none }
  if e.releasedHere.contains l then e else e.triggerPull

/-- The outcome of a release's ASPECT SET: it acts while the lane's record is in CALLING (R121). -/
def Ev.releaseOutcome (e : Ev) (l ticket : Nat) (result : Result3) : Ev :=
  match e.release l with
  | some r =>
    match r.phase, r.duty with
    | .calling, some d =>
      if r.ticket = ticket then
        if result = .done then e.proceedDone l d r else e.proceedFailed l d
      else e
    | _, _ => e
  | none => e

/-- The outcome of the stop of a STOPPING record: the record ends (R119). -/
def Ev.stopOutcome (e : Ev) (l ticket : Nat) (result : Result3) : Ev :=
  match e.release l with
  | some r =>
    if r.phase = .stopping ∧ r.ticket = ticket then
      let e := (e.setRelease l none).triggerPull
      if result = .done then e else e.send { e.note .headStopFailed with lane := some l }
    else e
  | none => e

/-- The outcome of a forwarded command (R163): bits 15 to 8 the outcome, bits 7 to 0 the kind (R209). -/
def Ev.forwardOutcome (e : Ev) (destination : Nat) (kind : CommandKind) (result : Result3) : Ev :=
  e.send
    { e.note .forwardOutcome with
      node := if isNode destination then some destination else none
      value := noteValue (result.code * 256 + kind.code.toNat) }

/-- Each failed outcome delivered counts command failures +1 (R173). -/
def Ev.countOutcome (e : Ev) (r : Result3) : Ev := if r = .failed then e.count .commandFailures else e

/-- One outcome is delivered to its requester (R173). -/
def Ev.deliver (e : Ev) (x : Decided) : Ev :=
  let e := e.countOutcome x.result
  match x.contribution.purpose with
  | .direction t => e.directionOutcome t x.result
  | .bayCall d t => e.bayCallOutcome d t x.result
  | .grant d t => e.grantOutcome d t x.result
  | .washCall w t => e.washCallOutcome w t x.result
  | .washGo w t => e.washGoOutcome w t x.result
  | .release l t => e.releaseOutcome l t x.result
  | .releaseStop l t => e.stopOutcome l t x.result
  | .forward => e.forwardOutcome x.destination x.kind x.result
  | .laneClear | .bayClear | .refuse | .washClear | .quiet | .allStop => e

/-- The outcomes decided in the event are delivered, oldest first, with those their handlers decide in turn; the number bounds how
many (log 21). -/
def Ev.drainFor : Nat → Ev → Ev
  | 0, e => e
  | n + 1, e =>
    match e.outs with
    | [] => e
    | x :: xs => Ev.drainFor n (Ev.deliver { e with outs := xs } x)

/-- The bound on the outcomes delivered at one moment of an event (log 21). -/
def drainBound : Nat := 65536

/-- Deliver every outcome decided and not yet delivered. -/
def Ev.drain (e : Ev) : Ev := e.drainFor drainBound

end Sys2Proof.Machine
end

