-- ==== Sys2Proof/Machine/Detectors.lean ====
section
/-! DEFINITION. The detector filter bank (07_occupancy_detectors.md): averages, decisions, tracking, faults, restarts, and the outputs
delivered to the lane map and the fuel scheduler. -/

namespace Sys2Proof.Machine

/-! ### One channel's filter (R141 to R145) -/

/-- What an average indicates against a baseline: OCCUPIED, VACANT, or neither (R144). -/
def ChannelRec.indicates (r : ChannelRec) (b a : Nat) : Option ChannelState :=
  if a ≤ b - r.onDelta then some .occupied else if b - r.offDelta ≤ a then some .vacant else none

/-- The candidate run after an average that indicates a state, or neither (R144). -/
def ChannelRec.follow (r : ChannelRec) : Option ChannelState → ChannelRec
  | none => r
  | some st =>
    if st = r.state then { r with run := 0, candidate := none }
    else if r.run + 1 < r.hold then { r with run := r.run + 1, candidate := some st }
    else { r with state := st, run := 0, candidate := none }

/-- The baseline moved a sixty-fourth of the way toward an average, truncated toward zero (R145). -/
def trackedBaseline (b a : Nat) : Nat := if b ≤ a then b + (a - b) / 64 else b - (b - a) / 64

/-- Tracking after a decision (R145). -/
def ChannelRec.track (r : ChannelRec) (b a : Nat) : ChannelRec :=
  if r.state = .vacant ∧ b - r.onDelta < a then { r with baseline := some (trackedBaseline b a) } else r

/-- The use of an average: discard, seed, or decide and track (R142, R143). -/
def ChannelRec.useAverage (r : ChannelRec) (a : Nat) : ChannelRec :=
  if 0 < r.discard then { r with discard := r.discard - 1 }
  else
    match r.baseline with
    | none => { r with baseline := some a }
    | some b => (r.follow (r.indicates b a)).track b a

/-- A good reading is gathered; the Nth forms an average (R142). -/
def ChannelRec.gather (r : ChannelRec) (v : Nat) : ChannelRec :=
  if 2 ^ r.k ≤ r.count + 1 then { r with sum := 0, count := 0 }.useAverage ((r.sum + v) / 2 ^ r.k)
  else { r with sum := r.sum + v, count := r.count + 1 }

/-- A channel put in FAULTED by a bad reading (R139). -/
def ChannelRec.fault (r : ChannelRec) : ChannelRec :=
  { r with sum := 0, count := 0, candidate := none, run := 0, goodRun := 0, state := .faulted }

/-- A channel restarted (R141). -/
def ChannelRec.restart (r : ChannelRec) : ChannelRec :=
  let r := { r with sum := 0, count := 0, discard := 2, candidate := none, run := 0 }
  if r.state = .faulted then { r with state := .vacant, goodRun := 0 } else r

/-- A reading of 0 or 65,535 is bad (R138). -/
def badReading (v : Nat) : Bool := v == 0 || v == 65535

/-! ### Outputs (R146) -/

/-- A use that names the lane map (R146). -/
def ChannelUse.isLane : ChannelUse → Bool
  | .laneEntry | .laneExit | .laneMouth => true
  | .dispenserBay | .spare => false

/-- An occupied output, by the channel's use (R146). -/
def Ev.tellOccupied (e : Ev) (c : Nat) : Ev :=
  if (e.channel c).use = .dispenserBay ∧ e.fuelActs then (e.baysOf c).foldl Ev.bayOccupied e else e

/-- A vacant output, by the channel's use; on a lane use, by acceptance, also a passage (R146). -/
def Ev.tellVacant (e : Ev) (c : Nat) (accepted : Bool) : Ev :=
  if (e.channel c).use = .dispenserBay ∧ e.fuelActs then (e.baysOf c).foldl Ev.bayVacant e
  else if (e.channel c).use.isLane ∧ accepted then e.passage c
  else e

/-- A fault change, to the lane map and to the fuel scheduler (R26, R146). -/
def Ev.tellFault (e : Ev) (before : State) (c : Nat) : Ev :=
  let e := e.comparePermissions before
  if e.fuelActs then
    (e.baysOf c).foldl (if (e.channel c).state = .faulted then Ev.bayFaulted else Ev.bayRecovered) e
  else e

/-- A change of a channel's accepted state is delivered as one output (R146). `before` is the state before the change; `accepted` says that
the change was made by acceptance, and not by a load or a restart. -/
def Ev.tellChannel (e : Ev) (before : State) (c : Nat) (accepted : Bool) : Ev :=
  match (before.channel c).state, (e.channel c).state with
  | .vacant, .occupied => e.tellOccupied c
  | .occupied, .vacant => e.tellVacant c accepted
  | .vacant, .faulted | .occupied, .faulted | .faulted, .vacant | .faulted, .occupied => e.tellFault before c
  | .vacant, .vacant | .occupied, .occupied | .faulted, .faulted => e

/-! ### Readings, faults and restarts (R138 to R142) -/

/-- A channel restarts, and a change from FAULTED is delivered (R141). -/
def Ev.restartChannel (e : Ev) (c : Nat) : Ev :=
  (e.setChannel c (e.channel c).restart).tellChannel e.toState c false

/-- Every channel restarts (R141, R147), in the order of their numbers, in which their changes from FAULTED are delivered (log 26). -/
def Ev.restartChannels (e : Ev) : Ev := (indices e.channels).foldl Ev.restartChannel e

/-- A channel is put in FAULTED, with its notice and the fault change (R139). -/
def Ev.faultChannel (e : Ev) (c v : Nat) : Ev :=
  let r := e.channel c
  ((e.setChannel c r.fault).send { e.note .loopFault with channel := some c, node := some r.node, value := noteValue v }).tellChannel
    e.toState c false

/-- A channel recovers, with its notice and the fault change (R140). -/
def Ev.recoverChannel (e : Ev) (c : Nat) : Ev :=
  let r := e.channel c
  ((e.setChannel c { r with goodRun := 0 }.restart).send
    { e.note .loopRecovered with channel := some c, node := some r.node }).tellChannel e.toState c false

/-- The good readings in a row that bring a channel back (R140). -/
def recoveryReadings : Nat := 8

/-- A reading delivered to a FAULTED channel (R140). -/
def Ev.readFaulted (e : Ev) (c v : Nat) : Ev :=
  let r := e.channel c
  if badReading v then e.setChannel c { r with goodRun := 0 }
  else if recoveryReadings ≤ r.goodRun + 1 then e.recoverChannel c
  else e.setChannel c { r with goodRun := r.goodRun + 1 }

/-- A reading delivered to a channel (R138). -/
def Ev.takeReading (e : Ev) (c v : Nat) : Ev :=
  match (e.channel c).state with
  | .faulted => e.readFaulted c v
  | .vacant | .occupied =>
    if badReading v then e.faultChannel c v
    else (e.setChannel c ((e.channel c).gather v)).tellChannel e.toState c true

/-- The valid channel that a node's input feeds (R138). -/
def State.channelOf (s : State) (node input : Nat) : Option Nat :=
  (indices s.channels).find? fun c => (s.channel c).valid && (s.channel c).node == node && (s.channel c).input == input

/-- The readings of a SAMPLE frame, to consecutive inputs of the node; an input above 7 is not delivered (R138). The outcomes of one
reading's effects are delivered before the next reading is taken (log 18). -/
def Ev.takeSample (e : Ev) (node input : Nat) : List Nat → Ev
  | [] => e
  | v :: vs =>
    let e :=
      if 7 < input then e
      else
        match e.channelOf node input with
        | some c => (e.takeReading c v).drain
        | none => e
    e.takeSample node (input + 1) vs

end Sys2Proof.Machine
end

