-- ==== Sys2Proof/Machine/Passes.lean ====
section
/-! DEFINITION. The four passes that events trigger: the lane assigner's re-run (R48), the fuel calling pass (R67), the wash calling
pass (R93), and the pull-out pass with releases and exchanges (R116 to R128). -/

namespace Sys2Proof.Machine

/-! ### The re-run (R48) -/

/-- An assignment attempt for each bus of a list in turn, ended when the direction list is full (R48). A bus returned to the hold list by a
failed direction in this event is passed over. -/
def Ev.rerunOver (e : Ev) : List Nat → Ev
  | [] => e
  | b :: bs =>
    if directionCapacity ≤ e.laneMap.directions.length then e
    else Ev.rerunOver (if e.heldBack.contains b || !e.holdList.contains b then e else (e.attempt b).drain) bs

/-- The re-run over the hold list, head to tail (R48). -/
def Ev.rerun (e : Ev) : Ev := ({ e with rerunDue := false } : Ev).rerunOver e.holdList

/-- A re-run is to be made: none is while a mode change is pending (R49). One over an empty hold list, or with the direction list full,
attempts no bus, and is left unmade (log 6). -/
def Ev.rerunReady (e : Ev) : Bool :=
  e.rerunDue && !e.changePending && !e.holdList.isEmpty && decide (e.laneMap.directions.length < directionCapacity)

/-! ### The fuel calling pass (R67) -/

/-- The lowest-numbered dispenser callable for a class (R67). -/
def State.dispenserFor (s : State) (c : Nat) : Option Nat := (indices s.fuel.dispensers).find? fun d => s.dispenserCallable d c

/-- The first eligible entry for which a dispenser is callable, with the dispenser (R67). -/
def State.nextFuelCall (s : State) : List FuelEntry → Option (FuelEntry × Nat)
  | [] => none
  | x :: xs =>
    match if x.deadline.isNone then s.dispenserFor (s.bus x.bus).cls else none with
    | some d => some (x, d)
    | none => s.nextFuelCall xs

/-- Call buses until no eligible entry has a callable dispenser (R67). Each call takes a dispenser out of FREE, so six calls are enough. -/
def Ev.fuelCalls : Nat → Ev → Ev
  | 0, e => e
  | n + 1, e =>
    match e.nextFuelCall e.fuel.queue with
    | some x => Ev.fuelCalls n (((e.callFuel x.1 x.2).drain).lowerTurns x.2 x.1.bus)
    | none => e

/-- The fuel calling pass (R67). -/
def Ev.fuelPass (e : Ev) : Ev := Ev.fuelCalls 6 { e with fuelDue := false }

/-- A fuel calling pass is to be made: only in RUN or SHADOW with no mode change pending (R67). One over an empty queue calls no bus, and
is left unmade (log 6). -/
def Ev.fuelReady (e : Ev) : Bool := e.fuelDue && !e.restricted && !e.fuel.queue.isEmpty

/-! ### The wash calling pass (R93, R94) -/

/-- The lowest-numbered wash lane callable for a class, but for those that a failed signal of this event brought to READY (R93, R94). -/
def Ev.washLaneFor (e : Ev) (c : Nat) : Option Nat :=
  (indices e.wash.lanes).find? fun w => e.washCallable w c && !e.washLanesBack.contains w

/-- The first entry for which a lane is callable, with the lane (R93). -/
def Ev.nextWashCall (e : Ev) : List WashEntry → Option (WashEntry × Nat)
  | [] => none
  | x :: xs =>
    match if e.washBack.contains x.bus then none else e.washLaneFor (e.bus x.bus).cls with
    | some w => some (x, w)
    | none => e.nextWashCall xs

/-- Call buses until no entry has a callable lane (R93). Each call takes a lane out of READY, so two calls are enough. -/
def Ev.washCalls : Nat → Ev → Ev
  | 0, e => e
  | n + 1, e =>
    match e.nextWashCall e.wash.queue with
    | some x => Ev.washCalls n (e.callWash x.1 x.2).drain
    | none => e

/-- The wash calling pass (R93). -/
def Ev.washPass (e : Ev) : Ev := Ev.washCalls 2 { e with washDue := false }

/-- A wash calling pass is to be made: only in RUN or SHADOW with no mode change pending (R93). One over an empty queue calls no bus, and
is left unmade (log 6). -/
def Ev.washReadyToPass (e : Ev) : Bool := e.washDue && !e.restricted && !e.wash.queue.isEmpty

/-! ### The pull-out pass: late and missed (R117) -/

/-- A duty that waits: valid, and OPEN or BOUND (R117, R120). -/
def DutyRec.waiting (r : DutyRec) : Bool := r.valid && (r.state == .vacant || r.state == .bound)

/-- A duty is missed (R117). -/
def Ev.missDuty (e : Ev) (d : Nat) : Ev :=
  let b := (e.duty d).bus
  let e :=
    match b with
    | some b => e.unbind b
    | none => e
  let e := (e.setDuty d { e.duty d with state := .missed }).count .dutiesMissed
  e.send { e.note .dutyMissed with duty := some d, bus := b }

/-- A duty is marked late (R117). -/
def Ev.lateDuty (e : Ev) (d : Nat) : Ev :=
  (e.setDuty d { e.duty d with late := true }).send { e.note .dutyLate with duty := some d, value := noteValue (e.plannedS d) }

/-- The late and missed test of one duty (R117). -/
def Ev.testDuty (e : Ev) (d : Nat) : Ev :=
  if (e.duty d).waiting then
    if e.plannedS d + e.params.abandon < e.nowS then e.missDuty d
    else if e.plannedS d + e.params.grace < e.nowS ∧ (e.duty d).late = false then e.lateDuty d
    else e
  else e

/-! ### The pull-out pass: releases (R120, R121) -/

/-- A duty is due (R120). -/
def State.due (s : State) (d : Nat) : Bool := (s.duty d).waiting && decide (s.plannedS d ≤ s.nowS + s.params.callLead)

/-- A bus's level lets it run a duty (R120 condition 3, R125 condition 6). -/
def State.levelServes (s : State) (b d : Nat) : Bool :=
  (s.duty d).minLevel == 0 ||
  match (s.bus b).level with
  | some v => decide ((s.duty d).minLevel ≤ v)
  | none => false

/-- The lane at whose exit end a bus is PARKED. -/
def State.exitLane (s : State) (b : Nat) : Option Nat :=
  match (s.bus b).place with
  | .parked l => if headBus (s.lane l).contents = some b then some l else none
  | .out | .fuelWait | .fuelBay _ | .washWait | .wash _ | .hold | .directed _ | .leaving | .lost => none

/-- The lane from which a bus can go for a duty: conditions 1 to 3 of R120, and 1, 2 and 6 of R125. -/
def State.goLane (s : State) (b d : Nat) : Option Nat :=
  match s.exitLane b with
  | some l => if s.releaseAllowed l && s.levelServes b d then some l else none
  | none => none

/-- The lane holds no release record and, if DEAD-END, no direction to it is pending: conditions 4 and 5 of R120, 3 and 4 of R125. -/
def State.headFree (s : State) (l : Nat) : Bool :=
  (s.release l).isNone && ((s.lane l).kind == .through || (s.directionsTo l).isEmpty)

/-- A release of a duty from a lane (R121). -/
def Ev.releaseDuty (e : Ev) (d l : Nat) : Ev :=
  let t := e.nextSerial.1
  let e := e.nextSerial.2.setRelease l (some { duty := some d, phase := .calling, ticket := t })
  let e := e.setDuty d { e.duty d with state := .called, releaseLane := some l }
  let e : Ev := { e with releasedHere := l :: e.releasedHere }
  e.requestAspect (e.lane l).head .aspectSet (.release l t)

/-- A due duty whose bus meets conditions 1 to 3 is released, or waits (R120). -/
def Ev.releaseOrWait (e : Ev) (d l : Nat) : Ev := if e.headFree l && !e.changePending then e.releaseDuty d l else e

/-- A due duty is blocked (R128). -/
def Ev.blockDuty (e : Ev) (d : Nat) : Ev :=
  if (e.duty d).blocked then e
  else
    (e.setDuty d { e.duty d with blocked := true }).send { e.note .dutyBlocked with duty := some d, bus := (e.duty d).bus }

/-! ### The pull-out pass: exchange (R125, R126) -/

/-- What a candidate is weighed at for a duty: the planned_s of its own later duty, or 1440 for a spare (R125 condition 7). -/
def State.exchangeWeight (s : State) (x d : Nat) : Option Nat :=
  match (s.bus x).boundDuty with
  | none => some noDeparture
  | some f =>
    if (s.duty f).state = .bound ∧ (s.duty f).pin = none ∧ s.plannedS d < s.plannedS f then some (s.plannedS f) else none

/-- The candidate at the exit end of a lane for a duty, with its weight (R125). -/
def State.candidateAt (s : State) (d l : Nat) : Option (Nat × Nat) :=
  match headBus (s.lane l).contents with
  | some x =>
    if s.goLane x d = some l ∧ s.headFree l = true ∧ (s.bus x).cls = (s.duty d).cls then
      (s.exchangeWeight x d).map fun n => (n, x)
    else none
  | none => none

/-- The candidate chosen for a duty: the smallest weight, ties to the lower lane (R125). -/
def State.candidate (s : State) (d : Nat) : Option Nat :=
  (shallowest ((indices s.laneMap.lanes).filterMap (s.candidateAt d))).map Prod.snd

/-- Unbind the bus of a duty, if it has one. -/
def Ev.unbindDuty (e : Ev) (d : Nat) : Ev :=
  match (e.duty d).bus with
  | some b => e.unbind b
  | none => e

/-- Bind a bus to a duty where both exist (R126 step 4). -/
def Ev.bindBoth (e : Ev) (b d : Option Nat) : Ev :=
  match b, d with
  | some b, some d => e.bind b d
  | _, _ => e

/-- The duty code of the duty a candidate leaves, or 0 for a spare (R126). -/
def State.codeOf (s : State) : Option Nat → Nat
  | some d => (s.duty d).code
  | none => 0

/-- An exchange of a due duty with a candidate (R126). -/
def Ev.exchange (e : Ev) (d x : Nat) : Ev :=
  let b := (e.duty d).bus
  let f := (e.bus x).boundDuty
  let e := ((((e.unbindDuty d).unbind x).bind x d).bindBoth b f).count .exchanges
  e.send { e.note .exchange with duty := some d, bus := some x, value := noteValue (e.codeOf f) }

/-- A due duty that cannot be released because of its bus: exchanged and released if it now can be, or blocked (R120, R126, R128). -/
def Ev.exchangeOrBlock (e : Ev) (d : Nat) : Ev :=
  if (e.duty d).pin.isSome then e.blockDuty d
  else
    match e.candidate d with
    | none => e.blockDuty d
    | some x =>
      let e := e.exchange d x
      match e.goLane x d with
      | some l => e.releaseOrWait d l
      | none => e

/-- A due duty is taken in its turn (R120). -/
def Ev.takeDue (e : Ev) (d : Nat) : Ev :=
  if (e.duty d).waiting then
    match (e.duty d).bus.bind (fun b => e.goLane b d) with
    | some l => e.releaseOrWait d l
    | none => e.exchangeOrBlock d
  else e

/-- The due duties of a list, one after another (R120). -/
def Ev.takeDues (e : Ev) (ds : List Nat) : Ev := ds.foldl (fun e d => (e.takeDue d).drain) e

/-- The second step of a pass: the due duties in order of planned_s and index (R120). -/
def Ev.dueStep (e : Ev) : Ev := e.takeDues (e.byPlanned ((indices e.pullOut.duties).filter e.due))

/-- The pull-out pass (R116). -/
def Ev.pullPass (e : Ev) : Ev := ((indices e.pullOut.duties).foldl Ev.testDuty { e with pullDue := false }).drain.dueStep

/-- A pull-out pass is to be made: the mode is RUN or SHADOW, the clock is valid and no schedule window is open (R116). -/
def Ev.pullReady (e : Ev) : Bool :=
  e.pullDue && (e.mode == .run || e.mode == .shadow) && e.clock.valid && !e.scheduleWindow

/-! ### The pass made next (R116, R205) -/

/-- The four passes. -/
inductive Pass where
  | rerun | fuel | wash | pull
  deriving DecidableEq, Repr

/-- The passes other than the pull-out pass that are due and would be made. -/
def Ev.yardPasses (e : Ev) : List Pass :=
  (if e.rerunReady then [Pass.rerun] else []) ++ (if e.fuelReady then [Pass.fuel] else [])
    ++ (if e.washReadyToPass then [Pass.wash] else [])

/-- The pull-out pass may be made now: after all the event's changes to lanes, records and bindings, so after the other due passes (R116), but in any
order with them where the event enters RUN or SHADOW (R205). -/
def Ev.pullNext (e : Ev) : Bool := e.pullReady && (e.entered || e.yardPasses.isEmpty)

/-- The passes of which one may be made now. -/
def Ev.readyPasses (e : Ev) : List Pass := e.yardPasses ++ (if e.pullNext then [Pass.pull] else [])

/-- A pass is made. -/
def Ev.runPass (e : Ev) : Pass → Ev
  | .rerun => e.rerun
  | .fuel => e.fuelPass
  | .wash => e.washPass
  | .pull => e.pullPass

/-- One of several passes that may be made is chosen by the free value, since the manual orders them no further (log 6). -/
def Ev.choosePass (e : Ev) (ps : List Pass) : Ev :=
  match ps[Config.passChoice e.choice % ps.length]? with
  | some p => ({ e with choice := e.choice + 1 } : Ev).runPass p
  | none => e

/-- Make one due pass. -/
def Ev.makePass (e : Ev) (ps : List Pass) : Ev :=
  match ps with
  | [] => e
  | [p] => e.runPass p
  | p :: q :: rest => e.choosePass (p :: q :: rest)

end Sys2Proof.Machine
end

