-- ==== Sys2Proof/Machine/Timers.lean ====
section
/-! DEFINITION. The timers counted in yard seconds: when each runs out, and what its expiry does (R16, R32, R70, R75, R95, R98, R99,
R122), and the yard second and the yard clock (R200). The comparisons are made in whole numbers (log 13). -/

namespace Sys2Proof.Machine

/-! ### When a timer has run out -/

/-- A direction has expired (R32). -/
def State.directionDue (s : State) (d : Direction) : Bool := decide (d.issuedAt + s.params.directionTimeout ≤ s.now)

/-- A dispenser has reached its call timeout (R70). -/
def State.callDue (s : State) (d : Nat) : Bool :=
  (s.dispenser d).state == .calling && decide ((s.dispenser d).since + s.params.callTimeout ≤ s.now)

/-- A deferral has reached its deadline (R70). -/
def State.deferralDue (s : State) (b : Nat) : Bool :=
  s.fuel.queue.any fun x => x.bus == b && x.deadline.any fun t => decide (t ≤ s.now)

/-- A dispenser has reached its docking timeout: DOCKED with no grant (R75). -/
def State.dockingDue (s : State) (d : Nat) : Bool :=
  (s.dispenser d).state == .docked && (s.dispenser d).grant.isNone
    && decide ((s.dispenser d).since + s.params.dockingTimeout ≤ s.now)

/-- A wash lane has reached its call timeout (R95). -/
def State.washCallDue (s : State) (w : Nat) : Bool :=
  (s.washLane w).state == .calling && decide ((s.washLane w).since + s.params.callTimeout ≤ s.now)

/-- A wash lane's deadline has passed. -/
def State.washDeadlinePassed (s : State) (w : Nat) : Bool := (s.washLane w).deadline.any fun t => decide (t ≤ s.now)

/-- A wash cycle has reached its deadline (R99). -/
def State.cycleDue (s : State) (w : Nat) : Bool := (s.washLane w).state == .washing && s.washDeadlinePassed w

/-- A wash lane's clearing has ended (R98). -/
def State.clearingDue (s : State) (w : Nat) : Bool := (s.washLane w).state == .clearing && s.washDeadlinePassed w

/-- The yard second at which a release record's proceed was shown, if it is SHOWING (R118). -/
def ReleaseRec.shownAt (r : ReleaseRec) : Option Nat :=
  match r.phase with
  | .showing t => some t
  | .calling | .stopping => none

/-- A release record has reached its release timeout (R122). -/
def State.releaseDue (s : State) (l : Nat) : Bool :=
  ((s.release l).bind ReleaseRec.shownAt).any fun t => decide (t + s.params.releaseTimeout ≤ s.now)

/-- The timers that have run out, of those that may stand in a DOZE entered from CONFIGURE (R16, R75, R98, R99). -/
def State.ranOut (s : State) : List Timer :=
  ((indices s.gate.buses).filter s.leavingDue).map (fun b => Timer.leaving b (s.bus b).lastSeen)
    ++ ((indices s.fuel.dispensers).filter s.dockingDue).map (fun d => Timer.docking d (s.dispenser d).since)
    ++ ((indices s.wash.lanes).filter s.cycleDue).map (fun w => Timer.cycle w ((s.washLane w).deadline.getD 0))
    ++ ((indices s.wash.lanes).filter s.clearingDue).map (fun w => Timer.clearing w ((s.washLane w).deadline.getD 0))

/-! ### What an expiry does -/

/-- The expiry of a direction (R32). -/
def Ev.directionExpires (e : Ev) (d : Direction) : Ev :=
  let e := (e.loseDirected d).count .lostBuses
  e.send { e.note .directionExpired with bus := some d.bus, lane := some d.lane }

/-- The release timeout of a lane (R122): the stop requested, the record ceasing to name the duty, the duty BOUND. -/
def Ev.releaseTimesOut (e : Ev) (l : Nat) : Ev :=
  match (e.release l).bind (fun r => r.duty) with
  | some d =>
    let e := e.stopRelease l none
    let e := (e.setDuty d { e.duty d with state := .bound, releaseLane := none }).count .releaseNoShows
    e.send { e.note .releaseNoShow with duty := some d, bus := (e.duty d).bus, lane := some l }
  | none => (e.stopRelease l none).count .releaseNoShows

/-- Take an expiry if its timer has run out. -/
def Ev.takeIf (e : Ev) (due : Bool) (f : Ev → Ev) : Ev := if due then (f e).drain else e

/-- The timeouts that passed while the part was in CONFIGURE, in the order leaving, fuel, wash, each by index (R205; log 14). -/
def Ev.takeOverdue (e : Ev) : Ev :=
  let e := (indices e.gate.buses).foldl (fun e b => e.takeIf (e.leavingDue b) (·.leavingExpires b)) e
  let e := (indices e.fuel.dispensers).foldl (fun e d => e.takeIf (e.callDue d) (·.callTimedOut d)) e
  let e := (indices e.fuel.dispensers).foldl (fun e d => e.takeIf (e.dockingDue d) (·.dockingTimedOut d)) e
  let e := (e.fuel.queue.map FuelEntry.bus).foldl (fun e b => e.takeIf (e.deferralDue b) (·.deferralEnds b)) e
  let e := (indices e.wash.lanes).foldl (fun e w => e.takeIf (e.washCallDue w) (·.washCallTimedOut w)) e
  let e := (indices e.wash.lanes).foldl (fun e w => e.takeIf (e.cycleDue w) (·.washAbort w .timeout)) e
  (indices e.wash.lanes).foldl (fun e w => e.takeIf (e.clearingDue w) (·.washCleared w)) e

/-! ### The clock (R200) -/

/-- The yard second wraps at 2^32 (00_scope.md "Yard seconds"). -/
def yardWrap : Nat := 4294967296

/-- The yard second advances by 1 (R200). -/
def Ev.advanceYard (e : Ev) : Ev := { e with clock.yardSecond := (e.clock.yardSecond + 1) % yardWrap }

/-- The minute tick: the second passes from 59 to 0 and the minute advances; day-start processing at the day start (R17), and the pull-out
pass is triggered (R116). -/
def Ev.minuteTick (e : Ev) : Ev :=
  let e : Ev := { e with clock.second := 0, clock.minute := (e.clock.minute + 1) % 1440 }
  (if e.clock.minute = e.params.dayStart then e.dayStart else e).triggerPull

/-- One yard second (R200): the clock, while it is valid, advances with it. -/
def Ev.yardTick (e : Ev) : Ev :=
  let e := e.advanceYard
  if e.clock.valid then
    if 59 ≤ e.clock.second then e.minuteTick else { e with clock.second := e.clock.second + 1 }
  else e

end Sys2Proof.Machine
end

