-- ==== Sys2Proof/Machine/Modes.lean ====
section
/-! DEFINITION. The modes (R204 to R206), the warm restart (R207), the closing of the load window (R202), and the end of an event:
outcomes delivered, a pending mode change taken, the waiver derived and the triggered passes made. -/

namespace Sys2Proof.Machine

/-! ### The load window (R202) -/

/-- The load window closes, with its notice; a schedule window's close runs the rebinding pass and triggers the pull-out pass (R202, R130).
The layout of the notice's value is a free value (log 9). -/
def Ev.closeWindow (e : Ev) (k : NoticeKind) : Ev :=
  match e.office.window with
  | none => e
  | some w =>
    let e : Ev := { e with office.window := none }
    let e := e.send { e.note k with value := some (Config.loadNoticeValue w.table.code w.next) }
    if w.table = .schedule then e.rebind.triggerPull else e

/-! ### The cancellations of a warm restart and of CONFIGURE (R205, R207) -/

/-- Every pending direction is cancelled; the buses go to the hold list tail, oldest first (R33). -/
def Ev.cancelDirections (e : Ev) : Ev :=
  e.laneMap.directions.foldl (fun e d => e.joinHold d.bus) (e.setDirections [])

/-- The hold list is emptied, head to tail; each bus becomes LOST (R49). -/
def Ev.emptyHold (e : Ev) : Ev := e.holdList.foldl (fun e b => e.setPlace b .lost) (e.setHold [])

/-- A duty whose release is cleared: CALLED and RELEASED go to BOUND (R134). -/
def DutyRec.clearRelease (r : DutyRec) : DutyRec :=
  if r.state = .called ∨ r.state = .released then { r with state := .bound, releaseLane := none } else r

/-- Every release record is cleared, with no stop requested (R134). -/
def Ev.clearReleases (e : Ev) : Ev :=
  { e with
    pullOut.duties := tmap (fun _ r => r.clearRelease) e.pullOut.duties
    pullOut.releases := tmap (fun _ _ => none) e.pullOut.releases }

/-- Every node's score 0, health GOOD and recovery run 0 (R182), node 1 to node 63: R182 gives no order for the health notices of several nodes, and the
order of their numbers is the model's choice (log 26). -/
def Ev.restoreNodes (e : Ev) : Ev := ((indices e.nodes).filter fun n => n != 0).foldl Ev.restoreNode e

/-- The cancellations shared by a warm restart and entry to CONFIGURE: dispensers, wash lanes and releases (R87, R107, R134). -/
def Ev.settleTurns (e : Ev) : Ev := e.settleFuel.settleWash.clearReleases

/-- Entry to CONFIGURE (R205). -/
def Ev.enterConfigure (e : Ev) : Ev :=
  let e := (e.cancelDirections.emptyHold).settleTurns
  let e := if e.scheduleWindow then e.closeWindow .loadAbandoned else e
  (e.clearCommands).restoreNodes

/-! ### Entering a mode (R205, R206) -/

/-- The mode is left for CONFIGURE's sake: from it, or from a DOZE entered from it, the timeouts that passed are taken (R205). -/
def fromConfigure (old : Mode) (dozeFrom : Option Mode) : Bool :=
  old == .configure || (old == .doze && dozeFrom == some .configure)

/-- Entry to RUN sets the shadows off and requests ALL STOP from CONFIGURE, from SHADOW, and at a wake from a DOZE entered from
either (R175). -/
def stopsAll (old : Mode) (dozeFrom : Option Mode) : Bool :=
  match old with
  | .configure | .shadow => true
  | .run => false
  | .doze => dozeFrom == some .configure || dozeFrom == some .shadow

/-- Entry to RUN or SHADOW (R205, R206): channels restart from CONFIGURE and from DOZE, ALL STOP where R175 asks for it, the overdue
timeouts are taken, and every pass is triggered. -/
def Ev.enterWatch (e : Ev) (old : Mode) (stop : Bool) : Ev :=
  let e := if old = .configure ∨ old = .doze then e.restartChannels else e
  let e := if stop then e.allStop else e
  let e := if fromConfigure old e.office.dozeFrom then e.takeOverdue else e
  ({ e with entered := true } : Ev).triggerAll

/-- The part turns to a mode, with its notice and its effects (R204, R205, R206). A DOZE entered from CONFIGURE holds the timers that ran out there
(R16, R85, R106; log 31), and a wake into SHADOW takes what stands in the command queue anew there (log 32). A wake into CONFIGURE restarts no channel
(log 43). -/
def Ev.turnTo (e : Ev) (m : Mode) : Ev :=
  let old := e.mode
  let stop := m == .run && stopsAll old e.office.dozeFrom
  let e : Ev :=
    { e with
      office :=
        { e.office with
          mode := m
          dozeFrom := if m = .doze then some old else e.office.dozeFrom
          overdue := if m = .doze ∧ old = .configure then e.ranOut else [] } }
  let e := e.send { e.note .modeChanged with value := noteValue m.code }
  match m with
  | .configure => e.enterConfigure
  | .run => e.enterWatch old stop
  | .shadow => (if old = .doze then e.finishInShadow else e).enterWatch old stop
  | .doze => e

/-- A mode is entered as the office asked for it, and no change is pending any more (R204, R205, R206). -/
def Ev.enterMode (e : Ev) (m : Mode) : Ev := ({ e with office.pendingMode := none } : Ev).turnTo m

/-- The test of DOZE: the fuel queue, the wash queue, the hold list and the direction list are empty, and no release record exists
(R204). -/
def State.mayDoze (s : State) : Bool :=
  s.fuel.queue.isEmpty && s.wash.queue.isEmpty && s.holdList.isEmpty && s.laneMap.directions.isEmpty
    && s.pullOut.releases.toList.all Option.isNone

/-- A pending change ends with no change of mode: every pass is triggered (R204, R48, R67, R93, R116). -/
def Ev.endPending (e : Ev) : Ev := ({ e with office.pendingMode := none } : Ev).triggerAll

/-- A pending mode change takes effect, or a pending DOZE that fails its test is dropped (R204). -/
def Ev.changeTakesEffect (e : Ev) (m : Mode) : Ev :=
  if m = .doze ∧ e.mayDoze = false then
    let e := e.endPending
    e.send (e.note .modeChangeDropped)
  else e.enterMode m

/-- A pending mode change takes effect when the command queue is empty (R182, R204). -/
def Ev.takePending (e : Ev) : Ev :=
  match e.office.pendingMode with
  | some m => if e.commands.queue.isEmpty then e.changeTakesEffect m else e
  | none => e

/-! ### The end of an event -/

/-- The end of an event: outcomes are delivered, a pending mode change is taken at the empty command queue, the waiver is derived again,
and the passes triggered are made one after another, each followed by the same (R48, R103, R116, R173, R204). The number bounds the
passes of one event (log 21). -/
def Ev.settleFor : Nat → Ev → Ev
  | 0, e => e
  | n + 1, e =>
    let e := e.drain.takePending.deriveWaiver
    if e.outs.isEmpty then
      if e.readyPasses.isEmpty then e else Ev.settleFor n (e.makePass e.readyPasses)
    else Ev.settleFor n e

/-- The bound on the rounds at the end of one event (log 21). -/
def settleBound : Nat := 4096

/-- The end of an event. -/
def Ev.settle (e : Ev) : Ev := e.settleFor settleBound

/-! ### The warm restart (R207) -/

/-- The field port's restart: the inbox emptied, the quiet timer idle (R164). -/
def Ev.restartField (e : Ev) : Ev := { e with field := { e.field with inbox := [], quietTimer := none } }

/-- The command queue's restart: the queue and the marks cleared, the shadows off, and ALL STOP requested in RUN and DOZE (R175, R183). -/
def Ev.restartCommands (e : Ev) : Ev :=
  let e := e.clearCommands
  if e.mode = .run ∨ e.mode = .doze then e.allStop else e.clearShadows

/-- The office port's restart: orders, answers and notices emptied, a pending change dropped (R207 steps 1 to 4). -/
def Ev.restartOffice (e : Ev) : Ev :=
  { e with
    office := { e.office with orders := [], answers := [], pendingMode := none }
    notices.queue := [] }

/-- The triggers a restart gives, once, after its changes: the re-run only in RUN or SHADOW (R60), the others under their passes' own
conditions (R67, R93, R116). -/
def Ev.restartTriggers (e : Ev) : Ev :=
  let e := e.triggerFuel.triggerWash.triggerPull
  if e.mode = .run ∨ e.mode = .shadow then e.triggerRerun else { e with rerunDue := false }

/-- A warm restart but for its answer (R207): the window closes (step 5) before the blocks make their changes (step 6). The waiver is derived, and the passes
are made, at the end of the event, so that their notices stand behind "restarted" (log 29). -/
def Ev.warmRestart (e : Ev) : Ev :=
  let e := e.restartOffice.closeWindow .loadAbandoned
  let e := (e.restartCommands).restartField
  let e := (e.cancelDirections.settleTurns).restartChannels
  let e := e.restartTriggers
  e.send (e.note .restarted)

end Sys2Proof.Machine
end

