-- ==== Sys2Proof/Machine/Tables.lean ====
section
/-! DEFINITION. The tables of the load window (R202, R203): each table's record as its bytes spell it (R209), the checks of a record in
the order its rule gives, and the effects of writing one. A check answers the refusal code, or none for an accepted record. -/

namespace Sys2Proof.Machine

/-- The first refusal of several checks, in order. -/
def firstRefusal : List (Bool × ResultCode) → Option ResultCode
  | [] => none
  | (bad, r) :: rest => if bad then some r else firstRefusal rest

/-- A number lies outside a range. -/
def outside (lo hi n : Nat) : Bool := decide (n < lo) || decide (hi < n)

/-- A class mask byte: bit c for class c; the four bits above are not read (log 16). -/
def maskAt (p : List Byte) (i : Nat) : BitVec 4 := BitVec.ofNat 4 (numAt p i 1)

/-- A signal at an offset: node, then output. -/
def signalAt (p : List Byte) (i : Nat) : Signal := { node := numAt p i 1, output := numAt p (i + 1) 1 }

/-- A signal out of range: node 1 to 63, output 0 to 15. -/
def Signal.bad (sig : Signal) : Bool := outside 1 63 sig.node || outside 0 15 sig.output

/-! ### Roster (R3, R5) -/

/-- The loaded fields of a bus record, with every live field at its out value (R5). -/
def busOf (p : List Byte) (now : Nat) : BusRec :=
  { BusRec.cold with
    valid := flagAt p 0, fleet := numAt p 1 2, tag := numAt p 3 3, cls := numAt p 6 1, washInterval := numAt p 7 1, lastSeen := now }

/-- The range check of a bus record (R3 check 1). -/
def BusRec.badFields (r : BusRec) : Bool :=
  outside 1 9999 r.fleet || outside 1 16777215 r.tag || outside 0 3 r.cls || outside 1 7 r.washInterval

/-- Another valid roster record carries the tag code (R3 check 3). -/
def State.tagTaken (s : State) (i tag : Nat) : Bool :=
  (indices s.gate.buses).any fun j => j != i && (s.bus j).valid && (s.bus j).tag == tag

/-- The checks of a roster record (R3). An invalid record is accepted with any field values. -/
def State.checkBus (s : State) (i : Nat) (p : List Byte) : Option ResultCode :=
  let r := busOf p s.now
  firstRefusal
    [(r.valid && r.badFields, .range), (r.valid && !(s.cls r.cls).valid, .range), (r.valid && s.tagTaken i r.tag, .conflict),
     (s.mode != .configure && (s.bus i).valid && (s.bus i).place != .out, .conflict)]

/-- The bus that an index held is withdrawn (R5). -/
def Ev.withdraw (e : Ev) (i : Nat) : Ev :=
  let p := (e.bus i).place
  let e := e.takeOut i
  let e :=
    match p with
    | .parked l => e.markUncertain l
    | .out | .fuelWait | .fuelBay _ | .washWait | .wash _ | .hold | .directed _ | .leaving | .lost => e
  (e.unbind i).clearPins fun _ r => r.pin == some i

/-- The write of a roster record (R5). -/
def Ev.writeBus (e : Ev) (i : Nat) (p : List Byte) : Ev :=
  let e := if (e.bus i).valid then e.withdraw i else e
  e.setBus i (busOf p e.now)

/-! ### Classes (R2) -/

/-- A class record as its bytes spell it. -/
def classOf (p : List Byte) : ClassRec := { valid := flagAt p 0, length := numAt p 1 1, capacity := numAt p 2 2 }

/-- Some valid bus record names the class. -/
def State.classNamed (s : State) (c : Nat) : Bool := s.gate.buses.toList.any fun r => r.valid && r.cls == c

/-- The used bays of some lane exceed its length. -/
def State.overLength (s : State) : Bool := (indices s.laneMap.lanes).any fun l => decide ((s.lane l).length < s.usedBays l)

/-- The checks of a class record (R2). -/
def State.checkClass (s : State) (i : Nat) (p : List Byte) : Option ResultCode :=
  let r := classOf p
  let changes := r.length != (s.cls i).length
  firstRefusal
    [(outside 2 4 r.length || outside 100 600 r.capacity, .range), (!r.valid && s.classNamed i, .conflict),
     (s.mode == .run && changes && s.classNamed i, .conflict),
     (s.mode != .run && changes && (s.begin.setClass i r).overLength, .conflict)]

/-! ### Lanes (R20, R21) -/

/-- A lane record as its bytes spell it, with the live fields an accepted load gives (R21). A kind code out of the list reads as
THROUGH here, and is refused by the check. -/
def laneOf (p : List Byte) : LaneRec where
  valid := flagAt p 0
  kind := (LaneKind.ofCode (numAt p 1 1)).getD .through
  length := numAt p 2 1
  classMask := maskAt p 3
  cost := numAt p 4 1
  entrySignal := signalAt p 5
  headSignal := signalAt p 7
  entryLoop := numAt p 9 1
  exitLoop := numAt p 10 1
  office := .opened
  uncertain := false
  contents := []

/-- The range check of a lane record; the head signal and exit loop of a DEAD-END record are not read (R20, R21 check 1; log 16). -/
def LaneRec.badFields (r : LaneRec) : Bool :=
  outside 2 60 r.length || outside 0 31 r.cost || r.entrySignal.bad || outside 0 79 r.entryLoop
    || (r.kind == .through && (r.headSignal.bad || outside 0 79 r.exitLoop))

/-- Another valid lane uses a loop or a signal output of the record (R21 check 3). -/
def State.laneClash (s : State) (i : Nat) (r : LaneRec) : Bool :=
  (indices s.laneMap.lanes).any fun j =>
    j != i && (s.lane j).valid
      && ((s.lane j).usesLoop r.entryLoop || (s.lane j).usesLoop r.exitEndLoop || (s.lane j).usesSignal r.entrySignal
        || (s.lane j).usesSignal r.head)

/-- The lane is in use: contents, a pending direction or a release record (R21 check 4). -/
def State.laneInUse (s : State) (i : Nat) : Bool :=
  !(s.lane i).contents.isEmpty || !(s.directionsTo i).isEmpty || (s.release i).isSome

/-- The checks of a lane record (R21). -/
def State.checkLane (s : State) (i : Nat) (p : List Byte) : Option ResultCode :=
  let r := laneOf p
  firstRefusal
    [((LaneKind.ofCode (numAt p 1 1)).isNone || r.badFields, .range),
     (r.valid && r.kind == .through && r.entryLoop == r.exitLoop, .range), (r.valid && s.laneClash i r, .conflict),
     (s.laneInUse i, .conflict)]

/-- The write of a lane record (R21): the permissions are compared, and the re-run triggered in every mode but CONFIGURE. -/
def Ev.writeLane (e : Ev) (i : Nat) (p : List Byte) : Ev :=
  let e := (e.setLane i (laneOf p)).comparePermissions e.toState
  if e.mode = .configure then e else e.triggerRerun

/-! ### Schedule (R108) -/

/-- A duty record as its bytes spell it, with the live fields an accepted load gives (R108). -/
def dutyOf (p : List Byte) : DutyRec :=
  { DutyRec.cold with
    valid := flagAt p 0, code := numAt p 1 2, planned := numAt p 3 2, cls := numAt p 5 1, minLevel := numAt p 6 1 }

/-- The checks of a duty record (R108). -/
def State.checkDuty (s : State) (p : List Byte) : Option ResultCode :=
  let r := dutyOf p
  firstRefusal
    [(outside 1 65535 r.code || outside 0 1439 r.planned || outside 0 3 r.cls || outside 0 100 r.minLevel, .range),
     (r.valid && !(s.cls r.cls).valid, .range)]

/-! ### Nodes (R152, R180) -/

/-- The highest role index of a role (R152). -/
def Role.indexLimit : Role → Nat
  | .dispenser => 5
  | .wash => 1
  | .detector => 79
  | .gateIn | .gateOut | .signal => 0

/-- The role a node record names, GATE-IN for a code out of the list, which the check refuses. -/
def roleOf (p : List Byte) : Role := (Role.ofCode (numAt p 1 1)).getD .gateIn

/-- Another valid record of the same DISPENSER or WASH role has the role index (R152 check 2). -/
def State.roleTaken (s : State) (i : Nat) (r : Role) (index : Nat) : Bool :=
  (r == .dispenser || r == .wash) &&
    (indices s.nodes).any fun j => j != i && (s.node j).valid && (s.node j).role == r && (s.node j).roleIndex == index

/-- The checks of a node record (R152). -/
def State.checkNode (s : State) (i : Nat) (p : List Byte) : Option ResultCode :=
  firstRefusal
    [((Role.ofCode (numAt p 1 1)).isNone || decide ((roleOf p).indexLimit < numAt p 2 1), .range),
     (flagAt p 0 && s.roleTaken i (roleOf p) (numAt p 2 1), .conflict), ((s.node i).mark, .conflict)]

/-- The write of a node record (R180): score 0, health GOOD, recovery run 0, shadow off, and the entries that fail by it. -/
def Ev.writeNode (e : Ev) (i : Nat) (p : List Byte) : Ev :=
  let e := e.setNode i { e.node i with valid := flagAt p 0, role := roleOf p, roleIndex := numAt p 2 1, shadow := 0 }
  (e.restoreNode i).failAtOnce

/-! ### Channels (R135, R136) -/

/-- The use a channel record names; a code out of the list reads as spare here, and is refused by the check. -/
def useOf (p : List Byte) : ChannelUse := (ChannelUse.ofCode (numAt p 3 1)).getD .spare

/-- A channel record with the loaded fields replaced: baseline unset, restarted, and VACANT when invalid (R136). -/
def ChannelRec.load (r : ChannelRec) (p : List Byte) : ChannelRec :=
  let r :=
    ({ r with
        valid := flagAt p 0, node := numAt p 1 1, input := numAt p 2 1, use := useOf p, k := numAt p 4 1, hold := numAt p 5 1,
        onDelta := numAt p 6 2, offDelta := numAt p 8 2, baseline := none, candidate := none, goodRun := 0 } : ChannelRec).restart
  if r.valid then r else { r with state := .vacant }

/-- Another valid channel record names the node and input (R136 check 3). -/
def State.inputTaken (s : State) (i node input : Nat) : Bool :=
  (indices s.channels).any fun j =>
    j != i && (s.channel j).valid && (s.channel j).node == node && (s.channel j).input == input

/-- The checks of a channel record (R136). -/
def State.checkChannel (s : State) (i : Nat) (p : List Byte) : Option ResultCode :=
  firstRefusal
    [(outside 1 63 (numAt p 1 1) || outside 0 7 (numAt p 2 1) || (ChannelUse.ofCode (numAt p 3 1)).isNone || outside 0 4 (numAt p 4 1)
        || outside 1 8 (numAt p 5 1) || outside 1 16383 (numAt p 6 2), .range),
     (decide (numAt p 6 2 ≤ numAt p 8 2), .range), (flagAt p 0 && s.inputTaken i (numAt p 1 1) (numAt p 2 1), .conflict)]

/-- The write of a channel record, with the change of accepted state delivered (R136, R146). A record made valid is no trigger of the fuel calling pass
by itself, since R66 lists no load among its events (log 36). -/
def Ev.writeChannel (e : Ev) (i : Nat) (p : List Byte) : Ev :=
  (e.setChannel i ((e.channel i).load p)).tellChannel e.toState i false

/-! ### Dispensers (R64) -/

/-- A dispenser record as its bytes spell it, with the live fields an accepted load gives, CLOSED by the office (R64). -/
def dispenserOf (p : List Byte) (now : Nat) : DispenserRec :=
  { DispenserRec.cold with
    valid := flagAt p 0, island := numAt p 1 1, classMask := maskAt p 2, controller := numAt p 3 1, baySignal := signalAt p 4,
    bayLoop := numAt p 6 1, since := now }

/-- A dispenser serves a turn (R64 check 2). -/
def DispenserState.inTurn : DispenserState → Bool
  | .calling | .docked | .fuelling => true
  | .closed _ | .free | .clearing => false

/-- The checks of a dispenser record (R64). -/
def State.checkDispenser (s : State) (i : Nat) (p : List Byte) : Option ResultCode :=
  let r := dispenserOf p s.now
  firstRefusal
    [(outside 0 2 r.island || outside 1 63 r.controller || r.baySignal.bad || outside 0 79 r.bayLoop, .range),
     ((s.dispenser i).state.inTurn, .conflict)]

/-- The write of a dispenser record: a valid one goes to CLEARING with the effect of R78, an invalid one is CLOSED (R64). -/
def Ev.writeDispenser (e : Ev) (i : Nat) (p : List Byte) : Ev :=
  let e := e.setDispenser i (dispenserOf p e.now)
  if (e.dispenser i).valid then e.enterClearing i else e

/-! ### Wash lanes (R90) -/

/-- A wash-lane record as its bytes spell it, with the live fields an accepted load gives, CLOSED (R90). -/
def washLaneOf (p : List Byte) (now : Nat) : WashLaneRec :=
  { WashLaneRec.cold with
    valid := flagAt p 0, classMask := maskAt p 1, controller := numAt p 2 1, entrySignal := signalAt p 3, fullTime := numAt p 5 2,
    shortTime := numAt p 7 2, clearBase := numAt p 9 1, since := now }

/-- The checks of a wash-lane record (R90). -/
def State.checkWashLane (s : State) (i : Nat) (p : List Byte) : Option ResultCode :=
  let r := washLaneOf p s.now
  firstRefusal
    [(outside 1 63 r.controller || r.entrySignal.bad || outside 120 1200 r.fullTime || outside 60 900 r.shortTime
        || outside 5 120 r.clearBase, .range),
     ((s.washLane i).occupied, .conflict)]

/-- The write of a wash-lane record: the grade derived with its notice, READY for a valid record (R90). -/
def Ev.writeWashLane (e : Ev) (i : Nat) (p : List Byte) : Ev :=
  let e := (e.setFaultScore i 0).setWashLane i (washLaneOf p e.now)
  if (e.washLane i).valid then e.enterReady i else e

/-! ### The group hash (R161) and the parameters (R201) -/

/-- The check of a group hash record: the flag is 0 or 1 (R203). -/
def checkHash (p : List Byte) : Option ResultCode := firstRefusal [(decide (1 < numAt p 0 1), .range)]

/-- The write of a group hash flag (R161). -/
def Ev.writeHash (e : Ev) (i : Nat) (p : List Byte) : Ev :=
  { e with field.groupHash := tset e.field.groupHash i (flagAt p 0) }

/-- A value of a parameter, by its code, lies in its range (R201). A code above 16 names no parameter. -/
def paramInRange : Nat → Nat → Bool
  | 0, v => !outside 0 1439 v
  | 1, v => !outside 0 20 v
  | 2, v => !outside 0 15 v
  | 3, v => !outside 30 120 v
  | 4, v => !outside 50 100 v
  | 5, v => !outside 0 100000 v
  | 6, v => !outside 5 100 v
  | 7, v => !outside 30 300 v
  | 8, v => !outside 60 900 v
  | 9, v => !outside 30 600 v
  | 10, v => !outside 60 600 v
  | 11, v => !outside 120 1800 v
  | 12, v => !outside 30 600 v
  | 13, _ => true
  | 14, v => !outside 500 5000 v
  | 15, v => !outside 64 65535 v
  | 16, v => !outside 64 65535 v
  | _, _ => false

/-- A parameter set, by its code (R201). Allow inversion is yes for 1 and no for any other value (R209; log 16). -/
def Params.set (p : Params) : Nat → Nat → Params
  | 0, v => { p with dayStart := v }
  | 1, v => { p with callLead := v }
  | 2, v => { p with grace := v }
  | 3, v => { p with abandon := v }
  | 4, v => { p with fuelSkipLevel := v }
  | 5, v => { p with reserve := v }
  | 6, v => { p with minimumGrant := v }
  | 7, v => { p with callTimeout := v }
  | 8, v => { p with dockingTimeout := v }
  | 9, v => { p with directionTimeout := v }
  | 10, v => { p with releaseTimeout := v }
  | 11, v => { p with leavingTimeout := v }
  | 12, v => { p with washMargin := v }
  | 13, v => { p with allowInversion := v == 1 }
  | 14, v => { p with quietTime := v }
  | 15, v => { p with detectorTag := v }
  | 16, v => { p with signalTag := v }
  | _, _ => p

/-- The offsets and sizes of the parameters in their record, in code order (R209). -/
def paramLayout : List (Nat × Nat) :=
  [(0, 2), (2, 1), (3, 1), (4, 1), (5, 1), (6, 4), (10, 1), (11, 2), (13, 2), (15, 2), (17, 2), (19, 2), (21, 2), (23, 1), (24, 2),
   (26, 2), (28, 2)]

/-- The values of a parameters record, with their codes. -/
def paramValues (p : List Byte) : List (Nat × Nat) := paramLayout.zipIdx.map fun x => (x.2, numAt p x.1.1 x.1.2)

/-- The parameters that a record spells (R201). -/
def paramsOf (p : List Byte) : Params := (paramValues p).foldl (fun q x => q.set x.1 x.2) Params.cold

/-- The check of a parameters record: the ranges in code order, and the group tag test (R201). -/
def checkParams (p : List Byte) : Option ResultCode :=
  firstRefusal
    ((paramValues p).map (fun x => (!paramInRange x.1 x.2, ResultCode.range))
      ++ [((paramsOf p).detectorTag == (paramsOf p).signalTag, .conflict)])

/-- The parameters are written, with the two effects of a change: the re-run when allow inversion passes from no to yes, and the below
reserve indication (R201). -/
def Ev.writeParams (e : Ev) (p : Params) : Ev :=
  let turnsOn := !e.params.allowInversion && p.allowInversion
  let e := ({ e with params := p } : Ev).deriveReserve
  if turnsOn then e.triggerRerun else e

/-! ### Records of any table (R203) -/

/-- The check of a record for an index of a table, against the tables as they stand (R203). -/
def State.checkRecord (s : State) (t : Table) (i : Nat) (p : List Byte) : Option ResultCode :=
  match t with
  | .roster => s.checkBus i p
  | .classes => s.checkClass i p
  | .lanes => s.checkLane i p
  | .schedule => s.checkDuty p
  | .nodes => s.checkNode i p
  | .channels => s.checkChannel i p
  | .dispensers => s.checkDispenser i p
  | .washLanes => s.checkWashLane i p
  | .groupHash => checkHash p
  | .parameters => checkParams p

/-- The write of an accepted record, with the effects its owner's rule states (R203). -/
def Ev.writeRecord (e : Ev) (t : Table) (i : Nat) (p : List Byte) : Ev :=
  match t with
  | .roster => e.writeBus i p
  | .classes => e.setClass i (classOf p)
  | .lanes => e.writeLane i p
  | .schedule => e.setDuty i (dutyOf p)
  | .nodes => e.writeNode i p
  | .channels => e.writeChannel i p
  | .dispensers => e.writeDispenser i p
  | .washLanes => e.writeWashLane i p
  | .groupHash => e.writeHash i p
  | .parameters => e.writeParams (paramsOf p)

/-- What a LOAD RECORDS has done so far: the number accepted, and the first refused index with its code (R203). -/
structure LoadTally where
  accepted : Nat
  refused : Option (Nat × ResultCode)
  deriving DecidableEq, Repr

/-- Records are checked and written one after another, each against what the records before it left (R203). The outcomes of a record are delivered before
the next, and the waiver is derived and the passes are made once, at the end of the event (log 18). -/
def Ev.loadEach (e : Ev) (t : Table) (i : Nat) (tally : LoadTally) : List (List Byte) → Ev × LoadTally
  | [] => (e, tally)
  | p :: ps =>
    match e.checkRecord t i p with
    | none => Ev.loadEach (e.writeRecord t i p).drain t (i + 1) { tally with accepted := tally.accepted + 1 } ps
    | some r => Ev.loadEach e t (i + 1) { tally with refused := some (tally.refused.getD (i, r)) } ps

/-- The records of a LOAD RECORDS: `n` pieces of `size` bytes. -/
def piecesOf (size : Nat) : Nat → List Byte → List (List Byte)
  | 0, _ => []
  | n + 1, p => p.take size :: piecesOf size n (p.drop size)

/-- The window's next index advances past every record carried, and the window closes as completed at its end (R203). -/
def Ev.advanceWindow (e : Ev) (w : Window) (n : Nat) : Ev :=
  let e : Ev := { e with office.window := some { w with next := w.next + n } }
  if w.stop ≤ w.next + n then e.closeWindow .loadCompleted else e

/-- The data of a LOAD RECORDS answer (R209). -/
def LoadTally.data (t : LoadTally) : List Byte :=
  match t.refused with
  | some x => byte1 t.accepted ++ byte1 x.1 ++ byte1 x.2.code
  | none => byte1 t.accepted

/-- The result code of a LOAD RECORDS that checked its records (R203). -/
def LoadTally.result (t : LoadTally) : ResultCode :=
  match t.refused with
  | some x => x.2
  | none => .ok

end Sys2Proof.Machine
end

