-- ==== Sys2Proof/Machine/Clocks.lean ====
section
/-! DEFINITION. The commands of time and reset: COLD_RESET, YARD_SECOND, MINUTE_TICK and the timeouts. A timeout whose timer has not run out,
or that the mode does not take, does not occur, and the state is left as it is (log 2). -/

namespace Sys2Proof.Machine

/-- The answer of a command. -/
abbrev Answered := Host.Outcome State Fault Refusal

/-- An event made of changes and its end. -/
def State.event (s : State) (f : Ev → Ev) : Answered := .next (f s.begin).settle.toState

/-- An event that occurs under a condition, and otherwise leaves the state as it is (log 2). -/
def State.eventIf (s : State) (occurs : Bool) (f : Ev → Ev) : Answered := if occurs then s.event f else .next s

/-- COLD_RESET (R208). The queue of commands that wait is the model's own and is kept, as are its two counters (logs 5, 6, 20). -/
def execColdReset (s : State) : Answered :=
  .next { State.reset with pending := s.pending, serial := s.serial, choice := s.choice }

/-- YARD_SECOND (R200): the yard second, and while the clock is valid its second, advance; from second 59 this is the minute tick (log 10). -/
def execYardSecond (s : State) : Answered := s.event Ev.yardTick

/-- The clock stands at the last second of a minute. -/
def State.tickDue (s : State) : Bool := s.clock.valid && decide (59 ≤ s.clock.second)

/-- MINUTE_TICK (R200): the yard second that takes the clock from second 59 to second 0 (log 10). -/
def execMinuteTick (s : State) : Answered := s.eventIf s.tickDue fun e => e.advanceYard.minuteTick

/-- The scheduler's and the gate's timeouts are not taken in CONFIGURE (R16, R85, R106). -/
def State.timersRun (s : State) : Bool := s.mode != .configure

/-- A timer is taken when it runs out: not in CONFIGURE, and, where its second passed in CONFIGURE, not before the next entry to RUN or SHADOW
(R16, R85, R106; log 31). -/
def State.timerRuns (s : State) (t : Timer) : Bool := s.timersRun && !s.office.overdue.contains t

/-- LEAVING_TIMEOUT (R16). -/
def execLeavingTimeout (b : Nat) (s : State) : Answered :=
  s.eventIf (s.timerRuns (.leaving b (s.bus b).lastSeen) && s.leavingDue b) (·.leavingExpires b)

/-- DIRECTION_EXPIRY (R32). -/
def execDirectionExpiry (b : Nat) (s : State) : Answered :=
  match s.directionOf b with
  | some d => s.eventIf (s.directionDue d) (·.directionExpires d)
  | none => .next s

/-- CALL_TIMEOUT (R70). -/
def execCallTimeout (d : Nat) (s : State) : Answered := s.eventIf (s.timersRun && s.callDue d) (·.callTimedOut d)

/-- DEFERRAL_END (R70). -/
def execDeferralEnd (b : Nat) (s : State) : Answered := s.eventIf (s.timersRun && s.deferralDue b) (·.deferralEnds b)

/-- DOCKING_TIMEOUT (R75). -/
def execDockingTimeout (d : Nat) (s : State) : Answered :=
  s.eventIf (s.timerRuns (.docking d (s.dispenser d).since) && s.dockingDue d) (·.dockingTimedOut d)

/-- WASH_CALL_TIMEOUT (R95). -/
def execWashCallTimeout (w : Nat) (s : State) : Answered := s.eventIf (s.timersRun && s.washCallDue w) (·.washCallTimedOut w)

/-- CYCLE_DEADLINE (R99). -/
def execCycleDeadline (w : Nat) (s : State) : Answered :=
  s.eventIf (s.timerRuns (.cycle w ((s.washLane w).deadline.getD 0)) && s.cycleDue w) (·.washAbort w .timeout)

/-- END_OF_CLEARING (R98). -/
def execEndOfClearing (w : Nat) (s : State) : Answered :=
  s.eventIf (s.timerRuns (.clearing w ((s.washLane w).deadline.getD 0)) && s.clearingDue w) (·.washCleared w)

/-- RELEASE_TIMEOUT (R122), taken in RUN and SHADOW (R132). -/
def execReleaseTimeout (l : Nat) (s : State) : Answered :=
  s.eventIf ((s.mode == .run || s.mode == .shadow) && s.releaseDue l) (·.releaseTimesOut l)

/-- The SENT entry to a node whose acknowledgement timeout runs (R171, R172). -/
def State.awaited (s : State) (n : Nat) : Option CommandEntry :=
  match s.sentTo n with
  | some x => if x.state = .sent true then some x else none
  | none => none

/-- ACKNOWLEDGEMENT_TIMEOUT (R172). -/
def execAcknowledgementTimeout (n : Nat) (s : State) : Answered :=
  match s.awaited n with
  | some x => s.event (·.attemptFailed x)
  | none => .next s

/-- MODE_CHANGE_TAKES_EFFECT (R204, R182): a pending change at an empty command queue takes effect. Every event that empties the queue does this
at its end, as the rules say (log 11). -/
def execModeChangeTakesEffect (s : State) : Answered :=
  s.eventIf (s.changePending && s.commands.queue.isEmpty) Ev.takePending

end Sys2Proof.Machine
end

