-- ==== Sys2Proof/Machine/Field.lean ====
section
/-! DEFINITION. The commands of the field port (08_field_segment.md): a frame's arrival, the quiet timer, the deliveries of the field
inbox's head, and the transmitter. -/

namespace Sys2Proof.Machine

/-! ### Quiet requests (R159, R160) -/

/-- QUIET is requested and the quiet timer loaded with nine tenths of the quiet time (R159). -/
def Ev.requestQuiet (e : Ev) : Ev :=
  let e := e.requestPlain e.params.detectorTag (.quiet e.params.quietTime) .quiet
  { e with field.quietTimer := some (e.params.quietTime * 9 / 10) }

/-- A join that leaves the count at 24 or more with the timer idle requests QUIET, but for CONFIGURE (R159). -/
def Ev.quietTest (e : Ev) : Ev :=
  if 24 ≤ e.field.inbox.length ∧ e.field.quietTimer = none ∧ e.mode ≠ .configure then e.requestQuiet else e

/-- The quiet timer expires: renewed at a count of 16 or more, idle below it and in CONFIGURE (R160). -/
def Ev.quietExpires (e : Ev) : Ev :=
  if 16 ≤ e.field.inbox.length ∧ e.mode ≠ .configure then e.requestQuiet else { e with field.quietTimer := none }

/-- QUIET_TIMER_EXPIRY (R160). -/
def execQuietTimerExpiry (s : State) : Answered := s.eventIf s.quieting Ev.quietExpires

/-! ### Arrival (R149, R153 to R158) -/

/-- A good frame is for the part (R153). -/
def State.forPart (s : State) (f : Frame) : Bool :=
  f.destination == 0 || f.destination.toNat == s.params.detectorTag || f.destination.toNat == s.params.signalTag

/-- A frame is rejected: counted, with a notice of its kind code and the reason (R154, R209). -/
def Ev.reject (e : Ev) (f : Frame) (r : RejectReason) : Ev :=
  (e.count .rejectedFrames).send
    { e.note .frameRejected with node := some f.source.toNat, value := noteValue (f.kind.toNat * 256 + r.code) }

/-- The capacity of the field inbox (R156). -/
def inboxCapacity : Nat := 32

/-- A report is a SAMPLE. -/
def FieldReport.isSample : FieldReport → Bool
  | .sample _ _ => true
  | .tag _ _ | .ack _ _ | .health _ _ | .nozzle _ | .delivery _ _ | .dispAlarm _ | .washEvent _ _ => false

/-- An accepted frame joins the inbox at its tail, with the quiet test (R156, R159). -/
def Ev.joinInbox (e : Ev) (x : InboxEntry) : Ev :=
  ({ e with field.inbox := e.field.inbox ++ [x] } : Ev).quietTest

/-- An accepted frame at a full inbox (R158). -/
def Ev.overflowInbox (e : Ev) (x : InboxEntry) : Ev :=
  if x.report.isSample then e.count .inboxLosses
  else
    match removeLast (fun y => y.report.isSample) e.field.inbox with
    | (rest, some _) => (({ e with field.inbox := rest } : Ev).count .inboxLosses).joinInbox x
    | (_, none) => e.count .inboxLosses

/-- An accepted frame is placed in the inbox (R155, R156, R158). -/
def Ev.acceptFrame (e : Ev) (source : Nat) (report : FieldReport) : Ev :=
  let r := e.node source
  let x : InboxEntry := { source := source, role := r.role, roleIndex := r.roleIndex, report := report, acceptedAt := e.now }
  if e.mode = .doze ∧ report.isSample then e
  else if e.field.inbox.length < inboxCapacity then e.joinInbox x
  else e.overflowInbox x

/-- A good frame for the part: the source, kind and length tests, and the inbox (R153, R154). The length test stands before the discard of R155, so a
SAMPLE of bad length is rejected, counted and told in DOZE too (log 46). -/
def Ev.takeFrame (e : Ev) (f : Frame) : Ev :=
  if !(e.node f.source.toNat).valid then e.reject f .unknownSource
  else if !(e.node f.source.toNat).role.maySend f.kind then e.reject f .wrongKind
  else
    match readReport f.kind f.payload with
    | none => e.reject f .badLength
    | some report => e.acceptFrame f.source.toNat report

/-- A frame at the field port: damaged, for another party, or taken (R149, R153). -/
def Ev.fieldArrival (e : Ev) (f : Frame) : Ev :=
  if !frameGood f then e.count .badCheckFrames
  else if e.forPart f then e.takeFrame f
  else e

/-- FIELD_FRAME_ARRIVAL (R153). -/
def execFieldFrameArrival (f : Frame) (s : State) : Answered := s.event (·.fieldArrival f)

/-! ### Delivery of the inbox's head (R156, R157) -/

/-- The channel that a relay notice names: the role index of a DETECTOR node, the first channel it is expected to feed, with which the entry was accepted
(R152, R156). That the channel subject holds it is inferred (log 34). -/
def InboxEntry.relayChannel (x : InboxEntry) : Option Nat := if x.role = .detector then some x.roleIndex else none

/-- In CONFIGURE an entry becomes a relay notice of its source and its kind code (R157), and of its role index for a DETECTOR node (R152). -/
def Ev.relay (e : Ev) (x : InboxEntry) : Ev :=
  e.send { e.note .relay with node := some x.source, channel := x.relayChannel, value := noteValue x.report.kindCode.toNat }

/-- The head entry leaves the inbox and is delivered by the mode: relayed in CONFIGURE, and otherwise given to its owner (R156, R157). -/
def Ev.deliverTo (e : Ev) (x : InboxEntry) (owner : Ev → Ev) : Ev :=
  let e : Ev := { e with field.inbox := e.field.inbox.tail }
  if e.mode = .configure then e.relay x else owner e

/-- The head of the inbox is an entry that a test reads, and it is delivered; otherwise the delivery does not occur (log 2). -/
def State.delivery {α : Type} (s : State) (read : FieldReport → Option α) (owner : InboxEntry → α → Ev → Ev) : Answered :=
  match s.field.inbox with
  | [] => .next s
  | x :: _ =>
    match read x.report with
    | some a => s.event fun e => e.deliverTo x (owner x a)
    | none => .next s

/-- The code and level of a TAG. -/
def FieldReport.asTag : FieldReport → Option (Nat × Option Nat)
  | .tag c v => some (c, v)
  | .sample _ _ | .ack _ _ | .health _ _ | .nozzle _ | .delivery _ _ | .dispAlarm _ | .washEvent _ _ => none

/-- The first input and readings of a SAMPLE. -/
def FieldReport.asSample : FieldReport → Option (Nat × List Nat)
  | .sample i vs => some (i, vs)
  | .tag _ _ | .ack _ _ | .health _ _ | .nozzle _ | .delivery _ _ | .dispAlarm _ | .washEvent _ _ => none

/-- The echoed kind and result of an ACK. -/
def FieldReport.asAck : FieldReport → Option (Byte × Bool)
  | .ack k ok => some (k, ok)
  | .tag _ _ | .sample _ _ | .health _ _ | .nozzle _ | .delivery _ _ | .dispAlarm _ | .washEvent _ _ => none

/-- The ready field of a HEALTH. Its status code goes no further: no rule names a report that carries it (log 35). -/
def FieldReport.asHealth : FieldReport → Option Bool
  | .health r _ => some r
  | .tag _ _ | .sample _ _ | .ack _ _ | .nozzle _ | .delivery _ _ | .dispAlarm _ | .washEvent _ _ => none

/-- The tag code of a NOZZLE. -/
def FieldReport.asNozzle : FieldReport → Option Nat
  | .nozzle c => some c
  | .tag _ _ | .sample _ _ | .ack _ _ | .health _ _ | .delivery _ _ | .dispAlarm _ | .washEvent _ _ => none

/-- The litres and full flag of a DELIVERY. -/
def FieldReport.asDelivery : FieldReport → Option (Nat × Bool)
  | .delivery n full => some (n, full)
  | .tag _ _ | .sample _ _ | .ack _ _ | .health _ _ | .nozzle _ | .dispAlarm _ | .washEvent _ _ => none

/-- The reason code of a DISP ALARM. -/
def FieldReport.asAlarm : FieldReport → Option Nat
  | .dispAlarm n => some n
  | .tag _ _ | .sample _ _ | .ack _ _ | .health _ _ | .nozzle _ | .delivery _ _ | .washEvent _ _ => none

/-- The event code and reason of a WASH EVENT. -/
def FieldReport.asWash : FieldReport → Option (Nat × Nat)
  | .washEvent c r => some (c, r)
  | .tag _ _ | .sample _ _ | .ack _ _ | .health _ _ | .nozzle _ | .delivery _ _ | .dispAlarm _ => none

/-- The reason of a WASH EVENT of one event code. -/
def FieldReport.asWashOf (code : Nat) (r : FieldReport) : Option Nat :=
  match r.asWash with
  | some x => if x.1 = code then some x.2 else none
  | none => none

/-- The event code of a WASH EVENT outside 1 to 4 (R209). -/
def FieldReport.asWashUnknown (r : FieldReport) : Option Nat :=
  match r.asWash with
  | some x => if x.1 < 1 ∨ 4 < x.1 then some x.1 else none
  | none => none

/-- A TAG at its owner: in DOZE the part wakes to RUN before the read is processed (R157, R206). -/
def Ev.tagDelivered (e : Ev) (x : InboxEntry) (r : Nat × Option Nat) : Ev :=
  (if e.mode = .doze then e.enterMode .run else e).takeTag x.source x.role r.1 r.2

/-- TAG (R9 to R15, R157). -/
def execTag (s : State) : Answered := s.delivery FieldReport.asTag fun x r e => e.tagDelivered x r

/-- A SAMPLE at its owner: discarded in DOZE (R157). -/
def Ev.sampleDelivered (e : Ev) (x : InboxEntry) (r : Nat × List Nat) : Ev :=
  if e.mode = .doze then e else e.takeSample x.source r.1 r.2

/-- SAMPLE (R138, R157). -/
def execSample (s : State) : Answered := s.delivery FieldReport.asSample fun x r e => e.sampleDelivered x r

/-- ACK (R172). -/
def execAck (s : State) : Answered := s.delivery FieldReport.asAck fun x r e => e.takeAck x.source r.1 r.2

/-- A HEALTH at its owners: the command queue, and for a DISPENSER node the fuel scheduler (R81, R150, R179). -/
def Ev.healthDelivered (e : Ev) (x : InboxEntry) (ready : Bool) : Ev :=
  let e := e.takeHealth x.source ready
  if x.role = .dispenser then e.dispenserHealth x.roleIndex ready else e

/-- HEALTH (R179, R81). -/
def execHealth (s : State) : Answered := s.delivery FieldReport.asHealth fun x r e => e.healthDelivered x r

/-- NOZZLE (R72). -/
def execNozzle (s : State) : Answered := s.delivery FieldReport.asNozzle fun x r e => e.takeNozzle x.roleIndex r

/-- DELIVERY (R76, R77). -/
def execDelivery (s : State) : Answered := s.delivery FieldReport.asDelivery fun x r e => e.takeDelivery x.roleIndex r.1 r.2

/-- DISP_ALARM (R81). -/
def execDispAlarm (s : State) : Answered := s.delivery FieldReport.asAlarm fun x r e => e.takeAlarm x.roleIndex r

/-- WASH_EVENT_ENTERED (R96). -/
def execWashEventEntered (s : State) : Answered :=
  s.delivery (FieldReport.asWashOf 1) fun x _ e => e.eventEntered x.roleIndex

/-- WASH_EVENT_DONE (R98). -/
def execWashEventDone (s : State) : Answered := s.delivery (FieldReport.asWashOf 2) fun x _ e => e.eventDone x.roleIndex

/-- WASH_EVENT_ABORTED (R99). -/
def execWashEventAborted (s : State) : Answered :=
  s.delivery (FieldReport.asWashOf 3) fun x r e => e.eventAborted x.roleIndex r

/-- WASH_EVENT_READY (R100). -/
def execWashEventReady (s : State) : Answered := s.delivery (FieldReport.asWashOf 4) fun x _ e => e.eventReady x.roleIndex

/-- WASH_EVENT_UNKNOWN (R101, R209). -/
def execWashEventUnknown (s : State) : Answered :=
  s.delivery FieldReport.asWashUnknown fun x c e => e.washIgnored x.roleIndex c

/-! ### The field transmitter (R171) -/

/-- The port arbiter may choose: no frame is being transmitted and the mode is RUN or DOZE (R171). -/
def State.mayTransmit (s : State) : Bool := s.commands.tx.isNone && (s.mode == .run || s.mode == .doze)

/-- The entry that a transmission sends now (R171). -/
def State.chosen (s : State) : Option CommandEntry := if s.mayTransmit then s.arbiter else none

/-- TRANSMISSION (R171): the port arbiter's choice is sent. -/
def execTransmission (s : State) : Answered :=
  match s.chosen with
  | some x => .next (s.begin.transmit x).toState
  | none => .next s

/-- The SENT entry of a number. -/
def State.sentEntry (s : State) (id : Nat) : Option CommandEntry := s.commands.queue.find? fun x => x.id == id && !x.waiting

/-- A transmit completion: the transmitter is free; a group entry is done, and a node entry's acknowledgement timeout starts. A frame whose
entry a restart has cleared is forgotten (R171, R183). -/
def Ev.transmitted (e : Ev) (tx : FieldTx) : Ev :=
  let e : Ev := { e with commands.tx := none }
  match e.sentEntry tx.entry with
  | none => e
  | some x =>
    if isNode x.destination then
      e.setCommands (replaceEntry x.id (fun y => { y with state := .sent true }) e.commands.queue)
    else (e.entryDone x).failAtOnce

/-- TRANSMIT_COMPLETION (R171). -/
def execTransmitCompletion (s : State) : Answered :=
  match s.commands.tx with
  | some tx => s.event (·.transmitted tx)
  | none => .next s

end Sys2Proof.Machine
end

