-- ==== Sys2Proof/Machine/Office.lean ====
section
/-! DEFINITION. The office port (11_office_port_tables_and_modes.md): a frame's arrival, the office transmitter, and how an order at the head
of the order inbox is performed and answered (R193, R196, R197). -/

namespace Sys2Proof.Machine

/-- The capacity of the order inbox (R197). -/
def orderCapacity : Nat := 4

/-- The capacity of the answer list (R197). -/
def answerCapacity : Nat := 8

/-- The code of a FORWARD order (R162). -/
def forwardCode : Byte := 0x1D

/-- The order a good office frame is taken as, if it is one (R196, R162). A frame to a node or a group is a FORWARD order for itself, with
its kind code as order tag. -/
def orderOf (f : Frame) : Option Order :=
  if f.destination = 0 then
    if f.kind = orderKind then
      match f.payload with
      | c :: t :: data => some { code := c, tag := t, data := data }
      | _ => none
    else none
  else some { code := forwardCode, tag := f.kind, data := byte2 f.destination.toNat ++ [f.kind] ++ f.payload }

/-- An answer joins the answer list if there is room (R197). -/
def State.makeAnswer (s : State) (a : Answer) : State :=
  if s.office.answers.length < answerCapacity then { s with office.answers := s.office.answers ++ [a] } else s

/-- An order arrives: it joins the inbox, or is answered BUSY at a full one (R197). -/
def State.arriveOrder (s : State) (o : Order) : State :=
  if s.office.orders.length < orderCapacity then { s with office.orders := s.office.orders ++ [o] }
  else s.makeAnswer { status := s.status, result := .busy, code := o.code, tag := o.tag, data := [] }

/-- A frame at the office port (R196). -/
def State.officeArrival (s : State) (f : Frame) : State :=
  if frameGood f then
    match orderOf f with
    | some o => s.arriveOrder o
    | none => s
  else s

/-- OFFICE_FRAME_ARRIVAL (R196). -/
def execOfficeFrameArrival (f : Frame) (s : State) : Answered := .next (s.officeArrival f)

/-! ### The office transmitter (R193) -/

/-- The frame that the office arbiter chooses begins to be sent: an answer before any notice (R193). -/
def State.officeSend (s : State) : State :=
  match s.office.answers, s.notices.queue with
  | a :: rest, _ => { s with office := { s.office with answers := rest, tx := some a.frame } }
  | [], n :: rest => { s with office.tx := some n.frame, notices.queue := rest }
  | [], [] => s

/-- OFFICE_TRANSMISSION (R193): while the transmitter is free. -/
def execOfficeTransmission (s : State) : Answered := .next (if s.office.tx.isNone then s.officeSend else s)

/-- OFFICE_TRANSMIT_COMPLETION (R193): the transmitter is free again. -/
def execOfficeTransmitCompletion (s : State) : Answered := .next { s with office.tx := none }

/-! ### Performing an order (R197, R198) -/

/-- The order leaves the inbox and its answer is made, with the status byte as the order left it (R197, R198). -/
def State.answer (s : State) (o : Order) (r : ResultCode) (data : List Byte) : State :=
  { s with
    office.orders := s.office.orders.tail
    office.answers := s.office.answers ++ [{ status := s.status, result := r, code := o.code, tag := o.tag, data := data }] }

/-- The head order, if it is one that a test reads and the answer list has room (R197). -/
def State.headOrder (s : State) (reads : Byte → Bool) : Option Order :=
  match s.office.orders with
  | o :: _ => if reads o.code && decide (s.office.answers.length < answerCapacity) then some o else none
  | [] => none

/-- The head order, if it has a code and the answer list has room, is performed; otherwise no order of the code is performed now (log 2). -/
def State.order (s : State) (code : Byte) (f : Order → State) : Answered :=
  match s.headOrder (fun c => c == code) with
  | some o => .next (f o)
  | none => .next s

/-- An order that is performed: an event with its end, then the answer OK, whose data read the state the order left (R197). -/
def State.perform (s : State) (o : Order) (f : Ev → Ev) (data : State → List Byte) : State :=
  (f s.begin).settle.toState.answer o .ok (data (f s.begin).settle.toState)

/-- An order's fields have the length that its code gives (R199, R209): the payload length less the two bytes before the fields. -/
def Order.lengthIs (o : Order) (n : Nat) : Bool := o.data.length == n

/-- The byte of an order's fields at an offset. -/
def Order.byte (o : Order) (i : Nat) : Nat := numAt o.data i 1

/-- No data. -/
def noData (_ : State) : List Byte := []

/-- The order codes of the table: 0x01 to 0x1D (R199). -/
def knownOrder (c : Byte) : Bool := decide (1 ≤ c.toNat) && decide (c.toNat ≤ 29)

/-- UNKNOWN_ORDER (R199): an order with a code outside the table is answered UNKNOWN. -/
def execUnknownOrder (s : State) : Answered :=
  match s.headOrder (fun c => !knownOrder c) with
  | some o => .next (s.answer o .unknown [])
  | none => .next s

end Sys2Proof.Machine
end

