-- ==== Sys2Proof/Machine/OrdersControl.lean ====
section
/-! DEFINITION. The orders of the office port controller: SET_MODE, SET_CLOCK, SET_PARAMETER, the load window, CLEAR_FLAGS and RESTART
(R194, R199 to R207). -/

namespace Sys2Proof.Machine

/-- An order's checks in the order its rule gives: the first that fails is the answer, with no data; otherwise the order is performed. -/
def State.checked (s : State) (o : Order) (checks : List (Bool × ResultCode)) (done : State) : State :=
  match firstRefusal checks with
  | some r => s.answer o r []
  | none => done

/-! ### SET MODE (R204, R206) -/

/-- The named mode is the current one: a pending change is cancelled, and otherwise nothing changes (R204). -/
def Ev.nameCurrent (e : Ev) : Ev := if e.changePending then e.endPending else e

/-- The named mode becomes the pending mode, which the end of the event takes if the command queue is empty (R204). -/
def Ev.nameAhead (e : Ev) (m : Mode) : Ev := { e with office.pendingMode := some m }

/-- A mode is named to a part that may take it (R204, R206): from CONFIGURE and from DOZE another mode is entered at once. -/
def Ev.nameMode (e : Ev) (m : Mode) : Ev :=
  match e.mode with
  | .configure | .doze => if m = e.mode then e else e.enterMode m
  | .run | .shadow => if m = e.mode then e.nameCurrent else e.nameAhead m

/-- DOZE is refused: it is named in another mode and its test fails (R204). -/
def State.dozeRefused (s : State) (m : Mode) : Bool := m == .doze && s.mode != .doze && !s.mayDoze

/-- The order SET MODE (R204). -/
def State.orderSetMode (s : State) (o : Order) : State :=
  match if o.lengthIs 1 then Mode.ofCode (o.byte 0) else none with
  | none => s.answer o .range []
  | some m => s.checked o [(s.dozeRefused m, .conflict)] (s.perform o (·.nameMode m) noData)

/-- SET_MODE (R204). -/
def execSetMode (s : State) : Answered := s.order 0x01 s.orderSetMode

/-! ### SET CLOCK (R200) -/

/-- The order SET CLOCK (R200). -/
def State.orderSetClock (s : State) (o : Order) : State :=
  let minute := numAt o.data 0 2
  let second := o.byte 2
  s.checked o [(!o.lengthIs 3, .range), (outside 0 1439 minute || outside 0 59 second, .range)]
    (State.answer { s with clock := { s.clock with valid := true, minute := minute, second := second } } o .ok [])

/-- SET_CLOCK (R200). -/
def execSetClock (s : State) : Answered := s.order 0x02 s.orderSetClock

/-! ### SET PARAMETER (R201) -/

/-- The order SET PARAMETER (R201). -/
def State.orderSetParameter (s : State) (o : Order) : State :=
  let code := o.byte 0
  let value := numAt o.data 1 4
  let p := s.params.set code value
  s.checked o
    [(!o.lengthIs 5, .range), (!paramInRange code value, .range),
     ((code == 15 || code == 16) && p.detectorTag == p.signalTag, .conflict)]
    (s.perform o (·.writeParams p) noData)

/-- SET_PARAMETER (R201). -/
def execSetParameter (s : State) : Answered := s.order 0x03 s.orderSetParameter

/-! ### The load window (R202, R203, R129) -/

/-- Some valid duty is CALLED, RELEASED or LEAVING (R129, R202). -/
def State.dutyInRelease (s : State) : Bool := s.pullOutActive

/-- The schedule opens for loading: every bound bus is unbound, and the pins of the duties in the range are cleared (R129). -/
def Ev.openSchedule (e : Ev) (first stop : Nat) : Ev :=
  ((indices e.gate.buses).foldl Ev.unbind e).clearPins fun i _ => decide (first ≤ i) && decide (i < stop)

/-- The window opens (R202). -/
def Ev.openWindow (e : Ev) (t : Table) (first stop : Nat) : Ev :=
  let e := if t = .schedule then e.openSchedule first stop else e
  { e with office.window := some { table := t, first := first, stop := stop, next := first } }

/-- A range of indices that a table does not have (R202 check 2). -/
def badRange (t : Table) (first stop : Nat) : Bool :=
  decide (stop ≤ first) || decide (first < t.lowest) || decide (t.limit < stop)

/-- The order OPEN LOAD (R202). -/
def State.orderOpenLoad (s : State) (o : Order) : State :=
  let first := numAt o.data 1 2
  let stop := numAt o.data 3 2
  s.checked o [(!o.lengthIs 5, .range), (s.office.window.isSome, .window)]
    (match Table.ofCode (o.byte 0) with
    | none => s.answer o .range []
    | some t =>
      s.checked o [(badRange t first stop, .range), (t == .schedule && s.dutyInRelease, .conflict)]
        (s.perform o (·.openWindow t first stop) noData))

/-- OPEN_LOAD (R202). -/
def execOpenLoad (s : State) : Answered := s.order 0x04 s.orderOpenLoad

/-- The records of a LOAD RECORDS, with the tally. -/
def Ev.loadOrder (e : Ev) (w : Window) (n : Nat) (data : List Byte) : Ev × LoadTally :=
  e.loadEach w.table w.next { accepted := 0, refused := none } (piecesOf w.table.recordSize n (data.drop 1))

/-- The records are loaded, the window advances, and the answer carries the tally (R203). -/
def State.loadInto (s : State) (o : Order) (w : Window) : State :=
  let n := o.byte 0
  let x := s.begin.loadOrder w n o.data
  (x.1.advanceWindow w n).settle.toState.answer o x.2.result x.2.data

/-- The order LOAD RECORDS (R203). A count that is 0 or above 4 is answered RANGE, for which no rule names an answer (log 44). -/
def State.orderLoadRecords (s : State) (o : Order) : State :=
  let n := o.byte 0
  s.checked o [(o.data.isEmpty, .range)]
    (match s.office.window with
    | none => s.answer o .window []
    | some w =>
      s.checked o
        [(outside 1 4 n || !o.lengthIs (1 + n * w.table.recordSize), .range), (decide (w.stop < w.next + n), .range)]
        (s.loadInto o w))

/-- LOAD_RECORDS (R203). -/
def execLoadRecords (s : State) : Answered := s.order 0x05 s.orderLoadRecords

/-- The order ABANDON LOAD (R202). -/
def State.orderAbandonLoad (s : State) (o : Order) : State :=
  s.checked o [(!o.lengthIs 0, .range), (s.office.window.isNone, .window)]
    (s.perform o (·.closeWindow .loadAbandoned) noData)

/-- ABANDON_LOAD (R202). -/
def execAbandonLoad (s : State) : Answered := s.order 0x06 s.orderAbandonLoad

/-! ### CLEAR FLAGS and RESTART (R194, R207) -/

/-- The order CLEAR FLAGS (R194). -/
def State.orderClearFlags (s : State) (o : Order) : State :=
  s.checked o [(!o.lengthIs 0, .range)] (State.answer { s with notices.dropped := false } o .ok [])

/-- CLEAR_FLAGS (R194). -/
def execClearFlags (s : State) : Answered := s.order 0x1B s.orderClearFlags

/-- The order RESTART (R207). -/
def State.orderRestart (s : State) (o : Order) : State :=
  s.checked o [(!o.lengthIs 0, .range)] (s.perform o Ev.warmRestart noData)

/-- RESTART (R207). -/
def execRestart (s : State) : Answered := s.order 0x1C s.orderRestart

end Sys2Proof.Machine
end

