-- ==== Sys2Proof/Machine/OrdersRead.lean ====
section
/-! DEFINITION. The orders that read (R43, R187, R199) and DECREMENT STATISTIC (R188). -/

namespace Sys2Proof.Machine

/-- The order READ RECORD (R199). -/
def State.orderReadRecord (s : State) (o : Order) : State :=
  match if o.lengthIs 2 then Table.ofCode (o.byte 0) else none with
  | none => s.answer o .range []
  | some t =>
    s.checked o [(decide (o.byte 1 < t.lowest) || decide (t.limit ≤ o.byte 1), .range)]
      (s.answer o .ok (s.recordBytes t (o.byte 1)))

/-- READ_RECORD (R199). -/
def execReadRecord (s : State) : Answered := s.order 0x07 s.orderReadRecord

/-- The order READ LANE (R43). -/
def State.orderReadLane (s : State) (o : Order) : State :=
  s.checked o [(!o.lengthIs 2, .range), (outside 0 31 (o.byte 0), .range)] (s.answer o .ok (s.laneData (o.byte 0) (o.byte 1)))

/-- READ_LANE (R43). -/
def execReadLane (s : State) : Answered := s.order 0x08 s.orderReadLane

/-- The order READ QUEUE (R199). -/
def State.orderReadQueue (s : State) (o : Order) : State :=
  match if o.lengthIs 3 then s.queueData (o.byte 0) (numAt o.data 1 2) else none with
  | none => s.answer o .range []
  | some data => s.answer o .ok data

/-- READ_QUEUE (R199). -/
def execReadQueue (s : State) : Answered := s.order 0x09 s.orderReadQueue

/-- The value of the counter of a code (R184, R187). -/
def State.counterAt (s : State) (code : Nat) : Word32 := tget s.counters code

/-- The order READ STATISTIC (R187). -/
def State.orderReadStatistic (s : State) (o : Order) : State :=
  s.checked o [(!o.lengthIs 1, .range), (outside 0 29 (o.byte 0), .range)]
    (s.answer o .ok (byte4 (s.counterAt (o.byte 0)).toNat))

/-- READ_STATISTIC (R187). -/
def execReadStatistic (s : State) : Answered := s.order 0x19 s.orderReadStatistic

/-- A counter is lowered by a value, floored at 0 (R188). -/
def State.lowerCounter (s : State) (code value : Nat) : State :=
  { s with counters := tset s.counters code (BitVec.ofNat 32 ((s.counterAt code).toNat - value)) }

/-- The order DECREMENT STATISTIC (R188). -/
def State.orderDecrementStatistic (s : State) (o : Order) : State :=
  let code := o.byte 0
  let s' := s.lowerCounter code (numAt o.data 1 4)
  s.checked o [(!o.lengthIs 5, .range), (outside 0 29 code, .range)] (s'.answer o .ok (byte4 (s'.counterAt code).toNat))

/-- DECREMENT_STATISTIC (R188). -/
def execDecrementStatistic (s : State) : Answered := s.order 0x1A s.orderDecrementStatistic

end Sys2Proof.Machine
end

