-- ==== Sys2Proof/Machine/OrdersYard.lean ====
section
/-! DEFINITION. The orders on lanes, duties and buses: PLACE_BUS, REMOVE_BUS, SET_LANE_STATE, PIN_DUTY, UNPIN_DUTY, CANCEL_DUTY and WASH_NOW
(R8, R40 to R42, R113, R114). -/

namespace Sys2Proof.Machine

/-! ### Office corrections to lanes (R40 to R42) -/

/-- The office state is set, the uncertain flag cleared, and the permissions derived again (R40). -/
def Ev.setLaneState (e : Ev) (l : Nat) (st : OfficeState) : Ev :=
  (e.setLane l { e.lane l with office := st, uncertain := false }).comparePermissions e.toState

/-- The order SET LANE STATE (R40). An office state code above 2 is answered RANGE, for which no rule names an answer (log 39). -/
def State.orderSetLaneState (s : State) (o : Order) : State :=
  match if o.lengthIs 2 then OfficeState.ofCode (o.byte 1) else none with
  | none => s.answer o .range []
  | some st =>
    s.checked o [(!(s.lane (o.byte 0)).valid, .range)] (s.perform o (·.setLaneState (o.byte 0) st) noData)

/-- SET_LANE_STATE (R40). -/
def execSetLaneState (s : State) : Answered := s.order 0x0C s.orderSetLaneState

/-- The entry that a PLACE BUS names: the placeholder byte is read as yes for any value but 0 (R209; log 16). -/
def placedEntry (o : Order) : LaneEntry := if o.byte 2 = 0 then .bus (o.byte 3) else .placeholder

/-- The bus that a PLACE BUS names is valid; a placeholder names none (R41 check 1). -/
def State.placeable (s : State) : LaneEntry → Bool
  | .bus b => (s.bus b).valid
  | .placeholder => true

/-- The bus that a PLACE BUS names stands elsewhere: its place is not OUT, LOST or HOLD (R41 check 2). -/
def State.placedElsewhere (s : State) : LaneEntry → Bool
  | .bus b =>
    match (s.bus b).place with
    | .out | .lost | .hold => false
    | .fuelWait | .fuelBay _ | .washWait | .wash _ | .directed _ | .parked _ | .leaving => true
  | .placeholder => false

/-- A bus placed in a lane leaves the hold list and is PARKED (R41). -/
def Ev.parkPlaced (e : Ev) (l : Nat) : LaneEntry → Ev
  | .bus b => (if (e.bus b).place = .hold then e.leaveHold b else e).setPlace b (.parked l)
  | .placeholder => e

/-- A vehicle is inserted in a lane at a position, which is clamped to the number of entries, and the flag is cleared (R41). -/
def Ev.placeEntry (e : Ev) (l position : Nat) (x : LaneEntry) : Ev :=
  let c := (e.lane l).contents
  let e := (e.parkPlaced l x).changeContents l (insertAt x (min position c.length) c)
  e.setLane l { e.lane l with uncertain := false }

/-- The order PLACE BUS (R41). -/
def State.orderPlaceBus (s : State) (o : Order) : State :=
  let l := o.byte 0
  let x := placedEntry o
  let position := min (o.byte 1) (s.lane l).contents.length
  s.checked o
    [(!o.lengthIs 4, .range), (!(s.lane l).valid || !s.placeable x, .range), (s.placedElsewhere x, .conflict),
     (decide (s.freeBays l < s.entryLength x), .conflict), ((s.release l).isSome && position == 0, .conflict)]
    (s.perform o (·.placeEntry l (o.byte 1) x) noData)

/-- PLACE_BUS (R41). -/
def execPlaceBus (s : State) : Answered := s.order 0x0A s.orderPlaceBus

/-- The entry is the bus bound to the duty that the lane's release record names (R42). -/
def State.entryReleased (s : State) (l : Nat) (x : Option LaneEntry) : Bool :=
  match (s.release l).bind (fun r => r.duty) with
  | some d =>
    match (s.duty d).bus with
    | some b => x == some (.bus b)
    | none => false
  | none => false

/-- A bus removed by the office becomes LOST (R42). -/
def Ev.loseRemoved (e : Ev) : Option LaneEntry → Ev
  | some (.bus b) => e.setPlace b .lost
  | some .placeholder | none => e

/-- The entry at a position of a lane is removed, and the flag is cleared (R42). -/
def Ev.removeEntry (e : Ev) (l position : Nat) : Ev :=
  let xs := (e.lane l).contents
  let e := (e.loseRemoved xs[position]?).changeContents l (removeAt position xs)
  e.setLane l { e.lane l with uncertain := false }

/-- The order REMOVE BUS (R42). -/
def State.orderRemoveBus (s : State) (o : Order) : State :=
  let l := o.byte 0
  let position := o.byte 1
  let xs := (s.lane l).contents
  s.checked o
    [(!o.lengthIs 2, .range), (!(s.lane l).valid || decide (xs.length ≤ position), .range),
     (s.entryReleased l xs[position]?, .conflict)]
    (s.perform o (·.removeEntry l position) noData)

/-- REMOVE_BUS (R42). -/
def execRemoveBus (s : State) : Answered := s.order 0x0B s.orderRemoveBus

/-! ### Orders on duties (R113, R114) -/

/-- A duty is OPEN or BOUND (R113, R114). -/
def DutyState.settled : DutyState → Bool
  | .vacant | .bound => true
  | .called | .released | .leaving | .departed | .missed | .cancelled => false

/-- The bus is bound to a duty in CALLED, RELEASED or LEAVING (R113 check 5). -/
def State.busInRelease (s : State) (b : Nat) : Bool :=
  match (s.bus b).boundDuty with
  | some d => (s.duty d).state == .called || (s.duty d).state == .released || (s.duty d).state == .leaving
  | none => false

/-- A duty and a bus are bound to each other, each freed first of another binding, and the duty's pin becomes the bus (R113). -/
def Ev.pin (e : Ev) (d b : Nat) : Ev :=
  let e := if (e.duty d).bus = some b ∧ (e.bus b).boundDuty = some d then e else ((e.unbindDuty d).unbind b).bind b d
  e.setDuty d { e.duty d with pin := some b }

/-- The order PIN DUTY (R113). -/
def State.orderPinDuty (s : State) (o : Order) : State :=
  let d := o.byte 0
  let b := o.byte 1
  s.checked o
    [(!o.lengthIs 2, .range), (!(s.duty d).valid || !(s.bus b).valid, .range), (s.scheduleWindow, .window),
     (!(s.duty d).state.settled, .conflict), ((s.bus b).cls != (s.duty d).cls, .conflict), (s.busInRelease b, .conflict)]
    (s.perform o (·.pin d b) noData)

/-- PIN_DUTY (R113). -/
def execPinDuty (s : State) : Answered := s.order 0x0D s.orderPinDuty

/-- The order UNPIN DUTY (R114). -/
def State.orderUnpinDuty (s : State) (o : Order) : State :=
  let d := o.byte 0
  s.checked o [(!o.lengthIs 1, .range), (!(s.duty d).valid, .range)]
    ((s.begin.setDuty d { s.duty d with pin := none }).toState.answer o .ok [])

/-- UNPIN_DUTY (R114). -/
def execUnpinDuty (s : State) : Answered := s.order 0x0E s.orderUnpinDuty

/-- A duty is cancelled (R114): its bus, if any, is unbound first. -/
def Ev.cancel (e : Ev) (d : Nat) : Ev :=
  let e := e.unbindDuty d
  e.setDuty d { e.duty d with state := .cancelled }

/-- The order CANCEL DUTY (R114). -/
def State.orderCancelDuty (s : State) (o : Order) : State :=
  let d := o.byte 0
  s.checked o
    [(!o.lengthIs 1, .range), (!(s.duty d).valid, .range), (s.scheduleWindow, .window), (!(s.duty d).state.settled, .conflict)]
    (s.perform o (·.cancel d) noData)

/-- CANCEL_DUTY (R114). -/
def execCancelDuty (s : State) : Answered := s.order 0x0F s.orderCancelDuty

/-! ### WASH NOW (R8) -/

/-- The order WASH NOW (R8). -/
def State.orderWashNow (s : State) (o : Order) : State :=
  let b := o.byte 0
  s.checked o [(!o.lengthIs 1, .range), (!(s.bus b).valid, .range)]
    ((s.begin.setBus b { s.bus b with washNow := true }).toState.answer o .ok [])

/-- WASH_NOW (R8). -/
def execWashNow (s : State) : Answered := s.order 0x10 s.orderWashNow

end Sys2Proof.Machine
end

