-- ==== Sys2Proof/Machine/OrdersPlant.lean ====
section
/-! DEFINITION. The orders on stock, wash lanes, dispensers, nodes and commands, and FORWARD (R82, R83, R104, R105, R161 to R163, R176,
R179). -/

namespace Sys2Proof.Machine

/-! ### Stock (R83) -/

/-- The most litres the stock holds (R71, R83). -/
def stockLimit : Nat := 4000000

/-- The stock becomes a value, and the below reserve indication is derived again (R84). -/
def Ev.setStock (e : Ev) (litres : Nat) : Ev := ({ e with fuel.stock := litres } : Ev).deriveReserve

/-- The data of a stock order: stock, committed and free stock (R83, R209). -/
def State.stockData (s : State) : List Byte := byte4 s.fuel.stock ++ byte4 s.fuel.committed ++ byte4 s.freeStock

/-- The order ADD STOCK (R83). -/
def State.orderAddStock (s : State) (o : Order) : State :=
  let litres := numAt o.data 0 4
  let s' := (s.begin.setStock (min stockLimit (s.fuel.stock + litres))).toState
  s.checked o [(!o.lengthIs 4, .range), (decide (stockLimit < litres), .range)] (s'.answer o .ok s'.stockData)

/-- ADD_STOCK (R83). -/
def execAddStock (s : State) : Answered := s.order 0x11 s.orderAddStock

/-- The order SET STOCK (R83). -/
def State.orderSetStock (s : State) (o : Order) : State :=
  let litres := numAt o.data 0 4
  let s' := (s.begin.setStock litres).toState
  s.checked o
    [(!o.lengthIs 4, .range), (decide (stockLimit < litres), .range), (decide (litres < s.fuel.committed), .conflict)]
    (s'.answer o .ok s'.stockData)

/-- SET_STOCK (R83). -/
def execSetStock (s : State) : Answered := s.order 0x12 s.orderSetStock

/-! ### Wash lanes and dispensers (R82, R104, R105) -/

/-- The order REOPEN WASH LANE (R105). -/
def State.orderReopenWashLane (s : State) (o : Order) : State :=
  s.checked o [(!o.lengthIs 1, .range), (!(s.washLane (o.byte 0)).valid, .range)] (s.perform o (·.reopenWash (o.byte 0)) noData)

/-- REOPEN_WASH_LANE (R105). -/
def execReopenWashLane (s : State) : Answered := s.order 0x13 s.orderReopenWashLane

/-- The order CLOSE WASH LANE (R104). -/
def State.orderCloseWashLane (s : State) (o : Order) : State :=
  s.checked o [(!o.lengthIs 1, .range), (!(s.washLane (o.byte 0)).valid, .range)] (s.perform o (·.closeWash (o.byte 0)) noData)

/-- CLOSE_WASH_LANE (R104). -/
def execCloseWashLane (s : State) : Answered := s.order 0x14 s.orderCloseWashLane

/-- The order OPEN DISPENSER (R82). -/
def State.orderOpenDispenser (s : State) (o : Order) : State :=
  s.checked o [(!o.lengthIs 1, .range), (!(s.dispenser (o.byte 0)).valid, .range)] (s.perform o (·.openDisp (o.byte 0)) noData)

/-- OPEN_DISPENSER (R82). -/
def execOpenDispenser (s : State) : Answered := s.order 0x15 s.orderOpenDispenser

/-- The order CLOSE DISPENSER (R82). -/
def State.orderCloseDispenser (s : State) (o : Order) : State :=
  s.checked o [(!o.lengthIs 1, .range), (!(s.dispenser (o.byte 0)).valid, .range)] (s.perform o (·.closeDisp (o.byte 0)) noData)

/-- CLOSE_DISPENSER (R82). -/
def execCloseDispenser (s : State) : Answered := s.order 0x16 s.orderCloseDispenser

/-! ### Nodes and commands (R176, R179) -/

/-- The order REINSTATE NODE (R179). -/
def State.orderReinstateNode (s : State) (o : Order) : State :=
  s.checked o [(!o.lengthIs 1, .range), (!(s.node (o.byte 0)).valid, .range)] (s.perform o (·.restoreNode (o.byte 0)) noData)

/-- REINSTATE_NODE (R179). -/
def execReinstateNode (s : State) : Answered := s.order 0x17 s.orderReinstateNode

/-- The number of entries that wait (R176). -/
def State.waitingCount (s : State) : Nat := (s.commands.queue.filter CommandEntry.waiting).length

/-- The order ABORT COMMANDS (R176). -/
def State.orderAbortCommands (s : State) (o : Order) : State :=
  s.checked o [(!o.lengthIs 0, .range)] (s.perform o Ev.abortWaiting fun _ => byte1 s.waitingCount)

/-- ABORT_COMMANDS (R176). -/
def execAbortCommands (s : State) : Answered := s.order 0x18 s.orderAbortCommands

/-! ### FORWARD (R161 to R163) -/

/-- The index of a group tag in the group hash table (R161). -/
def groupIndex (g : Nat) : Nat := Nat.xor (Nat.xor (g % 64) (g / 64 % 64)) (g / 4096)

/-- A group tag passes (R161). -/
def State.groupPasses (s : State) (g : Nat) : Bool := tget s.field.groupHash (groupIndex g)

/-- The checks of a forward request (R162). -/
def State.forwardChecks (s : State) (o : Order) : List (Bool × ResultCode) :=
  let d := numAt o.data 0 2
  [(decide (o.data.length < 3), .range),
   (d == 0 || (isNode d && !(s.node d).valid) || decide (maxPayload < (o.data.drop 3).length), .range),
   (s.mode == .configure || s.changePending, .mode), (reservedKind (BitVec.ofNat 8 (o.byte 2)), .conflict),
   (isNode d && s.cutOff d, .conflict), (!isNode d && !s.groupPasses d, .conflict)]

/-- The command queue refuses a forwarded frame because it is full (R163, R167); in SHADOW it takes no place (R181). -/
def State.forwardFull (s : State) : Bool := s.mode != .shadow && decide (commandCapacity ≤ s.commands.queue.length)

/-- The forwarded frame is placed as a priority-0 command (R163). -/
def Ev.placeForward (e : Ev) (o : Order) : Ev :=
  e.requestPlain (numAt o.data 0 2) (.forwarded (BitVec.ofNat 8 (o.byte 2)) (o.data.drop 3)) .forward

/-- The order FORWARD (R162, R163): BUSY at a full queue, which is a failed outcome counted and no notice (log 17). -/
def State.orderForward (s : State) (o : Order) : State :=
  s.checked o (s.forwardChecks o)
    (if s.forwardFull then (s.begin.count .commandFailures).toState.answer o .busy []
    else s.perform o (·.placeForward o) noData)

/-- FORWARD (R162). -/
def execForward (s : State) : Answered := s.order 0x1D s.orderForward

end Sys2Proof.Machine
end

