-- ==== Sys2Proof/Machine/Dispatch.lean ====
section
/-! DEFINITION. One arm for each command: its meaning. -/

namespace Sys2Proof.Machine

/-- The effect of a command on everything but the queue of the commands that wait. -/
def exec (i : Instr) (s : State) : Host.Outcome State Fault Refusal :=
  match i with
  | .coldReset => Sys2Proof.Machine.execColdReset s
  | .yardSecond => Sys2Proof.Machine.execYardSecond s
  | .minuteTick => Sys2Proof.Machine.execMinuteTick s
  | .leavingTimeout bus => Sys2Proof.Machine.execLeavingTimeout bus s
  | .directionExpiry bus => Sys2Proof.Machine.execDirectionExpiry bus s
  | .callTimeout dispenser => Sys2Proof.Machine.execCallTimeout dispenser s
  | .deferralEnd bus => Sys2Proof.Machine.execDeferralEnd bus s
  | .dockingTimeout dispenser => Sys2Proof.Machine.execDockingTimeout dispenser s
  | .washCallTimeout washLane => Sys2Proof.Machine.execWashCallTimeout washLane s
  | .cycleDeadline washLane => Sys2Proof.Machine.execCycleDeadline washLane s
  | .endOfClearing washLane => Sys2Proof.Machine.execEndOfClearing washLane s
  | .releaseTimeout lane => Sys2Proof.Machine.execReleaseTimeout lane s
  | .acknowledgementTimeout node => Sys2Proof.Machine.execAcknowledgementTimeout node s
  | .quietTimerExpiry => Sys2Proof.Machine.execQuietTimerExpiry s
  | .fieldFrameArrival frame => Sys2Proof.Machine.execFieldFrameArrival frame s
  | .tag => Sys2Proof.Machine.execTag s
  | .sample => Sys2Proof.Machine.execSample s
  | .ack => Sys2Proof.Machine.execAck s
  | .health => Sys2Proof.Machine.execHealth s
  | .nozzle => Sys2Proof.Machine.execNozzle s
  | .delivery => Sys2Proof.Machine.execDelivery s
  | .dispAlarm => Sys2Proof.Machine.execDispAlarm s
  | .washEventEntered => Sys2Proof.Machine.execWashEventEntered s
  | .washEventDone => Sys2Proof.Machine.execWashEventDone s
  | .washEventAborted => Sys2Proof.Machine.execWashEventAborted s
  | .washEventReady => Sys2Proof.Machine.execWashEventReady s
  | .washEventUnknown => Sys2Proof.Machine.execWashEventUnknown s
  | .transmission => Sys2Proof.Machine.execTransmission s
  | .transmitCompletion => Sys2Proof.Machine.execTransmitCompletion s
  | .officeFrameArrival frame => Sys2Proof.Machine.execOfficeFrameArrival frame s
  | .officeTransmission => Sys2Proof.Machine.execOfficeTransmission s
  | .officeTransmitCompletion => Sys2Proof.Machine.execOfficeTransmitCompletion s
  | .modeChangeTakesEffect => Sys2Proof.Machine.execModeChangeTakesEffect s
  | .setMode => Sys2Proof.Machine.execSetMode s
  | .setClock => Sys2Proof.Machine.execSetClock s
  | .setParameter => Sys2Proof.Machine.execSetParameter s
  | .openLoad => Sys2Proof.Machine.execOpenLoad s
  | .loadRecords => Sys2Proof.Machine.execLoadRecords s
  | .abandonLoad => Sys2Proof.Machine.execAbandonLoad s
  | .readRecord => Sys2Proof.Machine.execReadRecord s
  | .readLane => Sys2Proof.Machine.execReadLane s
  | .readQueue => Sys2Proof.Machine.execReadQueue s
  | .placeBus => Sys2Proof.Machine.execPlaceBus s
  | .removeBus => Sys2Proof.Machine.execRemoveBus s
  | .setLaneState => Sys2Proof.Machine.execSetLaneState s
  | .pinDuty => Sys2Proof.Machine.execPinDuty s
  | .unpinDuty => Sys2Proof.Machine.execUnpinDuty s
  | .cancelDuty => Sys2Proof.Machine.execCancelDuty s
  | .washNow => Sys2Proof.Machine.execWashNow s
  | .addStock => Sys2Proof.Machine.execAddStock s
  | .setStock => Sys2Proof.Machine.execSetStock s
  | .reopenWashLane => Sys2Proof.Machine.execReopenWashLane s
  | .closeWashLane => Sys2Proof.Machine.execCloseWashLane s
  | .openDispenser => Sys2Proof.Machine.execOpenDispenser s
  | .closeDispenser => Sys2Proof.Machine.execCloseDispenser s
  | .reinstateNode => Sys2Proof.Machine.execReinstateNode s
  | .abortCommands => Sys2Proof.Machine.execAbortCommands s
  | .readStatistic => Sys2Proof.Machine.execReadStatistic s
  | .decrementStatistic => Sys2Proof.Machine.execDecrementStatistic s
  | .clearFlags => Sys2Proof.Machine.execClearFlags s
  | .restart => Sys2Proof.Machine.execRestart s
  | .forward => Sys2Proof.Machine.execForward s
  | .unknownOrder => Sys2Proof.Machine.execUnknownOrder s

end Sys2Proof.Machine
end

