-- ==== Sys2Proof/Safety.lean ====
section
/-! DEFINITION. What the statements say of states: what a table load writes and what nothing else does, the bounds on every
collection, the ranges of clock and parameters, the soundness of stock and grants, and one command at a time to a node. -/

namespace Sys2Proof.Machine

/-! ### Loaded fields: a record with every live field at its cold value -/

/-- The loaded fields of a bus record (R3). -/
def BusRec.loaded (r : BusRec) : BusRec :=
  { BusRec.cold with valid := r.valid, fleet := r.fleet, tag := r.tag, cls := r.cls, washInterval := r.washInterval }

/-- The loaded fields of a lane record (R20). -/
def LaneRec.loaded (r : LaneRec) : LaneRec :=
  { LaneRec.cold with
    valid := r.valid, kind := r.kind, length := r.length, classMask := r.classMask, cost := r.cost, entrySignal := r.entrySignal,
    headSignal := r.headSignal, entryLoop := r.entryLoop, exitLoop := r.exitLoop }

/-- The loaded fields of a duty record (R108). -/
def DutyRec.loaded (r : DutyRec) : DutyRec :=
  { DutyRec.cold with valid := r.valid, code := r.code, planned := r.planned, cls := r.cls, minLevel := r.minLevel }

/-- The loaded fields of a dispenser record (R64). -/
def DispenserRec.loaded (r : DispenserRec) : DispenserRec :=
  { DispenserRec.cold with
    valid := r.valid, island := r.island, classMask := r.classMask, controller := r.controller, baySignal := r.baySignal,
    bayLoop := r.bayLoop }

/-- The loaded fields of a wash-lane record (R90). -/
def WashLaneRec.loaded (r : WashLaneRec) : WashLaneRec :=
  { WashLaneRec.cold with
    valid := r.valid, classMask := r.classMask, controller := r.controller, entrySignal := r.entrySignal,
    fullTime := r.fullTime, shortTime := r.shortTime, clearBase := r.clearBase }

/-- The loaded fields of a channel record (R135). -/
def ChannelRec.loaded (r : ChannelRec) : ChannelRec :=
  { ChannelRec.cold with
    valid := r.valid, node := r.node, input := r.input, use := r.use, k := r.k, hold := r.hold, onDelta := r.onDelta,
    offDelta := r.offDelta }

/-- The loaded fields of a node record (R152). -/
def NodeRec.loaded (r : NodeRec) : NodeRec :=
  { NodeRec.cold with valid := r.valid, role := r.role, roleIndex := r.roleIndex }

/-- What the load window writes: the loaded fields of every record of every table but the parameters (R202). -/
structure Tables where
  classes : Vector ClassRec 4
  bus : Nat → BusRec
  lane : Nat → LaneRec
  duty : Nat → DutyRec
  node : Nat → NodeRec
  channel : Nat → ChannelRec
  dispenser : Nat → DispenserRec
  washLane : Nat → WashLaneRec
  groupHash : Vector Bool 64

/-- The tables of a state. -/
def State.tables (s : State) : Tables where
  classes := s.gate.classes
  bus b := (s.bus b).loaded
  lane l := (s.lane l).loaded
  duty d := (s.duty d).loaded
  node n := (s.node n).loaded
  channel c := (s.channel c).loaded
  dispenser d := (s.dispenser d).loaded
  washLane w := (s.washLane w).loaded
  groupHash := s.field.groupHash

/-! ### What every step keeps -/

/-- Every collection is within its capacity: fuel queue R61, wash queue R88, direction list R29, command queue R165, field inbox R156, notice
queue R192, order inbox and answer list R197. -/
structure State.WithinCapacity (s : State) : Prop where
  fuel : s.fuel.queue.length ≤ 40
  wash : s.wash.queue.length ≤ 24
  directions : s.laneMap.directions.length ≤ 8
  commands : s.commands.queue.length ≤ 24
  inbox : s.field.inbox.length ≤ 32
  notices : s.notices.queue.length ≤ 48
  orders : s.office.orders.length ≤ 4
  answers : s.office.answers.length ≤ 8

/-- The sum of the grants that the dispensers hold. -/
def State.grants (s : State) : Nat := (s.fuel.dispensers.toList.map fun r => r.grant.getD 0).sum

/-- Stock and grants agree (R71): committed is the sum of the grants, it is at most the stock, and the stock is at most 4,000,000; a grant is
held only by a dispenser in DOCKED or FUELLING (R65, R74). -/
structure State.StockSound (s : State) : Prop where
  sum : s.fuel.committed = s.grants
  covered : s.fuel.committed ≤ s.fuel.stock
  bounded : s.fuel.stock ≤ 4000000
  held : ∀ d, (s.dispenser d).grant.isSome → (s.dispenser d).state = .docked ∨ (s.dispenser d).state = .fuelling

/-- One command at a time to a node (R177): a SENT entry to a node has that node's outstanding mark, and no node has two SENT entries. The
entries' numbers, which are the model's own, are distinct and below the counter they are taken from (log 5). -/
structure State.CommandsSound (s : State) : Prop where
  marked : ∀ x ∈ s.commands.queue, x.waiting = false → isNode x.destination = true → (s.node x.destination).mark = true
  oneSent : ∀ n, (s.commands.queue.filter fun x => !x.waiting && isNode x.destination && x.destination == n).length ≤ 1
  numbered : (s.commands.queue.map fun x => x.id).Nodup
  below : ∀ x ∈ s.commands.queue, x.id < s.serial

/-- The yard second and the clock in their ranges (00_scope.md "Yard seconds" and "Yard clock", R200). -/
def State.ClockInRange (s : State) : Prop :=
  s.clock.yardSecond < 4294967296 ∧ s.clock.minute < 1440 ∧ s.clock.second < 60

/-- Where a bus appears in the yard's collections (R7): once for each lane entry, queue entry, occupant, hold place and direction that is the
bus, as the place that the collection stands for. -/
def State.appears (s : State) (b : Nat) : List Place :=
  (List.range 32).flatMap (fun l => ((s.lane l).contents.filter fun x => x == .bus b).map fun _ => Place.parked l)
    ++ (s.fuel.queue.filter fun x => x.bus == b).map (fun _ => Place.fuelWait)
    ++ (List.range 6).flatMap (fun d => ((s.dispenser d).occupant.toList.filter fun o => o.bus == b).map fun _ => Place.fuelBay d)
    ++ (s.wash.queue.filter fun x => x.bus == b).map (fun _ => Place.washWait)
    ++ (List.range 2).flatMap (fun w => ((s.washLane w).occupant.toList.filter fun o => o.bus == b).map fun _ => Place.wash w)
    ++ (s.holdList.filter fun x => x == b).map (fun _ => Place.hold)
    ++ (s.laneMap.directions.filter fun d => d.bus == b).map (fun d => Place.directed d.lane)

/-- A place that names no collection (R7). -/
def Place.outside : Place → Bool
  | .out | .leaving | .lost => true
  | .fuelWait | .fuelBay _ | .washWait | .wash _ | .hold | .directed _ | .parked _ => false

/-- Buses and collections agree (R7): a valid bus appears once, in the collection of its place, or not at all when its place is OUT, LEAVING or
LOST; an invalid record appears nowhere. An occupant stands only in a dispenser or wash lane that serves a turn (R65, R91). -/
structure State.YardAgrees (s : State) : Prop where
  placed : ∀ b, s.appears b = if (s.bus b).valid && !(s.bus b).place.outside then [(s.bus b).place] else []
  bays : ∀ d, (s.dispenser d).occupant.isSome → (s.dispenser d).state.inTurn = true
  washes : ∀ w, (s.washLane w).occupant.isSome → (s.washLane w).occupied = true

/-- No lane is fuller than it is long (R24). -/
def State.RoomKept (s : State) : Prop := ∀ l, s.usedBays l ≤ (s.lane l).length

/-- The states in which a duty has a bound bus (R109). -/
def DutyState.holdsBus : DutyState → Bool
  | .bound | .called | .released | .leaving => true
  | .vacant | .departed | .missed | .cancelled => false

/-- The states in which a duty has a release lane (R109). -/
def DutyState.onItsWay : DutyState → Bool
  | .called | .released | .leaving => true
  | .vacant | .bound | .departed | .missed | .cancelled => false

/-- Duties, buses and release records agree: bindings are one-to-one and symmetric (R110), between valid records of one class; a bound bus and a
release lane are present in exactly the states R109 gives; a pin names a valid bus of the class; nothing is bound while a schedule window is open
(R130); a duty is CALLED or RELEASED exactly while a record of its release lane in CALLING or SHOWING names it (R118). -/
structure State.PullOutSound (s : State) : Prop where
  symmetric : ∀ b d, (s.bus b).boundDuty = some d ↔ (s.duty d).bus = some b
  bound : ∀ d, (s.duty d).bus.isSome = (s.duty d).state.holdsBus
  lanes : ∀ d, (s.duty d).releaseLane.isSome = (s.duty d).state.onItsWay
  agreed : ∀ b d, (s.duty d).bus = some b → (s.duty d).valid = true ∧ (s.bus b).valid = true ∧ (s.duty d).cls = (s.bus b).cls
  pins : ∀ b d, (s.duty d).pin = some b → (s.duty d).valid = true ∧ (s.bus b).valid = true ∧ (s.duty d).cls = (s.bus b).cls
  window : s.scheduleWindow = true → ∀ d, (s.duty d).bus = none
  called : ∀ d l, (s.duty d).state = .called ∧ (s.duty d).releaseLane = some l ↔
    ∃ r, s.release l = some r ∧ r.duty = some d ∧ r.phase = .calling
  released : ∀ d l, (s.duty d).state = .released ∧ (s.duty d).releaseLane = some l ↔
    ∃ r t, s.release l = some r ∧ r.duty = some d ∧ r.phase = .showing t
  unnamed : ∀ l r, s.release l = some r → r.duty = none → r.phase = .stopping

/-- A DEAD-END lane never has a pending direction and a release record together (R39). -/
def State.MouthsClear (s : State) : Prop := ∀ l, (s.lane l).kind = .deadEnd → s.directionsTo l = [] ∨ s.release l = none

/-- The fuel queue stands in its order (R61): each entry goes before those after it, or is level with them. -/
def State.FuelOrdered (s : State) : Prop := s.fuel.queue.Pairwise fun x y => x.before y = true

/-- CONFIGURE moves nothing (R205): while it lasts, no command is queued, no direction pends, no release record stands, no duty is CALLED or
RELEASED, no dispenser calls or holds a grant, and no wash lane calls. SHADOW holds no command either (R181). -/
structure State.ConfigureStill (s : State) : Prop where
  shadow : s.mode = .shadow → s.commands.queue = []
  commands : s.mode = .configure → s.commands.queue = []
  directions : s.mode = .configure → s.laneMap.directions = []
  releases : s.mode = .configure → ∀ l, s.release l = none
  duties : s.mode = .configure → ∀ d, (s.duty d).state ≠ .called ∧ (s.duty d).state ≠ .released
  dispensers : s.mode = .configure → ∀ d, (s.dispenser d).state ≠ .calling ∧ (s.dispenser d).grant = none
  washLanes : s.mode = .configure → ∀ w, (s.washLane w).state ≠ .calling

/-- The live fields in their ranges: level and nights since wash (R5), node score and recovery run (R180), fault score and pacing (R91). -/
structure State.LiveInRange (s : State) : Prop where
  levels : ∀ b v, (s.bus b).level = some v → v ≤ 100
  nights : ∀ b, (s.bus b).nights ≤ 15
  nodeScores : ∀ n, (s.node n).score ≤ 255
  recoveries : ∀ n, (s.node n).recovery ≤ 8
  washScores : ∀ w, (s.washLane w).score ≤ 255
  pacings : ∀ w, (s.washLane w).pacing ≤ 8

/-- Every parameter in its range, and the two group tags different (R201). -/
structure Params.InRange (p : Params) : Prop where
  dayStart : p.dayStart ≤ 1439
  callLead : p.callLead ≤ 20
  grace : p.grace ≤ 15
  abandon : 30 ≤ p.abandon ∧ p.abandon ≤ 120
  fuelSkipLevel : 50 ≤ p.fuelSkipLevel ∧ p.fuelSkipLevel ≤ 100
  reserve : p.reserve ≤ 100000
  minimumGrant : 5 ≤ p.minimumGrant ∧ p.minimumGrant ≤ 100
  callTimeout : 30 ≤ p.callTimeout ∧ p.callTimeout ≤ 300
  dockingTimeout : 60 ≤ p.dockingTimeout ∧ p.dockingTimeout ≤ 900
  directionTimeout : 30 ≤ p.directionTimeout ∧ p.directionTimeout ≤ 600
  releaseTimeout : 60 ≤ p.releaseTimeout ∧ p.releaseTimeout ≤ 600
  leavingTimeout : 120 ≤ p.leavingTimeout ∧ p.leavingTimeout ≤ 1800
  washMargin : 30 ≤ p.washMargin ∧ p.washMargin ≤ 600
  quietTime : 500 ≤ p.quietTime ∧ p.quietTime ≤ 5000
  detectorTag : 64 ≤ p.detectorTag ∧ p.detectorTag ≤ 65535
  signalTag : 64 ≤ p.signalTag ∧ p.signalTag ≤ 65535
  tags : p.detectorTag ≠ p.signalTag

/-- A signal names a node from 1 to 63 and an output from 0 to 15 (R20, R64, R90). -/
def Signal.InRange (sig : Signal) : Prop := 1 ≤ sig.node ∧ sig.node ≤ 63 ∧ sig.output ≤ 15

/-- What the load checks keep true of the tables. Of the records one by one: every class in its ranges (R2), and every valid bus (R3), lane (R20, R21), duty
(R108), node (R152), channel (R135, R136), dispenser (R64) and wash lane (R90). Of the records together: tag codes distinct and of valid classes
(R2, R3); dispenser and wash roles held once (R152); channel inputs fed once (R136); loops and signal outputs used by one lane each (R21). -/
structure State.TablesSound (s : State) : Prop where
  classes : ∀ c, c < 4 → 2 ≤ (s.cls c).length ∧ (s.cls c).length ≤ 4 ∧ 100 ≤ (s.cls c).capacity ∧ (s.cls c).capacity ≤ 600
  lanes : ∀ l, (s.lane l).valid = true →
    2 ≤ (s.lane l).length ∧ (s.lane l).length ≤ 60 ∧ (s.lane l).cost ≤ 31 ∧ (s.lane l).entrySignal.InRange ∧ (s.lane l).entryLoop ≤ 79 ∧
      ((s.lane l).kind = .through →
        (s.lane l).headSignal.InRange ∧ (s.lane l).exitLoop ≤ 79 ∧ (s.lane l).entryLoop ≠ (s.lane l).exitLoop)
  duties : ∀ d, (s.duty d).valid = true →
    1 ≤ (s.duty d).code ∧ (s.duty d).planned ≤ 1439 ∧ (s.duty d).cls ≤ 3 ∧ (s.duty d).minLevel ≤ 100
  roleIndices : ∀ n, (s.node n).valid = true →
    (s.node n).roleIndex ≤
      match (s.node n).role with
      | .dispenser => 5
      | .wash => 1
      | .detector => 79
      | .gateIn | .gateOut | .signal => 0
  channels : ∀ c, (s.channel c).valid = true →
    1 ≤ (s.channel c).node ∧ (s.channel c).node ≤ 63 ∧ (s.channel c).input ≤ 7 ∧ (s.channel c).k ≤ 4 ∧ 1 ≤ (s.channel c).hold ∧
      (s.channel c).hold ≤ 8 ∧ (s.channel c).onDelta ≤ 16383 ∧ (s.channel c).offDelta < (s.channel c).onDelta
  dispensers : ∀ d, (s.dispenser d).valid = true →
    (s.dispenser d).island ≤ 2 ∧ 1 ≤ (s.dispenser d).controller ∧ (s.dispenser d).controller ≤ 63 ∧ (s.dispenser d).baySignal.InRange ∧
      (s.dispenser d).bayLoop ≤ 79
  washLanes : ∀ w, (s.washLane w).valid = true →
    1 ≤ (s.washLane w).controller ∧ (s.washLane w).controller ≤ 63 ∧ (s.washLane w).entrySignal.InRange ∧
      120 ≤ (s.washLane w).fullTime ∧ (s.washLane w).fullTime ≤ 1200 ∧ 60 ≤ (s.washLane w).shortTime ∧ (s.washLane w).shortTime ≤ 900 ∧
      5 ≤ (s.washLane w).clearBase ∧ (s.washLane w).clearBase ≤ 120
  buses : ∀ i, (s.bus i).valid = true → (s.bus i).badFields = false ∧ (s.cls (s.bus i).cls).valid = true
  tags : ∀ i j, (s.bus i).valid = true → (s.bus j).valid = true → (s.bus i).tag = (s.bus j).tag → i = j
  roles : ∀ i j, (s.node i).valid = true → (s.node j).valid = true → (s.node i).role = (s.node j).role →
    (s.node i).role = .dispenser ∨ (s.node i).role = .wash → (s.node i).roleIndex = (s.node j).roleIndex → i = j
  inputs : ∀ i j, (s.channel i).valid = true → (s.channel j).valid = true → (s.channel i).node = (s.channel j).node →
    (s.channel i).input = (s.channel j).input → i = j
  loops : ∀ i j c, (s.lane i).valid = true → (s.lane j).valid = true → (s.lane i).usesLoop c = true → (s.lane j).usesLoop c = true → i = j
  signals : ∀ i j sig, (s.lane i).valid = true → (s.lane j).valid = true → (s.lane i).usesSignal sig = true →
    (s.lane j).usesSignal sig = true → i = j

/-- An event with nothing left to do at its end: no outcome to deliver, no pending mode change that may be taken, the waiver as derived, and no
pass to make. -/
structure Ev.Quiet (e : Ev) : Prop where
  outs : e.outs = []
  pending : e.office.pendingMode = none ∨ e.commands.queue ≠ []
  waiver : ∀ c, c < 4 → e.waiverDue c = e.waived c
  passes : e.readyPasses = []

/-! ### What the statements say of commands -/

/-- An order of a code stands at the head of the order inbox and the answer list has room: it is performed (R197). -/
structure State.OrderAt (s : State) (code : Byte) (o : Order) : Prop where
  head : s.office.orders.head? = some o
  code : o.code = code
  room : s.office.answers.length < 8

/-- The head of the field inbox, and what is left after it (R156). -/
def State.HeadIs (s : State) (x : InboxEntry) (report : FieldReport) : Prop :=
  s.field.inbox.head? = some x ∧ x.report = report

/-- The delivery that a report at the head of the field inbox makes (R150, R157). -/
def FieldReport.command : FieldReport → Instr
  | .tag _ _ => .tag
  | .sample _ _ => .sample
  | .ack _ _ => .ack
  | .health _ _ => .health
  | .nozzle _ => .nozzle
  | .delivery _ _ => .delivery
  | .dispAlarm _ => .dispAlarm
  | .washEvent 1 _ => .washEventEntered
  | .washEvent 2 _ => .washEventDone
  | .washEvent 3 _ => .washEventAborted
  | .washEvent 4 _ => .washEventReady
  | .washEvent _ _ => .washEventUnknown

/-- The state with the head entry taken out of the field inbox (R156). -/
def State.taken (s : State) : State := { s with field.inbox := s.field.inbox.tail }

/-- What a list of records loads to (R203): each is checked against what the records before it left, and is written, with the outcomes its write decides
delivered, or refused, with its index and code. -/
inductive Ev.LoadsTo (t : Table) : Ev → Nat → List (List Byte) → Ev → List (Nat × ResultCode) → Prop where
  | done (e : Ev) (i : Nat) : Ev.LoadsTo t e i [] e []
  | written (e m : Ev) (i : Nat) (p : List Byte) (ps : List (List Byte)) (rs : List (Nat × ResultCode)) :
      e.checkRecord t i p = none → Ev.LoadsTo t (e.writeRecord t i p).drain (i + 1) ps m rs → Ev.LoadsTo t e i (p :: ps) m rs
  | refused (e m : Ev) (i : Nat) (p : List Byte) (ps : List (List Byte)) (r : ResultCode) (rs : List (Nat × ResultCode)) :
      e.checkRecord t i p = some r → Ev.LoadsTo t e (i + 1) ps m rs → Ev.LoadsTo t e i (p :: ps) m ((i, r) :: rs)

/-- The checks of a record in their order (R203): the first condition that holds gives the refusal, and none of them accepts. -/
def answersFirst : List (Prop × ResultCode) → Option ResultCode → Prop
  | [], a => a = none
  | (p, r) :: rest, a => (p → a = some r) ∧ (¬ p → answersFirst rest a)

/-- The ranges of the seventeen parameters by their codes (R201). Allow inversion takes any value of its field: 1 is yes and any other is
no (R209). -/
def Params.ranges : List (Nat × Nat) :=
  [(0, 1439), (0, 20), (0, 15), (30, 120), (50, 100), (0, 100000), (5, 100), (30, 300), (60, 900), (30, 600), (60, 600), (120, 1800),
   (30, 600), (0, 4294967295), (500, 5000), (64, 65535), (64, 65535)]

/-- The values of the seventeen parameters by their codes (R201). -/
def Params.values (p : Params) : List Nat :=
  [p.dayStart, p.callLead, p.grace, p.abandon, p.fuelSkipLevel, p.reserve, p.minimumGrant, p.callTimeout, p.dockingTimeout,
   p.directionTimeout, p.releaseTimeout, p.leavingTimeout, p.washMargin, (if p.allowInversion then 1 else 0), p.quietTime,
   p.detectorTag, p.signalTag]

/-- The seventeen fields of a parameters record, in the order of their codes (R201, R209). -/
def parameterFields (p : List Byte) : List Nat :=
  [numAt p 0 2, numAt p 2 1, numAt p 3 1, numAt p 4 1, numAt p 5 1, numAt p 6 4, numAt p 10 1, numAt p 11 2, numAt p 13 2, numAt p 15 2,
   numAt p 17 2, numAt p 19 2, numAt p 21 2, numAt p 23 1, numAt p 24 2, numAt p 26 2, numAt p 28 2]

/-- The orders of the office (R199), as commands. -/
def officeOrders : List Instr :=
  [.setMode, .setClock, .setParameter, .openLoad, .loadRecords, .abandonLoad, .readRecord, .readLane, .readQueue, .placeBus, .removeBus,
   .setLaneState, .pinDuty, .unpinDuty, .cancelDuty, .washNow, .addStock, .setStock, .reopenWashLane, .closeWashLane, .openDispenser,
   .closeDispenser, .reinstateNode, .abortCommands, .readStatistic, .decrementStatistic, .clearFlags, .restart, .forward, .unknownOrder]

/-! ### What a command leaves as it was -/

/-- The pieces of the state, each by the name its rule gives it. A node's record and its shadow are two pieces. -/
inductive Part where
  | clock | params | cls (c : Nat) | bus (b : Nat) | lane (l : Nat) | directions | holdList | fuelQueue | dispenser (d : Nat) | stock
  | committed | belowReserve | washQueue | washLane (w : Nat) | waived (c : Nat) | duty (d : Nat) | release (l : Nat) | channel (c : Nat)
  | node (n : Nat) | shadow (n : Nat) | groupHash | inbox | quietTimer | commandQueue | fieldTx | counter (c : Counter) | notices | dropped
  | orders | answers | officeTx | window | mode | pendingMode | dozeFrom | overdue | serial | choice | pending
  deriving DecidableEq, Repr

/-- A piece is the same in two states. -/
def Part.same (s t : State) : Part → Prop
  | .clock => t.clock = s.clock
  | .params => t.params = s.params
  | .cls c => t.cls c = s.cls c
  | .bus b => t.bus b = s.bus b
  | .lane l => t.lane l = s.lane l
  | .directions => t.laneMap.directions = s.laneMap.directions
  | .holdList => t.holdList = s.holdList
  | .fuelQueue => t.fuel.queue = s.fuel.queue
  | .dispenser d => t.dispenser d = s.dispenser d
  | .stock => t.fuel.stock = s.fuel.stock
  | .committed => t.fuel.committed = s.fuel.committed
  | .belowReserve => t.fuel.belowReserve = s.fuel.belowReserve
  | .washQueue => t.wash.queue = s.wash.queue
  | .washLane w => t.washLane w = s.washLane w
  | .waived c => t.waived c = s.waived c
  | .duty d => t.duty d = s.duty d
  | .release l => t.release l = s.release l
  | .channel c => t.channel c = s.channel c
  | .node n => { t.node n with shadow := 0 } = { s.node n with shadow := 0 }
  | .shadow n => (t.node n).shadow = (s.node n).shadow
  | .groupHash => t.field.groupHash = s.field.groupHash
  | .inbox => t.field.inbox = s.field.inbox
  | .quietTimer => t.field.quietTimer = s.field.quietTimer
  | .commandQueue => t.commands.queue = s.commands.queue
  | .fieldTx => t.commands.tx = s.commands.tx
  | .counter c => t.counter c = s.counter c
  | .notices => t.notices.queue = s.notices.queue
  | .dropped => t.notices.dropped = s.notices.dropped
  | .orders => t.office.orders = s.office.orders
  | .answers => t.office.answers = s.office.answers
  | .officeTx => t.office.tx = s.office.tx
  | .window => t.office.window = s.office.window
  | .mode => t.office.mode = s.office.mode
  | .pendingMode => t.office.pendingMode = s.office.pendingMode
  | .dozeFrom => t.office.dozeFrom = s.office.dozeFrom
  | .overdue => t.office.overdue = s.office.overdue
  | .serial => t.serial = s.serial
  | .choice => t.choice = s.choice
  | .pending => t.pending = s.pending

/-- Only the named pieces may differ between two states. -/
def State.OnlyChanged (s t : State) (ps : List Part) : Prop := ∀ p, p ∉ ps → p.same s t

/-- What the sending of a notice may change (R192). -/
def Part.notice : List Part := [.notices, .dropped, .counter .noticesDropped]

/-- What a request to a node or group may change (R167 to R170, R181). -/
def Part.request (n : Nat) : List Part := [.commandQueue, .serial, .shadow n] ++ Part.notice

/-- Every record of a table. -/
def Part.everyBus : List Part := (List.range 256).map .bus
def Part.everyDuty : List Part := (List.range 256).map .duty
def Part.everyNode : List Part := (List.range 64).map .node
def Part.everyShadow : List Part := (List.range 64).map .shadow
def Part.everyChannel : List Part := (List.range 80).map .channel
def Part.everyDispenser : List Part := (List.range 6).map .dispenser

/-- What one assignment attempt for a bus may change (R47, R50, R56). -/
def Part.attempt (b : Nat) : List Part :=
  [.bus b, .directions, .holdList, .commandQueue, .serial] ++ Part.everyDuty ++ Part.everyShadow ++ Part.notice

/-- A request stands in the command queue as a contribution to a waiting entry of its kind and destination, or its outcome has been decided
in the event (R167, R173). -/
def Ev.Placed (e : Ev) (destination : Nat) (kind : CommandKind) (c : Contribution) : Prop :=
  (∃ x ∈ e.commands.queue, x.waiting = true ∧ x.kind = kind ∧ x.destination = destination ∧ c ∈ x.contributions) ∨
    ∃ r, { contribution := c, kind := kind, destination := destination, result := r } ∈ e.outs

/-- An aspect of a signal has been requested (R20, R166). -/
def Ev.Aspect (e : Ev) (sig : Signal) (kind : CommandKind) (p : Purpose) : Prop :=
  e.Placed sig.node kind { purpose := p, outputs := sig.mask }

/-- A notice has been sent: it stands in the notice queue whenever that queue still has room, for then nothing was lost (R192). -/
def Ev.Told (e : Ev) (n : Notice) : Prop := e.notices.queue.length < noticeCapacity → n ∈ e.notices.queue

end Sys2Proof.Machine
end

