-- ==== Sys2Proof/Certificates/Slice0/Obligations.lean ====
section
/-! DEFINITION. The statements for the provers: what the spec's numbered rules say of the model. A command whose effects end with
the end of an event is stated through that event: `e.settle` is the event's end (outcomes delivered, a pending mode change taken, the waiver
derived, the triggered passes made), of which `Obligations.EndOfEventKeeps` speaks. -/

open Sys2Proof Sys2Proof.Machine

/-! ### The machine -/

/-- A step takes the command at the front of the queue and carries it out with the queue's rest (00_scope.md, 95_what_each_step_holds.md); that the
block idles on an empty queue is the model's choice (log 2). -/
def Obligations.StepTakesFrontCommand : Prop :=
  (∀ (c : Instr) (rest : List Instr) (s : State), step { s with pending := c :: rest } = exec c { s with pending := rest }) ∧
    ∀ s : State, s.pending = [] → step s = .next s

/-- Every command is carried out in every state, and leaves the queue of those that wait as it was. That a command whose event cannot occur in the state
is carried out too, with the state as it was, and that COLD_RESET keeps the queue, are the model's choices (logs 2, 20). -/
def Obligations.EveryCommandCompletes : Prop :=
  ∀ (c : Instr) (s : State), ∃ t, exec c s = .next t ∧ t.pending = s.pending

/-- The end of an event leaves the clock, the parameters, the loaded tables, the stock, the field inbox, what is on both transmitters, the order
inbox and the answer list as the event left them; and an event with no outcome to deliver, no pending change to take, the waiver as derived and no
pass to make ends as it stands. -/
def Obligations.EndOfEventKeeps : Prop :=
  ∀ e : Ev,
    (e.settle.clock = e.clock ∧ e.settle.params = e.params ∧ e.settle.tables = e.tables ∧ e.settle.fuel.stock = e.fuel.stock ∧
      e.settle.field = e.field ∧ e.settle.commands.tx = e.commands.tx ∧ e.settle.office.tx = e.office.tx ∧
      e.settle.office.orders = e.office.orders ∧ e.settle.office.answers = e.office.answers ∧ e.settle.pending = e.pending) ∧
    (e.Quiet → e.settle = e)

/-! ### What only some commands change -/

/-- What only some commands change: the clock and the yard second, COLD_RESET, YARD_SECOND, MINUTE_TICK and SET_CLOCK (R200, R208); the loaded
fields of every table, COLD_RESET and LOAD_RECORDS (R202, R203), and the parameters these and SET_PARAMETER (R201); the stock, COLD_RESET, DELIVERY,
ADD_STOCK and SET_STOCK (R71, R76, R77, R83). -/
def Obligations.OnlyTheirCommandsChangeThem : Prop :=
  ∀ (c : Instr) (s t : State), exec c s = .next t → c ≠ .coldReset →
    (c ≠ .yardSecond → c ≠ .minuteTick → c ≠ .setClock → t.clock = s.clock) ∧
    (c ≠ .loadRecords → t.tables = s.tables) ∧
    (c ≠ .loadRecords → c ≠ .setParameter → t.params = s.params) ∧
    (c ≠ .delivery → c ≠ .addStock → c ≠ .setStock → t.fuel.stock = s.fuel.stock)

/-! ### What every step keeps -/

/-- Every collection keeps within its capacity (R29, R61, R88, R156, R165, R192, R197); the fuel queue keeps its order (R61); the clock, the parameters and
the live fields stay in the ranges their rules give (R5, R91, R178, R180, R200, R201). -/
def Obligations.SizesOrderAndRangesHold : Prop :=
  (∀ s t : State, s.WithinCapacity → step s = .next t → t.WithinCapacity) ∧
  (∀ s t : State, s.FuelOrdered → step s = .next t → t.FuelOrdered) ∧
  (∀ s t : State, s.ClockInRange → step s = .next t → t.ClockInRange) ∧
  (∀ s t : State, s.params.InRange → step s = .next t → t.params.InRange) ∧
  ∀ s t : State, s.LiveInRange → step s = .next t → t.LiveInRange

/-- Committed litres equal the sum of the grants and never exceed the stock, and the stock stays within 4,000,000 (R71). -/
def Obligations.CommittedIsTheSumOfGrants : Prop :=
  ∀ s t : State, s.StockSound → step s = .next t → t.StockSound

/-- No field node gets a second SENT command (R177), since a node with one is marked. -/
def Obligations.OneSentCommandToANode : Prop :=
  ∀ s t : State, s.CommandsSound → step s = .next t → t.CommandsSound

/-- A valid bus stays in exactly the one collection that its place names, or in none (R7). -/
def Obligations.BusesStayInTheirPlaces : Prop :=
  ∀ s t : State, s.YardAgrees → step s = .next t → t.YardAgrees

/-- The used bays of a lane never exceed its length (R24), of buses and lanes that agree (R7). -/
def Obligations.LanesNeverOverfill : Prop :=
  ∀ s t : State, s.YardAgrees → s.RoomKept → step s = .next t → t.RoomKept

/-- Bindings stay one-to-one and symmetric (R110), a duty is CALLED or RELEASED only while a release record of its release lane names it (R118), and a
DEAD-END lane never holds a pending direction and a release record at the same time (R39), of buses and collections that agree (R7). -/
def Obligations.BindingsAndReleasesAgree : Prop :=
  (∀ s t : State, s.YardAgrees → s.PullOutSound → step s = .next t → t.PullOutSound) ∧
  ∀ s t : State, s.YardAgrees → s.PullOutSound → s.MouthsClear → step s = .next t → t.MouthsClear

/-- CONFIGURE keeps still: no command queued, no direction, no release, no call and no grant while it lasts (R205, R182, R132), of grants that
only a dispenser in a turn holds (R71, R74). SHADOW holds no queued command either (R181); that a wake from DOZE into SHADOW completes those that still
stand in the queue is the model's choice (log 32). -/
def Obligations.ConfigureKeepsStill : Prop :=
  ∀ s t : State, s.StockSound → s.ConfigureStill → step s = .next t → t.ConfigureStill

/-- What the load checks refuse never comes to stand in the tables: the classes and every valid record keep their ranges, THROUGH lanes their two loops, and
channels their off delta below the on delta; tag codes, dispenser and wash roles, channel inputs, and the loops and signal outputs of lanes stand once
(R2, R3, R4, R20, R21, R64, R90, R108, R135, R136, R152). That a GATE-IN, GATE-OUT or SIGNAL record has role index 0 is read from R152 (log 25). -/
def Obligations.LoadChecksHoldInTheTables : Prop :=
  ∀ s t : State, s.TablesSound → step s = .next t → t.TablesSound

/-- The state after a cold reset has all that every step keeps. -/
def Obligations.ResetHasEveryInvariant : Prop :=
  State.reset.WithinCapacity ∧ State.reset.StockSound ∧ State.reset.CommandsSound ∧ State.reset.YardAgrees ∧ State.reset.RoomKept ∧
  State.reset.PullOutSound ∧ State.reset.MouthsClear ∧ State.reset.FuelOrdered ∧ State.reset.ConfigureStill ∧ State.reset.TablesSound ∧
  State.reset.ClockInRange ∧ State.reset.params.InRange ∧ State.reset.LiveInRange

/-! ### Reset -/

/-- What a cold reset leaves (R208): COLD_RESET gives the state of power-up; the queue of commands that wait and the model's two counters are
kept (logs 5, 6, 20). The blocks hold their cold values: the roster (R18), the lane map (R44), the hold list (R59), the fuel scheduler (R86), the
wash scheduler (R107), the pull-out scheduler (R133), the channels (R137), the field port (R164), the command queue (R183), the counters (R190) and
the notices (R195). -/
def Obligations.ColdResetGivesTheResetState : Prop :=
  (∀ s : State, exec .coldReset s = .next { State.reset with pending := s.pending, serial := s.serial, choice := s.choice }) ∧
  State.reset.clock.yardSecond = 0 ∧ State.reset.clock.valid = false ∧ State.reset.mode = .configure ∧ State.reset.changePending = false ∧
  State.reset.params = Params.cold ∧ State.reset.office.window = none ∧ State.reset.office.orders = [] ∧ State.reset.office.answers = [] ∧
  State.reset.commands.tx = none ∧ State.reset.office.tx = none ∧ State.reset.status = 0 ∧ State.reset.notices.queue = [] ∧
  (∀ b, b < 256 → State.reset.bus b = BusRec.cold) ∧ (∀ c, c < 4 → State.reset.cls c = ClassRec.cold) ∧
  (∀ l, l < 32 → State.reset.lane l = LaneRec.cold) ∧ State.reset.laneMap.directions = [] ∧ State.reset.holdList = [] ∧
  State.reset.fuel.queue = [] ∧ (∀ d, d < 6 → State.reset.dispenser d = DispenserRec.cold) ∧ State.reset.fuel.stock = 0 ∧
  State.reset.fuel.committed = 0 ∧ State.reset.fuel.belowReserve = false ∧
  State.reset.wash.queue = [] ∧ (∀ w, w < 2 → State.reset.washLane w = WashLaneRec.cold) ∧ (∀ c, c < 4 → State.reset.waived c = true) ∧
  (∀ d, d < 256 → State.reset.duty d = DutyRec.cold) ∧ (∀ l, State.reset.release l = none) ∧
  (∀ c, c < 80 → State.reset.channel c = ChannelRec.cold) ∧
  (∀ n, 1 ≤ n → n < 64 → State.reset.node n = NodeRec.cold) ∧ (∀ i, tget State.reset.field.groupHash i = false) ∧
  State.reset.field.inbox = [] ∧ State.reset.field.quietTimer = none ∧ State.reset.commands.queue = [] ∧
  (∀ c, State.reset.counter c = 0) ∧ State.reset.attention = false ∧ State.reset.notices.dropped = false

/-! ### Rules that several commands share -/

/-- The score of a lane for a departure (R53), by its table and the departures it compares, its bound, and what it shuts out while allow inversion
is off. -/
def Obligations.LaneScoresFollowTheTable : Prop :=
  ∀ (s : State) (l : Nat),
    s.entryDeparture .placeholder = 1440 ∧
    (∀ b, s.entryDeparture (.bus b) = s.busDeparture b ∧ ((s.bus b).boundDuty = none → s.busDeparture b = 1440) ∧
      ∀ d, (s.bus b).boundDuty = some d → s.busDeparture b = ((s.duty d).planned + 1440 - s.params.dayStart % 1440) % 1440) ∧
    (∀ t, s.joinEnd l = none → s.score l t = 320 + (s.lane l).cost) ∧
    (∀ t x, s.joinEnd l = some x → (s.lane l).kind = .through → s.entryDeparture x ≤ t →
      s.score l t = min (t - s.entryDeparture x) 255 + (s.lane l).cost) ∧
    (∀ t x, s.joinEnd l = some x → (s.lane l).kind = .through → t < s.entryDeparture x →
      s.score l t = 1024 + 4 * min (s.entryDeparture x - t) 240 + (s.lane l).cost) ∧
    (∀ t x, s.joinEnd l = some x → (s.lane l).kind = .deadEnd → t ≤ s.entryDeparture x →
      s.score l t = min (s.entryDeparture x - t) 255 + (s.lane l).cost) ∧
    (∀ t x, s.joinEnd l = some x → (s.lane l).kind = .deadEnd → s.entryDeparture x < t →
      s.score l t = 1024 + 4 * min (t - s.entryDeparture x) 240 + (s.lane l).cost) ∧
    (∀ t, (s.lane l).cost ≤ 31 → s.score l t ≤ 2015) ∧
    ∀ b, s.params.allowInversion = false → s.chosenLane b = some l → s.score l (s.busDeparture b) < 1024

/-- The lane chosen for a bus (R55): an eligible lane of lowest score, and at equal scores of best fit, and at equal fits of lowest index; none
exactly when no lane is eligible. A lane is eligible by the six conditions of R52, with the open bays of R51 and entry allowed as R26 has it. -/
def Obligations.BestEligibleLaneIsChosen : Prop :=
  (∀ (s : State) (l b : Nat),
    let lane := s.lane l
    s.openBays l = lane.length - (lane.contents.map s.entryLength).sum -
      ((s.laneMap.directions.filter fun d => d.lane == l).map fun d => s.busLength d.bus).sum ∧
    (s.laneEligible l b = true ↔
      lane.valid = true ∧
      (lane.office = .opened ∧ s.cutOff lane.entrySignal.node = false ∧ (s.channel lane.entryLoop).state ≠ .faulted) ∧
      lane.classMask.getLsbD (s.bus b).cls = true ∧ (s.cls (s.bus b).cls).length ≤ s.openBays l ∧
      (lane.kind = .through ∨ s.release l = none) ∧
      (s.params.allowInversion = true ∨ s.score l (s.busDeparture b) < 1024))) ∧
  ∀ (s : State) (b : Nat),
    (s.chosenLane b = none ↔ ∀ l, l < 32 → s.laneEligible l b = false) ∧
    ∀ l, s.chosenLane b = some l →
      l < 32 ∧ s.laneEligible l b = true ∧
      ∀ m, m < 32 → s.laneEligible m b = true → m ≠ l →
        s.score l (s.busDeparture b) < s.score m (s.busDeparture b) ∨
          (s.score l (s.busDeparture b) = s.score m (s.busDeparture b) ∧
            (s.openBays l - s.busLength b < s.openBays m - s.busLength b ∨
              (s.openBays l - s.busLength b = s.openBays m - s.busLength b ∧ l < m)))

/-- An assignment attempt after its binding step (R47, R49, R56). An unrestricted one with a lane and a place in the direction list issues the
direction (R29): the record, the place, the hold list left, the proceed asked for. Any other ends with the bus on the hold list: one that was not on
it joins at the tail, with its notice; one that was stays where it stood. -/
def Obligations.AttemptDirectsOrHolds : Prop :=
  ∀ (e : Ev) (b : Nat), b < 256 →
    let m := e.bindProvisional b
    (∀ l, m.restricted = false → m.chosenLane b = some l → m.laneMap.directions.length < 8 →
      (e.attempt b).laneMap.directions = e.laneMap.directions ++ [{ bus := b, lane := l, issuedAt := e.now, ticket := e.serial }] ∧
      (e.attempt b).bus b = { m.bus b with place := .directed l, lastSeen := e.now } ∧
      (e.attempt b).holdList = e.holdList.filter (fun x => x != b) ∧
      (e.attempt b).Aspect (e.lane l).entrySignal .aspectSet (.direction e.serial)) ∧
    (m.restricted = true ∨ m.chosenLane b = none ∨ 8 ≤ m.laneMap.directions.length →
      (b ∈ e.holdList → e.attempt b = m) ∧
      (b ∉ e.holdList →
        (e.attempt b).holdList = e.holdList ++ [b] ∧ (e.attempt b).laneMap = e.laneMap ∧ (e.attempt b).commands = e.commands ∧
        (e.attempt b).bus b = { m.bus b with place := .hold, lastSeen := e.now } ∧
        (e.attempt b).Told { e.note .held with
          bus := some b
          value := noteValue (if m.restricted then 2 else if m.chosenLane b = none then 0 else 1) })) ∧
    e.toState.OnlyChanged (e.attempt b).toState (Part.attempt b)

/-- The binding step of an attempt (R50): a bound bus keeps its duty, and nothing is bound while a schedule window is open (R130); otherwise the bus is
bound to the OPEN duty of least planned_s and index among those pinned to it, or where there is none among the unpinned ones of its class later than
now_s plus call lead; where there is none of these either it stays a spare. -/
def Obligations.AttemptBindsTheNextDuty : Prop :=
  ∀ (e : Ev) (b : Nat), b < 256 →
    let vacant (x : Nat) : Prop := x < 256 ∧ (e.duty x).valid = true ∧ (e.duty x).state = .vacant
    let pinned (x : Nat) : Prop := vacant x ∧ (e.duty x).pin = some b
    let next (x : Nat) : Prop :=
      vacant x ∧ (e.duty x).pin = none ∧ (e.duty x).cls = (e.bus b).cls ∧ (e.clock.valid = true → e.nowS + e.params.callLead < e.plannedS x)
    let first (p : Nat → Prop) (d : Nat) : Prop := p d ∧ ∀ x, p x → e.plannedS d < e.plannedS x ∨ (e.plannedS d = e.plannedS x ∧ d ≤ x)
    let binds (d : Nat) : Prop :=
      (e.bindProvisional b).bus b = { e.bus b with boundDuty := some d } ∧
      (e.bindProvisional b).duty d = { e.duty d with bus := some b, state := .bound } ∧
      e.toState.OnlyChanged (e.bindProvisional b).toState [.bus b, .duty d]
    ((e.bus b).boundDuty ≠ none ∨ e.scheduleWindow = true ∨ (∀ x, ¬ pinned x ∧ ¬ next x) → e.bindProvisional b = e) ∧
    ((e.bus b).boundDuty = none → e.scheduleWindow = false →
      (∀ d, first pinned d → binds d) ∧ ∀ d, (∀ x, ¬ pinned x) → first next d → binds d)

/-- Routing (R12): the fuel test sends a bus that needs fuel to the fuel queue with the priority of R62, and hands it to the rule of R63, whatever the length
of that queue; the wash test sends a bus whose wash is due to the tail of the wash queue, or skips it at a full one (R89), and passes it over to the lane
test, flagged and counted, while its class is waived (R103); any other bus goes to the lane test at once. -/
def Obligations.RoutingTestsInTurn : Prop :=
  ∀ (e : Ev) (b : Nat), b < 256 →
    let priority := match (e.bus b).level with
      | none => 2
      | some v => if (e.bus b).washNow = true ∧ 50 ≤ v then 0 else if v < 20 then 3 else if v < 50 then 2 else 1
    let due := (e.bus b).washInterval ≤ (e.bus b).nights ∨ (e.bus b).washNow = true
    ((∀ v, (e.bus b).level = some v → v < e.params.fuelSkipLevel) → e.fuel.queue.length < 40 →
      (e.route b).fuel.queue = insertFuel
        { bus := b, priority := priority, enqueuedAt := e.now, misses := 0, turnsLeft := 0, deadline := none, front := false } e.fuel.queue ∧
      (e.route b).bus b = { e.bus b with place := .fuelWait, lastSeen := e.now } ∧ (e.route b).fuelDue = true ∧
      e.toState.OnlyChanged (e.route b).toState [.fuelQueue, .bus b]) ∧
    ((∀ v, (e.bus b).level = some v → v < e.params.fuelSkipLevel) → e.route b = e.joinFuel
      { bus := b, priority := priority, enqueuedAt := e.now, misses := 0, turnsLeft := 0, deadline := none, front := false }) ∧
    (∀ v, (e.bus b).level = some v → e.params.fuelSkipLevel ≤ v → e.route b = e.washTest b) ∧
    (due → e.waived (e.bus b).cls = false → e.wash.queue.length < 24 →
      (e.washTest b).wash.queue = e.wash.queue ++ [{ bus := b, enqueuedAt := e.now, missedOnce := false, retried := false }] ∧
      (e.washTest b).bus b = { e.bus b with place := .washWait, lastSeen := e.now } ∧ (e.washTest b).washDue = true ∧
      e.toState.OnlyChanged (e.washTest b).toState [.washQueue, .bus b]) ∧
    (due → e.waived (e.bus b).cls = false → 24 ≤ e.wash.queue.length → e.washTest b = e.washSkip b .queueFull) ∧
    (due → e.waived (e.bus b).cls = true →
      e.washTest b = ((e.setBus b { e.bus b with washSkipped := true }).count .washSkipped).attempt b) ∧
    (¬ due → e.washTest b = e.attempt b)

/-- A bus joins the fuel queue at the place its order gives (R61, R62). At a queue of 40 (R63) one of priority 3 takes the place of the newest entry of
the lowest priority below 3, which is skipped; any other is skipped itself. A skip flags and counts the bus, sends its notice and hands it on to the
wash test. A dispenser that ends its turn (R78, R82) is closed by the office when it was to close then, is FREE at once over a VACANT bay loop, and
clears otherwise. The calling pass (R66, R67) takes the first entry not deferred for which a dispenser is callable, calls it to the lowest of them, lowers
the turns left of the deferred entries, and scans again. The bay loop docks a called bus (R69), ends the turn of one that leaves before its grant (R75), frees a
clearing dispenser (R78), and withdraws a call when it fails (R79). That the outcomes a call decides are delivered before the next call is read from R173
(log 29), that a returned bus stands behind its equals from R61 (log 42), and that several dispensers of one bay loop act in the order of their numbers is
the model's choice (log 40), and so is that the notice of a skip precedes its hand-over (log 49). -/
def Obligations.FuelTurnsBeginAndEnd : Prop :=
  (∀ (e : Ev) (x : FuelEntry), x.bus < 256 → e.fuel.queue.length < 40 →
    (e.joinFuel x).fuel.queue = insertFuel x e.fuel.queue ∧ (e.joinFuel x).fuelDue = true ∧
    (e.joinFuel x).bus x.bus = { e.bus x.bus with place := .fuelWait, lastSeen := e.now } ∧
    e.toState.OnlyChanged (e.joinFuel x).toState [.fuelQueue, .bus x.bus]) ∧
  (∀ (e : Ev) (x : FuelEntry), 40 ≤ e.fuel.queue.length →
    (∀ before y after, x.priority = 3 → e.fuel.queue = before ++ y :: after → y.priority < 3 →
      (∀ z ∈ e.fuel.queue, y.priority ≤ z.priority) → (∀ z ∈ before, z.priority = y.priority → z.enqueuedAt ≤ y.enqueuedAt) →
      (∀ z ∈ after, z.priority = y.priority → z.enqueuedAt < y.enqueuedAt) →
      e.joinFuel x = ((e.setFuelQueue (e.fuel.queue.filter fun z => z.bus != y.bus)).fuelSkip y.bus y.priority).insertFuelEntry x) ∧
    (x.priority ≠ 3 ∨ (∀ z ∈ e.fuel.queue, 3 ≤ z.priority) → e.joinFuel x = e.fuelSkip x.bus x.priority) ∧
    ∀ b p, b < 256 → ∃ m : Ev, e.fuelSkip b p = m.washTest b ∧ m.bus b = { e.bus b with fuelSkipped := true } ∧
      m.counter .fuelSkipped = e.counter .fuelSkipped + 1 ∧ m.Told { e.note .fuelSkipped with bus := some b, value := noteValue p } ∧
      e.toState.OnlyChanged m.toState ([.bus b, .counter .fuelSkipped] ++ Part.notice)) ∧
  (∀ (e : Ev) (d : Nat), d < 6 →
    let r := e.dispenser d
    e.toState.OnlyChanged (e.enterClearing d).toState [.dispenser d] ∧
    (r.closeAtEnd = true →
      (e.enterClearing d).dispenser d = { r with closeAtEnd := false, state := .closed .office, since := e.now }) ∧
    (r.closeAtEnd = false → (e.channel r.bayLoop).state = .vacant →
      (e.enterClearing d).dispenser d = { r with state := .free, since := e.now } ∧ (e.enterClearing d).fuelDue = true) ∧
    (r.closeAtEnd = false → (e.channel r.bayLoop).state ≠ .vacant →
      (e.enterClearing d).dispenser d = { r with state := .clearing, since := e.now })) ∧
  (∀ e : Ev,
    let callable (x : FuelEntry) (d : Nat) : Prop :=
      let r := e.dispenser d
      d < 6 ∧ x.deadline = none ∧ r.valid = true ∧ r.state = .free ∧ r.classMask.getLsbD (e.bus x.bus).cls = true ∧
        e.cutOff r.controller = false ∧ e.cutOff r.baySignal.node = false ∧
        (e.channel r.bayLoop).valid = true ∧ (e.channel r.bayLoop).state ≠ .faulted
    (e.nextFuelCall e.fuel.queue = none ↔ ∀ x ∈ e.fuel.queue, ∀ d, ¬ callable x d) ∧
    (∀ x d, e.nextFuelCall e.fuel.queue = some (x, d) →
      callable x d ∧ (∀ m, m < d → ¬ callable x m) ∧
        ∃ before after, e.fuel.queue = before ++ x :: after ∧ ∀ y ∈ before, ∀ m, ¬ callable y m) ∧
    (∀ x d, d < 6 → x.bus < 256 →
      let r := e.dispenser d
      let m := e.callFuel x d
      m.fuel.queue = e.fuel.queue.filter (fun y => y.bus != x.bus) ∧
      m.dispenser d =
        { r with
          occupant := some { bus := x.bus, priority := x.priority, enqueuedAt := x.enqueuedAt, misses := x.misses }
          callTicket := e.serial, state := .calling, since := e.now } ∧
      m.bus x.bus = { e.bus x.bus with place := .fuelBay d, lastSeen := e.now } ∧
      m.Aspect r.baySignal .aspectSet (.bayCall d e.serial) ∧
      e.toState.OnlyChanged m.toState ([.fuelQueue, .dispenser d, .bus x.bus] ++ Part.request r.baySignal.node)) ∧
    (∀ d b,
      let stands := (e.dispenser d).state = .calling ∧ ∃ o, (e.dispenser d).occupant = some o ∧ o.bus = b
      (¬ stands → e.lowerTurns d b = e) ∧
      (stands → e.toState.OnlyChanged (e.lowerTurns d b).toState [.fuelQueue] ∧
        (e.lowerTurns d b).fuel.queue = e.fuel.queue.map fun y =>
          if y.deadline = none then y
          else if y.turnsLeft ≤ 1 then { y with turnsLeft := 0, deadline := none } else { y with turnsLeft := y.turnsLeft - 1 })) ∧
    e.fuelPass = Ev.fuelCalls 6 { e with fuelDue := false } ∧
    ∀ n, (e.nextFuelCall e.fuel.queue = none → Ev.fuelCalls (n + 1) e = e) ∧
      ∀ x d, e.nextFuelCall e.fuel.queue = some (x, d) →
        Ev.fuelCalls (n + 1) e = Ev.fuelCalls n ((e.callFuel x d).drain.lowerTurns d x.bus)) ∧
  (∀ (e : Ev) (before : State) (c : Nat) (accepted : Bool), e.mode ≠ .configure →
    let bays := (List.range 6).filter fun d => (e.dispenser d).valid && (e.dispenser d).bayLoop == c
    ((e.channel c).use = .dispenserBay → (before.channel c).state = .vacant → (e.channel c).state = .occupied →
      e.tellChannel before c accepted = bays.foldl Ev.bayOccupied e) ∧
    ((e.channel c).use = .dispenserBay → (before.channel c).state = .occupied → (e.channel c).state = .vacant →
      e.tellChannel before c accepted = bays.foldl Ev.bayVacant e) ∧
    ((before.channel c).state ≠ .faulted → (e.channel c).state = .faulted →
      e.tellChannel before c accepted = bays.foldl Ev.bayFaulted (e.comparePermissions before)) ∧
    ((before.channel c).state = .faulted → (e.channel c).state = .vacant →
      e.tellChannel before c accepted = bays.foldl Ev.bayRecovered (e.comparePermissions before))) ∧
  ∀ (e : Ev) (d : Nat), d < 6 →
    let r := e.dispenser d
    let freed (m : Ev) : Prop := m.dispenser d = { r with state := .free, since := e.now } ∧ m.fuelDue = true ∧
      e.toState.OnlyChanged m.toState [.dispenser d]
    (r.state ≠ .calling → e.bayOccupied d = e ∧ e.bayFaulted d = e) ∧
    (r.state = .calling →
      (e.bayOccupied d).dispenser d = { r with state := .docked, since := e.now } ∧
      (e.bayOccupied d).Aspect r.baySignal .aspectClear .bayClear ∧
      e.toState.OnlyChanged (e.bayOccupied d).toState ([.dispenser d] ++ Part.request r.baySignal.node)) ∧
    (∀ o, r.state = .calling → r.occupant = some o → ∃ m : Ev,
      e.bayFaulted d = m.joinFuel
        { bus := o.bus, priority := o.priority, enqueuedAt := o.enqueuedAt, misses := o.misses, turnsLeft := 0, deadline := none,
          front := false } ∧
      m.dispenser d = { r with state := .free, since := e.now, occupant := none } ∧ m.fuelDue = true ∧
      m.Aspect r.baySignal .aspectClear .bayClear ∧
      e.toState.OnlyChanged m.toState ([.dispenser d] ++ Part.request r.baySignal.node)) ∧
    (r.state = .docked → r.grant ≠ none → e.bayVacant d = e) ∧
    (r.state = .docked → r.grant = none → r.occupant = none → e.bayVacant d = e.enterClearing d) ∧
    (∀ o, o.bus < 256 → r.state = .docked → r.grant = none → r.occupant = some o → ∃ m : Ev,
      e.bayVacant d = (m.washTest o.bus).enterClearing d ∧
      m.bus o.bus = { e.bus o.bus with fuelMissed := true } ∧ m.dispenser d = { r with occupant := none } ∧
      m.counter .fuelAbandoned = e.counter .fuelAbandoned + 1 ∧
      m.Told { e.note .noNozzleRequest with bus := some o.bus, dispenser := some d } ∧
      e.toState.OnlyChanged m.toState ([.bus o.bus, .dispenser d, .counter .fuelAbandoned] ++ Part.notice)) ∧
    (r.state = .clearing → freed (e.bayVacant d) ∧ freed (e.bayRecovered d)) ∧
    (r.state ≠ .docked → r.state ≠ .clearing → e.bayVacant d = e) ∧
    (r.state ≠ .clearing → e.bayRecovered d = e.triggerFuel)

/-- A departure (R112): the duty DEPARTED with departed as by the dominance order, one departure counted, the notice sent; a release in progress is
stopped, its record keeping the duty. -/
def Obligations.DepartureTakesTheDominantName : Prop :=
  ∀ (e : Ev) (d : Nat) (classified : DepartedAs), d < 256 →
    let unreleased := (e.duty d).unreleased || decide (classified = .unreleased)
    let how : DepartedAs :=
      if unreleased then .unreleased
      else if classified = .unconfirmed then .unconfirmed
      else if classified = .late ∨ (e.duty d).late = true then .late
      else .onTime
    let calls := (e.duty d).state = .called ∨ (e.duty d).state = .released
    (e.depart d classified).duty d =
      { e.duty d with state := .departed, releaseLane := none, unreleased := unreleased, departedAs := some how } ∧
    (e.depart d classified).counter how.counter = e.counter how.counter + 1 ∧
    (e.depart d classified).Told { e.note .departed with duty := some d, bus := (e.duty d).bus, value := noteValue how.code } ∧
    (∀ l, l < 32 → calls → (e.duty d).releaseLane = some l →
      (e.depart d classified).release l = some { duty := some d, phase := .stopping, ticket := e.serial } ∧
      (e.depart d classified).Aspect (e.lane l).head .aspectClear (.releaseStop l e.serial) ∧
      e.toState.OnlyChanged (e.depart d classified).toState
        ([.duty d, .counter how.counter, .release l] ++ Part.request (e.lane l).head.node)) ∧
    (¬ calls → e.toState.OnlyChanged (e.depart d classified).toState ([.duty d, .counter how.counter] ++ Part.notice))

/-- Unbinding (R111): both names cleared and the pin and flags kept; a BOUND duty goes to OPEN, the release of a CALLED or RELEASED one is withdrawn
and stopped, a LEAVING one departs unconfirmed, a DEPARTED one stays so. -/
def Obligations.UnbindingFollowsTheDutysState : Prop :=
  ∀ (e : Ev) (b d : Nat), b < 256 → d < 256 → (e.bus b).boundDuty = some d →
    (e.unbind b).bus b = { e.bus b with boundDuty := none } ∧
    ((e.duty d).state = .bound → (e.unbind b).duty d = { e.duty d with state := .vacant, bus := none } ∧
      e.toState.OnlyChanged (e.unbind b).toState [.bus b, .duty d]) ∧
    (∀ l, l < 32 → (e.duty d).state = .called ∨ (e.duty d).state = .released → (e.duty d).releaseLane = some l →
      (e.unbind b).duty d = { e.duty d with state := .vacant, bus := none, releaseLane := none } ∧
      (e.unbind b).release l = some { duty := none, phase := .stopping, ticket := e.serial } ∧
      (e.unbind b).Aspect (e.lane l).head .aspectClear (.releaseStop l e.serial) ∧
      (e.unbind b).Told { e.note .releaseWithdrawn with duty := some d, lane := some l } ∧
      e.toState.OnlyChanged (e.unbind b).toState ([.bus b, .duty d, .release l] ++ Part.request (e.lane l).head.node)) ∧
    ((e.duty d).state = .leaving →
      (e.unbind b).duty d = { (e.depart d .unconfirmed).duty d with bus := none } ∧
      (e.unbind b).counters = (e.depart d .unconfirmed).counters) ∧
    ((e.duty d).state = .departed → (e.unbind b).duty d = { e.duty d with bus := none } ∧
      e.toState.OnlyChanged (e.unbind b).toState [.bus b, .duty d])

/-- The passes of an event are made at its end, one after another, the pull-out pass after the other due ones (R48, R116), but in any order with them where
the event enters RUN or SHADOW (R205). The others stand in the order of a free value, and one over an empty list is left unmade (log 6); the outcomes, a due
mode change and the waiver come before each, and the outcomes decided for one bus or duty before the next (log 29). The re-run (R48): an attempt for each held
bus from head to tail, but for those a failed direction of the event brought back, and none at a direction list of 8. The pull-out pass (R116, R117, R120,
R121, R125, R126, R128): it tests every duty that waits for missed and late, and takes the due ones in order of planned_s and index: released from the exit
end of its lane, left to wait, exchanged with the candidate of least weight, or blocked. The exchange is said of bindings that agree (R110). The rebinding
pass (R131): class by class, each valid OPEN duty in that order takes its pinned bus, or the unbound bus of its class that stands nearest to an exit end and
that no pin of an OPEN duty names. -/
def Obligations.PassesTakeHeldBusesAndDueDuties : Prop :=
  ∀ e : Ev,
    let waits (d : Nat) : Prop := (e.duty d).valid = true ∧ ((e.duty d).state = .vacant ∨ (e.duty d).state = .bound)
    let goes (b d l : Nat) : Prop :=
      l < 32 ∧ (e.bus b).place = .parked l ∧ headBus (e.lane l).contents = some b ∧ e.releaseAllowed l = true ∧
        ((e.duty d).minLevel = 0 ∨ ∃ v, (e.bus b).level = some v ∧ (e.duty d).minLevel ≤ v)
    let free (l : Nat) : Prop := e.release l = none ∧ ((e.lane l).kind = .through ∨ ∀ x ∈ e.laneMap.directions, x.lane ≠ l)
    let candidate (x d l n : Nat) : Prop :=
      goes x d l ∧ free l ∧ (e.bus x).cls = (e.duty d).cls ∧
        (((e.bus x).boundDuty = none ∧ n = 1440) ∨
          ∃ f, (e.bus x).boundDuty = some f ∧ (e.duty f).state = .bound ∧ (e.duty f).pin = none ∧ e.plannedS d < e.plannedS f ∧
            n = e.plannedS f)
    let chosen (x d l : Nat) : Prop :=
      ∃ n, candidate x d l n ∧ ∀ y m k, candidate y d m k → m ≠ l → n < k ∨ (n = k ∧ l < m)
    (let watches := e.mode = .run ∨ e.mode = .shadow
    let other (p : Pass) : Prop :=
      (p = .rerun ∧ e.rerunDue = true ∧ e.changePending = false ∧ e.holdList ≠ [] ∧ e.laneMap.directions.length < 8) ∨
        (p = .fuel ∧ e.fuelDue = true ∧ e.changePending = false ∧ watches ∧ e.fuel.queue ≠ []) ∨
        (p = .wash ∧ e.washDue = true ∧ e.changePending = false ∧ watches ∧ e.wash.queue ≠ [])
    ∀ p, p ∈ e.readyPasses ↔ other p ∨
      (p = .pull ∧ e.pullDue = true ∧ watches ∧ e.clock.valid = true ∧ e.scheduleWindow = false ∧ (e.entered = true ∨ ∀ q, ¬ other q))) ∧
    (∀ n, let k := e.drain.takePending.deriveWaiver
      (k.outs ≠ [] → e.settleFor (n + 1) = k.settleFor n) ∧
      (k.outs = [] → k.readyPasses = [] → e.settleFor (n + 1) = k) ∧
      (k.outs = [] → k.readyPasses ≠ [] → ∃ p ∈ k.readyPasses, ∃ c : Nat,
        e.settleFor (n + 1) = (({ k with choice := c } : Ev).runPass p).settleFor n)) ∧
    e.runPass .rerun = e.rerun ∧ e.runPass .fuel = e.fuelPass ∧ e.runPass .wash = e.washPass ∧ e.runPass .pull = e.pullPass ∧
    e.rerun = ({ e with rerunDue := false } : Ev).rerunOver e.holdList ∧ e.rerunOver [] = e ∧
    (∀ b bs,
      (8 ≤ e.laneMap.directions.length → e.rerunOver (b :: bs) = e) ∧
      (e.laneMap.directions.length < 8 → b ∈ e.heldBack ∨ b ∉ e.holdList → e.rerunOver (b :: bs) = e.rerunOver bs) ∧
      (e.laneMap.directions.length < 8 → b ∉ e.heldBack → b ∈ e.holdList →
        e.rerunOver (b :: bs) = ((e.attempt b).drain).rerunOver bs)) ∧
    e.pullPass = (((List.range 256).foldl Ev.testDuty { e with pullDue := false }).drain).dueStep ∧
    (∃ ds : List Nat, e.dueStep = ds.foldl (fun k d => (k.takeDue d).drain) e ∧
      (∀ d, d ∈ ds ↔ d < 256 ∧ waits d ∧ e.plannedS d - e.params.callLead ≤ e.nowS) ∧
      ds.Pairwise fun d f => e.plannedS d < e.plannedS f ∨ (e.plannedS d = e.plannedS f ∧ d < f)) ∧
    (∀ d, d < 256 →
      let missed := e.plannedS d + e.params.abandon < e.nowS
      let late := e.plannedS d + e.params.grace < e.nowS ∧ (e.duty d).late = false
      (¬ waits d ∨ (¬ missed ∧ ¬ late) → e.testDuty d = e) ∧
      (waits d → ¬ missed → late →
        (e.testDuty d).duty d = { e.duty d with late := true } ∧
        (e.testDuty d).Told { e.note .dutyLate with duty := some d, value := noteValue (e.plannedS d) } ∧
        e.toState.OnlyChanged (e.testDuty d).toState ([.duty d] ++ Part.notice)) ∧
      (waits d → missed → ∃ k : Ev,
        ((e.duty d).bus = none → k = e) ∧ (∀ b, (e.duty d).bus = some b → k = e.unbind b) ∧
        (e.testDuty d).duty d = { k.duty d with state := .missed } ∧
        (e.testDuty d).counter .dutiesMissed = k.counter .dutiesMissed + 1 ∧
        (e.testDuty d).Told { e.note .dutyMissed with duty := some d, bus := (e.duty d).bus } ∧
        k.toState.OnlyChanged (e.testDuty d).toState ([.duty d, .counter .dutiesMissed] ++ Part.notice))) ∧
    (∀ d l, d < 256 → l < 32 →
      let m := e.releaseDuty d l
      m.release l = some { duty := some d, phase := .calling, ticket := e.serial } ∧
      m.duty d = { e.duty d with state := .called, releaseLane := some l } ∧ l ∈ m.releasedHere ∧
      m.Aspect (e.lane l).head .aspectSet (.release l e.serial) ∧
      e.toState.OnlyChanged m.toState ([.release l, .duty d] ++ Part.request (e.lane l).head.node)) ∧
    (∀ d, d < 256 →
      (¬ waits d → e.takeDue d = e) ∧
      (∀ b l, waits d → (e.duty d).bus = some b → goes b d l →
        (free l → e.changePending = false → e.takeDue d = e.releaseDuty d l) ∧
        (¬ free l ∨ e.changePending = true → e.takeDue d = e)) ∧
      (waits d → (∀ b l, (e.duty d).bus = some b → ¬ goes b d l) →
        let blocks := (e.duty d).pin ≠ none ∨ ∀ x l, ¬ chosen x d l
        (blocks → (e.duty d).blocked = true → e.takeDue d = e) ∧
        (blocks → (e.duty d).blocked = false →
          (e.takeDue d).duty d = { e.duty d with blocked := true } ∧
          (e.takeDue d).Told { e.note .dutyBlocked with duty := some d, bus := (e.duty d).bus } ∧
          e.toState.OnlyChanged (e.takeDue d).toState ([.duty d] ++ Part.notice)) ∧
        ∀ x l, e.PullOutSound → e.scheduleWindow = false → (e.duty d).pin = none → chosen x d l → ∃ k : Ev,
          (e.changePending = true → e.takeDue d = k) ∧ (e.changePending = false → e.takeDue d = k.releaseDuty d l) ∧
          k.duty d = { e.duty d with bus := some x, state := .bound } ∧ k.bus x = { e.bus x with boundDuty := some d } ∧
          (∀ b f, (e.duty d).bus = some b → (e.bus x).boundDuty = some f →
            k.duty f = { e.duty f with bus := some b } ∧ k.bus b = { e.bus b with boundDuty := some f }) ∧
          (∀ b, (e.duty d).bus = some b → (e.bus x).boundDuty = none → k.bus b = { e.bus b with boundDuty := none }) ∧
          (∀ f, (e.duty d).bus = none → (e.bus x).boundDuty = some f → k.duty f = { e.duty f with bus := none, state := .vacant }) ∧
          k.counter .exchanges = e.counter .exchanges + 1 ∧
          k.Told { e.note .exchange with
            duty := some d, bus := some x, value := noteValue (((e.bus x).boundDuty.map fun f => (e.duty f).code).getD 0) } ∧
          e.toState.OnlyChanged k.toState
            ([.duty d, .bus x, .counter .exchanges] ++ (e.duty d).bus.toList.map Part.bus ++ (e.bus x).boundDuty.toList.map Part.duty ++
              Part.notice))) ∧
    (let reserved (b : Nat) : Prop := ∃ f, (e.duty f).valid = true ∧ (e.duty f).state = .vacant ∧ (e.duty f).pin = some b
    let stands (b c l i : Nat) : Prop :=
      l < 32 ∧ (e.lane l).contents[i]? = some (.bus b) ∧ (e.bus b).boundDuty = none ∧ (e.bus b).cls = c ∧ ¬ reserved b
    e.rebind = (((e.rebindClass 0).rebindClass 1).rebindClass 2).rebindClass 3 ∧
    (∀ c, ∃ ds : List Nat, e.rebindClass c = ds.foldl Ev.rebindOne e ∧
      (∀ d, d ∈ ds ↔ d < 256 ∧ (e.duty d).valid = true ∧ (e.duty d).state = .vacant ∧ (e.duty d).cls = c) ∧
      ds.Pairwise fun d f => e.plannedS d < e.plannedS f ∨ (e.plannedS d = e.plannedS f ∧ d < f)) ∧
    (∀ d b, (e.duty d).pin = some b →
      ((e.bus b).valid = true → (e.bus b).boundDuty = none → e.rebindOne d = e.bind b d) ∧
      ((e.bus b).valid = false ∨ (e.bus b).boundDuty ≠ none → e.rebindOne d = e)) ∧
    (∀ d, (e.duty d).pin = none →
      (∀ b l i, stands b (e.duty d).cls l i → (∀ y m j, stands y (e.duty d).cls m j → i < j ∨ (i = j ∧ l ≤ m)) →
        e.rebindOne d = e.bind b d) ∧
      ((∀ b l i, ¬ stands b (e.duty d).cls l i) → e.rebindOne d = e)) ∧
    ∀ b d, b < 256 → d < 256 →
      (e.scheduleWindow = true → e.bind b d = e) ∧
      (e.scheduleWindow = false → (e.bind b d).bus b = { e.bus b with boundDuty := some d } ∧
        (e.bind b d).duty d = { e.duty d with bus := some b, state := .bound } ∧
        e.toState.OnlyChanged (e.bind b d).toState [.bus b, .duty d]))

/-- A notice joins the queue by the overflow rule (R192), and what is lost is counted and shown. -/
def Obligations.NoticesOverflowByClass : Prop :=
  ∀ (e : Ev) (n : Notice),
    (e.notices.queue.length < 48 → (e.send n).notices.queue = e.notices.queue ++ [n] ∧
      e.toState.OnlyChanged (e.send n).toState [.notices]) ∧
    (48 ≤ e.notices.queue.length →
      (e.send n).notices.dropped = true ∧ (e.send n).counter .noticesDropped = e.counter .noticesDropped + 1 ∧
      e.toState.OnlyChanged (e.send n).toState Part.notice ∧
      (n.kind.routine = true → (e.send n).notices.queue = e.notices.queue) ∧
      (n.kind.routine = false → (∀ m ∈ e.notices.queue, m.kind.routine = false) → (e.send n).notices.queue = e.notices.queue) ∧
      (∀ before m after, n.kind.routine = false → e.notices.queue = before ++ m :: after → m.kind.routine = true →
        (∀ x ∈ before, x.kind.routine = false) → (e.send n).notices.queue = before ++ after ++ [n]))

/-- A request is taken by the mode (R167, R181): in CONFIGURE, and below priority 3 while a change is pending, it fails at once and nothing else changes;
in SHADOW it is completed in the event, as failed at a node that cannot be reached and as done otherwise, and no entry joins the queue. In RUN and DOZE
it changes no SENT entry and keeps the queue within 24; at a full queue a command that is no aspect fails below priority 3, and aspects merge (R168,
R169): no entry that waits for the other aspect at the node holds an output asked for. A request that is not refused is taken: after its outputs are taken out of
the entries that wait for the other aspect, an aspect joins the first entry that waits for the same aspect at the node (log 41), and any other request stands at
the tail with no attempts. At a full queue priority 3 evicts the newest waiting entry of priority 0, and otherwise the request fails. Entries that then wait for
a node that cannot be reached fail at once (R170). -/
def Obligations.RequestsAreTaken : Prop :=
  ∀ (e : Ev) (destination : Nat) (kind : CommandKind) (c : Contribution),
    let after := e.request destination kind c
    let decided (r : Result3) : Decided := { contribution := c, kind := kind, destination := destination, result := r }
    let refused := e.mode = .configure ∨ (e.changePending = true ∧ c.purpose.priority < 3)
    (refused → after = { e with outs := e.outs ++ [decided .failed] }) ∧
    (¬ refused → e.mode = .shadow → after.commands = e.commands ∧
      after.outs = e.outs ++ [decided (if destination < 64 ∧ (e.cutOff destination = true ∨ (e.node destination).valid = false) then .failed
        else .done)]) ∧
    (e.mode = .run ∨ e.mode = .doze →
      (∀ x ∈ e.commands.queue, x.waiting = false → x.contributions ≠ [] → x ∈ after.commands.queue) ∧
      (e.commands.queue.length ≤ 24 → after.commands.queue.length ≤ 24) ∧
      (kind ≠ .aspectSet → kind ≠ .aspectClear → 24 ≤ e.commands.queue.length → c.purpose.priority < 3 → decided .failed ∈ after.outs) ∧
      ∀ x ∈ after.commands.queue, ¬ refused → x.waiting = true → x.destination = destination →
        (kind = .aspectSet → x.kind = .aspectClear → x.mask &&& c.outputs = 0) ∧
        (kind = .aspectClear → x.kind = .aspectSet → x.mask &&& c.outputs = 0)) ∧
    (¬ refused → e.mode = .run ∨ e.mode = .doze →
      let aspect := kind = .aspectSet ∨ kind = .aspectClear
      let opposed (x : CommandEntry) : Bool := x.waiting && x.destination == destination &&
        ((kind == .aspectSet && x.kind == .aspectClear) || (kind == .aspectClear && x.kind == .aspectSet))
      let left (k : Contribution) : Word16 := k.outputs &&& ~~~c.outputs
      let lowered (x : CommandEntry) : CommandEntry :=
        { x with contributions := (x.contributions.map fun k => { k with outputs := left k }).filter fun k => k.outputs != 0 }
      let queue : List CommandEntry :=
        if kind = .aspectSet ∨ kind = .aspectClear then
          (e.commands.queue.map fun x => if opposed x then lowered x else x).filter fun x => !x.contributions.isEmpty
        else e.commands.queue
      let same (x : CommandEntry) : Prop := aspect ∧ x.waiting = true ∧ x.kind = kind ∧ x.destination = destination
      let new : CommandEntry :=
        { id := e.serial, kind := kind, destination := destination, contributions := [c], attempts := 0, state := .waiting }
      let unsent (x : CommandEntry) : Bool := x.waiting && decide (x.destination < 64) && !(e.node x.destination).mark &&
        (e.cutOff x.destination || !(e.node x.destination).valid)
      let becomes (q : List CommandEntry) : Prop := after.commands.queue = q.filter (fun x => !unsent x) ∧
        ∀ x ∈ q, unsent x = true → ∀ k ∈ x.contributions,
          { contribution := k, kind := x.kind, destination := x.destination, result := .failed } ∈ after.outs
      (∀ x ∈ e.commands.queue, opposed x = true → ∀ k ∈ x.contributions, left k = 0 →
        { contribution := k, kind := x.kind, destination := destination, result := .aborted } ∈ after.outs) ∧
      (∀ before x rest, queue = before ++ x :: rest → same x → (∀ y ∈ before, ¬ same y) →
        becomes (before ++ { x with contributions := x.contributions ++ [c] } :: rest)) ∧
      ((∀ x ∈ queue, ¬ same x) →
        (queue.length < 24 → becomes (queue ++ [new])) ∧
        (∀ before x rest, 24 ≤ queue.length → c.purpose.priority = 3 → queue = before ++ x :: rest → x.waiting = true → x.priority = 0 →
          (∀ y ∈ rest, y.waiting = true → y.priority ≠ 0) →
          becomes (before ++ rest ++ [new]) ∧
            ∀ k ∈ x.contributions, { contribution := k, kind := x.kind, destination := x.destination, result := .aborted } ∈ after.outs) ∧
        (24 ≤ queue.length → c.purpose.priority ≠ 3 ∨ (∀ x ∈ queue, x.waiting = true → x.priority ≠ 0) →
          becomes queue ∧ decided .failed ∈ after.outs)))

/-- The port arbiter (R170, R171): what it chooses waits behind no entry of its destination, goes to a group or to a node without outstanding mark that
can be reached, has the highest priority of all such, and is the earliest of them. -/
def Obligations.ArbiterTakesTheEarliestOfHighestPriority : Prop :=
  let sendable (s : State) (before : List CommandEntry) (y : CommandEntry) : Prop :=
    y.waiting = true ∧ (∀ z ∈ before, z.destination ≠ y.destination) ∧
      (y.destination < 64 → (s.node y.destination).mark = false ∧ s.cutOff y.destination = false ∧ (s.node y.destination).valid = true)
  ∀ (s : State),
    (∀ x, s.arbiter = some x → ∃ before after, s.commands.queue = before ++ x :: after ∧ sendable s before x ∧
      (∀ b y a, s.commands.queue = b ++ y :: a → sendable s b y →
        y.priority < x.priority ∨ (y.priority = x.priority ∧ before.length ≤ b.length))) ∧
    (s.arbiter = none → ∀ b y a, s.commands.queue = b ++ y :: a → ¬ sendable s b y)

/-- The check of R149: its value over the nine bytes 0x31 to 0x39, and every frame the part sends carries the check that a receiver computes. -/
def Obligations.FramesCarryTheirCheck : Prop :=
  crc [0x31, 0x32, 0x33, 0x34, 0x35, 0x36, 0x37, 0x38, 0x39] = 0x29B1 ∧
    ∀ (destination : Word16) (kind : Byte) (payload : List Byte), payload.length ≤ 48 →
      frameGood (sendFrame destination kind payload) = true ∧ (sendFrame destination kind payload).source = 0

/-- An outcome acts by its requester's own rule, and only while the record that asked stands (R30, R68, R74, R94, R97, R119, R121, R163), and each failed
one is counted (R173). A lost direction goes back to the hold list, a lost call to its queue, a lost grant is released, a lost wash go aborts the cycle, a lost
proceed ends the release, and a stop ends its record. That a record knows its request by a ticket is the model's choice (log 5), and so are the value of the
reason NO COMMAND (log 8) and who is passed over after a lost wash call (log 19). -/
def Obligations.OutcomesReachTheirRequesters : Prop :=
  ∀ (e : Ev) (x : Decided),
    let m := e.deliver x
    let c := x.contribution.purpose
    let lost := x.result = .failed ∨ x.result = .aborted
    let counted : Ev := if x.result = .failed then e.count .commandFailures else e
    m.counter .commandFailures = counted.counter .commandFailures ∧
    (∀ t, c = .direction t →
      (x.result = .done ∨ (∀ d ∈ e.laneMap.directions, d.ticket ≠ t) → m = counted) ∧
      ∀ before d after, lost → e.laneMap.directions = before ++ d :: after → (∀ y ∈ before, y.ticket ≠ t) → d.ticket = t → d.bus < 256 →
        m.laneMap.directions = before ++ after ∧ m.holdList = e.holdList ++ [d.bus] ∧ d.bus ∈ m.heldBack ∧
        m.bus d.bus = { e.bus d.bus with place := .hold, lastSeen := e.now } ∧
        ((∀ y ∈ before ++ after, y.lane ≠ d.lane) → m.Aspect (e.lane d.lane).entrySignal .aspectClear .laneClear) ∧
        (e.laneMap.directions.length = 8 → m.rerunDue = true) ∧
        e.toState.OnlyChanged m.toState
          ([.directions, .holdList, .bus d.bus, .counter .commandFailures] ++ Part.request (e.lane d.lane).entrySignal.node)) ∧
    (∀ d t, c = .bayCall d t → d < 6 →
      let r := e.dispenser d
      let stands := r.state = .calling ∧ r.callTicket = t
      (x.result = .done ∨ ¬ stands → m = counted) ∧
      ∀ o, lost → stands → r.occupant = some o → ∃ k : Ev,
        m = (k.joinFuel
          { bus := o.bus, priority := o.priority, enqueuedAt := o.enqueuedAt, misses := o.misses, turnsLeft := 0, deadline := none,
            front := false }).send { e.note .dispenserClosed with dispenser := some d } ∧
        k.dispenser d =
          { r with
            state := .closed (if r.closeAtEnd = true then .office else .fault), closeAtEnd := false, since := e.now, occupant := none } ∧
        e.toState.OnlyChanged k.toState [.dispenser d, .counter .commandFailures]) ∧
    (∀ d t, c = .grant d t → d < 6 →
      let r := e.dispenser d
      (r.grant = none ∨ r.grantTicket ≠ t → m = counted) ∧
      (x.result = .done → r.grant ≠ none → r.grantTicket = t →
        m.dispenser d = { r with state := .fuelling, since := e.now } ∧ e.toState.OnlyChanged m.toState [.dispenser d]) ∧
      ∀ g, lost → r.grant = some g → r.grantTicket = t → ∃ k : Ev,
        (r.occupant = none → m = k) ∧
        (∀ o, r.occupant = some o → m = k.joinFuel
          { bus := o.bus, priority := o.priority, enqueuedAt := o.enqueuedAt, misses := o.misses, turnsLeft := 0, deadline := none,
            front := true }) ∧
        k.dispenser d =
          { r with
            state := .closed (if r.closeAtEnd = true then .office else .fault), closeAtEnd := false, since := e.now, occupant := none,
            grant := none } ∧
        k.fuel.committed = e.fuel.committed - g ∧ k.Told { e.note .dispenserClosed with dispenser := some d } ∧
        e.toState.OnlyChanged k.toState ([.dispenser d, .committed, .belowReserve, .counter .commandFailures] ++ Part.notice)) ∧
    (∀ w t, c = .washCall w t → w < 2 →
      let r := e.washLane w
      let stands := r.state = .calling ∧ r.callTicket = t
      (x.result = .done ∨ ¬ stands → m = counted) ∧
      ∀ y, lost → stands → r.occupant = some y → ∃ k : Ev,
        m = { k.returnWash y true false with
          washBack := y.bus :: (k.returnWash y true false).washBack
          washLanesBack := w :: (k.returnWash y true false).washLanesBack } ∧
        k.washLane w =
          { r with
            occupant := none, programme := none, closeAtEnd := false, state := if r.closeAtEnd = true then .closed else .ready,
            since := e.now } ∧
        k.washDue = e.washDue ∧ e.toState.OnlyChanged k.toState [.washLane w, .counter .commandFailures]) ∧
    (∀ w t, c = .washGo w t → w < 2 →
      let r := e.washLane w
      let stands := r.state = .washing ∧ r.goTicket = t
      let score := min 255 (r.score + 8)
      (x.result = .done ∨ ¬ stands → m = counted) ∧
      (lost → stands → ∃ k : Ev,
        (r.occupant = none → m = k) ∧
        (∀ y, r.occupant = some y →
          (y.retried = true → m = k.washSkip y.bus .retryFailed) ∧
          (y.retried = false → m = k.returnWash { y with retried := true } true true)) ∧
        k.washLane w =
          { r with
            score := score, pacing := 8, occupant := none, programme := none, deadline := none, closeAtEnd := false,
            state := if r.closeAtEnd = true then .closed else .faulted, since := e.now } ∧
        k.counter .washAborted = e.counter .washAborted + 1 ∧
        k.Told { e.note .washAborted with
          washLane := some w, bus := r.occupant.map (fun y => y.bus), value := some AbortReason.noCommand.value } ∧
        e.toState.OnlyChanged k.toState ([.washLane w, .counter .washAborted, .counter .commandFailures] ++ Part.notice))) ∧
    (∀ l t, c = .release l t → l < 32 →
      ((∀ d, e.release l ≠ some { duty := some d, phase := .calling, ticket := t }) → m = counted) ∧
      ∀ d, d < 256 → e.release l = some { duty := some d, phase := .calling, ticket := t } →
        (x.result = .done → m.release l = some { duty := some d, phase := .showing e.now, ticket := t } ∧
          m.duty d = { e.duty d with state := .released } ∧
          m.Told { e.note .released with duty := some d, bus := (e.duty d).bus, lane := some l } ∧
          e.toState.OnlyChanged m.toState ([.release l, .duty d] ++ Part.notice)) ∧
        (lost → m.release l = none ∧ m.duty d = { e.duty d with state := .bound, releaseLane := none } ∧
          m.pullDue = (e.pullDue || !e.releasedHere.contains l) ∧
          e.toState.OnlyChanged m.toState [.release l, .duty d, .counter .commandFailures])) ∧
    (∀ l t, c = .releaseStop l t → l < 32 →
      ((∀ r, e.release l = some r → r.phase ≠ .stopping ∨ r.ticket ≠ t) → m = counted) ∧
      ∀ r, e.release l = some r → r.phase = .stopping → r.ticket = t →
        m.release l = none ∧ m.pullDue = true ∧ (x.result = .done → e.toState.OnlyChanged m.toState [.release l]) ∧
        (lost → m.Told { e.note .headStopFailed with lane := some l } ∧
          e.toState.OnlyChanged m.toState ([.release l, .counter .commandFailures] ++ Part.notice))) ∧
    (c = .forward → m = counted.send
      { e.note .forwardOutcome with
        node := if x.destination < 64 then some x.destination else none
        value := noteValue (x.result.code * 256 + x.kind.code.toNat) }) ∧
    (c = .laneClear ∨ c = .bayClear ∨ c = .refuse ∨ c = .washClear ∨ c = .quiet ∨ c = .allStop → m = counted)

/-! ### Time and the timeouts -/

/-- YARD_SECOND and MINUTE_TICK (R200): the yard second advances, and the clock with it while it is valid. From second 59 on the two commands are one,
which is the model's reading (log 10): the minute tick, with day-start processing at the day start (R17, R115) and the pull-out pass triggered
(R116). -/
def Obligations.TimeAdvances : Prop :=
  ∀ s : State,
    let passed : Clock := { s.clock with yardSecond := (s.clock.yardSecond + 1) % 4294967296 }
    let minute := (s.clock.minute + 1) % 1440
    (s.clock.valid = false → exec .yardSecond s = .next ({ s with clock := passed } : State).begin.settle.toState) ∧
    (s.clock.valid = true → s.clock.second < 59 →
      exec .yardSecond s = .next ({ s with clock := { passed with second := s.clock.second + 1 } } : State).begin.settle.toState) ∧
    (s.clock.valid = true → 59 ≤ s.clock.second →
      exec .yardSecond s = exec .minuteTick s ∧
      ∃ e : Ev, exec .minuteTick s = .next e.settle.toState ∧ e.outs = [] ∧ e.pullDue = true ∧
        e.clock = { passed with minute := minute, second := 0 } ∧
        (minute ≠ s.params.dayStart → s.OnlyChanged e.toState [.clock]) ∧
        (minute = s.params.dayStart →
          (∀ b, b < 256 → e.bus b =
            if (s.bus b).valid = true then { s.bus b with nights := min 15 ((s.bus b).nights + 1) } else s.bus b) ∧
          (∀ d, d < 256 → e.duty d =
            if (s.duty d).valid = true ∧
                ((s.duty d).state = .departed ∨ (s.duty d).state = .missed ∨ (s.duty d).state = .cancelled) then
              { s.duty d with state := .vacant, late := false, blocked := false, unreleased := false, departedAs := none }
            else s.duty d) ∧
          s.OnlyChanged e.toState ([.clock] ++ Part.everyBus ++ Part.everyDuty)))

/-- LEAVING_TIMEOUT (R16): the bus goes OUT, and its LEAVING duty departs unconfirmed, but a timer that ran out in CONFIGURE is not taken in a DOZE entered from
there (how the model holds it: logs 2, 31). DIRECTION_EXPIRY (R32): the direction leaves the list, the
bus is LOST and counted. RELEASE_TIMEOUT (R122): the record goes to STOPPING and ceases to name the duty, which is BOUND again, and stop is asked
for at the head. -/
def Obligations.YardTimeoutsRunOut : Prop :=
  ∀ s : State,
    (∀ b, b < 256 → s.mode ≠ .configure → (s.bus b).valid = true → (s.bus b).place = .leaving →
      s.params.leavingTimeout < s.now - (s.bus b).lastSeen → Timer.leaving b (s.bus b).lastSeen ∉ s.office.overdue →
      ∃ e : Ev, exec (.leavingTimeout b) s = .next e.settle.toState ∧
        e.bus b = { s.bus b with place := .out, lastSeen := s.now, boundDuty := none } ∧
        ((s.bus b).boundDuty = none → s.OnlyChanged e.toState [.bus b]) ∧
        ∀ d, d < 256 → (s.bus b).boundDuty = some d → (s.duty d).state = .leaving →
          let how : DepartedAs := if (s.duty d).unreleased = true then .unreleased else .unconfirmed
          e.duty d = { s.duty d with state := .departed, bus := none, releaseLane := none, departedAs := some how } ∧
          e.counter how.counter = s.counter how.counter + 1 ∧
          e.Told { s.note .departed with duty := some d, bus := (s.duty d).bus, value := noteValue how.code } ∧
          s.OnlyChanged e.toState ([.bus b, .duty d, .counter how.counter] ++ Part.notice)) ∧
    (∀ b, Timer.leaving b (s.bus b).lastSeen ∈ s.office.overdue → exec (.leavingTimeout b) s = .next s) ∧
    (∀ d before after, s.laneMap.directions = before ++ d :: after → (∀ x ∈ before, x.bus ≠ d.bus) → d.bus < 256 →
      d.issuedAt + s.params.directionTimeout ≤ s.now →
      ∃ e : Ev, exec (.directionExpiry d.bus) s = .next e.settle.toState ∧ e.laneMap.directions = before ++ after ∧
        e.bus d.bus = { s.bus d.bus with place := .lost, lastSeen := s.now } ∧ e.counter .lostBuses = s.counter .lostBuses + 1 ∧
        e.Told { s.note .directionExpired with bus := some d.bus, lane := some d.lane } ∧
        ((∀ x ∈ before ++ after, x.lane ≠ d.lane) → e.Aspect (s.lane d.lane).entrySignal .aspectClear .laneClear) ∧
        s.OnlyChanged e.toState ([.directions, .bus d.bus, .counter .lostBuses] ++ Part.request (s.lane d.lane).entrySignal.node)) ∧
    ∀ l d t k, l < 32 → d < 256 → s.mode = .run ∨ s.mode = .shadow → s.release l = some { duty := some d, phase := .showing t, ticket := k } →
      t + s.params.releaseTimeout ≤ s.now →
      ∃ e : Ev, exec (.releaseTimeout l) s = .next e.settle.toState ∧
        e.release l = some { duty := none, phase := .stopping, ticket := s.serial } ∧
        e.duty d = { s.duty d with state := .bound, releaseLane := none } ∧ e.counter .releaseNoShows = s.counter .releaseNoShows + 1 ∧
        e.Told { s.note .releaseNoShow with duty := some d, bus := (s.duty d).bus, lane := some l } ∧
        e.Aspect (s.lane l).head .aspectClear (.releaseStop l s.serial) ∧
        s.OnlyChanged e.toState ([.release l, .duty d, .counter .releaseNoShows] ++ Part.request (s.lane l).head.node)

/-- CALL_TIMEOUT (R70): the dispenser goes FREE and its signal is cleared; the bus is deferred for 1, 2 or 4 turns and as many minutes, and at its
fourth miss gives its turn up and goes on to the wash test. DEFERRAL_END (R70): the entry is deferred no more. DOCKING_TIMEOUT (R75): the bus goes on
to the wash test without fuel, and the dispenser clears; a dispenser without an occupant clears alone; a timeout that ran out in CONFIGURE is not taken in a DOZE entered from there (R85; how the model holds it:
logs 2, 31). -/
def Obligations.FuelTimeoutsRunOut : Prop :=
  ∀ s : State, s.mode ≠ .configure →
    (∀ d o, d < 6 → o.bus < 256 → (s.dispenser d).state = .calling → (s.dispenser d).occupant = some o →
      (s.dispenser d).since + s.params.callTimeout ≤ s.now →
      let turns := if o.misses = 0 then 1 else if o.misses = 1 then 2 else 4
      ∃ m : Ev, m.dispenser d = { s.dispenser d with state := .free, since := s.now, occupant := none } ∧ m.fuelDue = true ∧
        m.Aspect (s.dispenser d).baySignal .aspectClear .bayClear ∧
        s.OnlyChanged m.toState ([.dispenser d] ++ Part.request (s.dispenser d).baySignal.node) ∧
        (o.misses < 3 → exec (.callTimeout d) s = .next (m.joinFuel
          { bus := o.bus, priority := o.priority, enqueuedAt := o.enqueuedAt, misses := o.misses + 1, turnsLeft := turns,
            deadline := some (s.now + turns * 60), front := false }).settle.toState) ∧
        (3 ≤ o.misses → ∃ k : Ev, exec (.callTimeout d) s = .next (k.washTest o.bus).settle.toState ∧
          k.bus o.bus = { s.bus o.bus with fuelMissed := true } ∧ k.counter .fuelAbandoned = s.counter .fuelAbandoned + 1 ∧
          k.Told { s.note .fuelAbandoned with bus := some o.bus, dispenser := some d } ∧
          m.toState.OnlyChanged k.toState ([.bus o.bus, .counter .fuelAbandoned] ++ Part.notice))) ∧
    (∀ x t, x ∈ s.fuel.queue → x.deadline = some t → t ≤ s.now →
      exec (.deferralEnd x.bus) s = .next
        ({ s with fuel.queue := s.fuel.queue.map fun y => if y.bus = x.bus then { y with turnsLeft := 0, deadline := none } else y } :
          State).begin.triggerFuel.settle.toState) ∧
    (∀ d, Timer.docking d (s.dispenser d).since ∈ s.office.overdue → exec (.dockingTimeout d) s = .next s) ∧
    (∀ d, d < 6 → (s.dispenser d).state = .docked → (s.dispenser d).grant = none → (s.dispenser d).occupant = none →
      (s.dispenser d).since + s.params.dockingTimeout ≤ s.now → Timer.docking d (s.dispenser d).since ∉ s.office.overdue →
      exec (.dockingTimeout d) s = .next (s.begin.enterClearing d).settle.toState) ∧
    ∀ d o, d < 6 → o.bus < 256 → (s.dispenser d).state = .docked → (s.dispenser d).grant = none → (s.dispenser d).occupant = some o →
      (s.dispenser d).since + s.params.dockingTimeout ≤ s.now → Timer.docking d (s.dispenser d).since ∉ s.office.overdue →
      ∃ m : Ev, exec (.dockingTimeout d) s = .next ((m.washTest o.bus).enterClearing d).settle.toState ∧
        m.bus o.bus = { s.bus o.bus with fuelMissed := true } ∧ m.dispenser d = { s.dispenser d with occupant := none } ∧
        m.counter .fuelAbandoned = s.counter .fuelAbandoned + 1 ∧
        m.Told { s.note .noNozzleRequest with bus := some o.bus, dispenser := some d } ∧
        s.OnlyChanged m.toState ([.bus o.bus, .dispenser d, .counter .fuelAbandoned] ++ Part.notice)

/-! ### The wash scheduler -/

/-- A bus that returns to the wash queue (R89, R94, R95, R99, R103) joins at the head or the tail, or is skipped: as waived when its class is, and for a
full queue otherwise (that a waived class is told first is the model's choice, log 12). A skip flags and counts the bus, sends its notice and hands it
on to the lane test. -/
def Obligations.WashReturnsAndSkips : Prop :=
  ∀ (e : Ev) (x : WashEntry) (head trigger : Bool), x.bus < 256 →
    (e.waived (e.bus x.bus).cls = true → e.returnWash x head trigger = e.washSkip x.bus .waived) ∧
    (e.waived (e.bus x.bus).cls = false → 24 ≤ e.wash.queue.length → e.returnWash x head trigger = e.washSkip x.bus .queueFull) ∧
    (e.waived (e.bus x.bus).cls = false → e.wash.queue.length < 24 →
      (e.returnWash x head trigger).wash.queue = (if head = true then x :: e.wash.queue else e.wash.queue ++ [x]) ∧
      (e.returnWash x head trigger).bus x.bus = { e.bus x.bus with place := .washWait, lastSeen := e.now } ∧
      (e.returnWash x head trigger).washDue = (e.washDue || trigger) ∧
      e.toState.OnlyChanged (e.returnWash x head trigger).toState [.washQueue, .bus x.bus]) ∧
    ∀ b r, b < 256 → ∃ m : Ev, e.washSkip b r = m.attempt b ∧ m.bus b = { e.bus b with washSkipped := true } ∧
      m.counter .washSkipped = e.counter .washSkipped + 1 ∧ m.Told { e.note .washSkipped with bus := some b, value := noteValue r.code } ∧
      e.toState.OnlyChanged m.toState ([.bus b, .counter .washSkipped] ++ Part.notice)

/-- WASH_CALL_TIMEOUT (R95): the lane goes READY (or CLOSED, R104) and its signal is cleared; the bus returns to the tail of the queue, or after a
second miss is skipped. -/
def Obligations.WashCallsTimeOut : Prop :=
  ∀ (s : State) (w : Nat) (x : WashEntry), w < 2 → s.mode ≠ .configure → (s.washLane w).state = .calling → (s.washLane w).occupant = some x →
    (s.washLane w).since + s.params.callTimeout ≤ s.now →
    let closes := (s.washLane w).closeAtEnd = true
    ∃ m : Ev,
      m.washLane w =
        { s.washLane w with
          occupant := none, programme := none, closeAtEnd := false, state := if closes then .closed else .ready, since := s.now } ∧
      (¬ closes → m.washDue = true) ∧ m.Aspect (s.washLane w).entrySignal .aspectClear .washClear ∧
      s.OnlyChanged m.toState ([.washLane w] ++ Part.request (s.washLane w).entrySignal.node) ∧
      (x.missedOnce = true → exec (.washCallTimeout w) s = .next (m.washSkip x.bus .missedTwice).settle.toState) ∧
      (x.missedOnce = false → exec (.washCallTimeout w) s = .next
        ((m.returnWash { x with missedOnce := true } false true).send
          { s.note .washCallMissed with bus := some x.bus, washLane := some w }).settle.toState)

/-- CYCLE_DEADLINE and WASH_EVENT_ABORTED (R99): the fault score up by 8, pacing 8, the lane FAULTED (or CLOSED, R104) and empty, the abort counted and told;
the bus goes back to the head of the queue for its retry, or after a failed retry is skipped. A deadline that passed in CONFIGURE is not taken in a DOZE
entered from there (R106; how the model holds it: logs 2, 31). The number of the reason TIMEOUT in the notice is a free value of the model (log 8). -/
def Obligations.WashAbortsRetryOnce : Prop :=
  (∀ (s : State) (w t : Nat), (s.washLane w).deadline = some t → Timer.cycle w t ∈ s.office.overdue →
    exec (.cycleDeadline w) s = .next s) ∧
  ∀ (s : State) (w : Nat) (c : Instr) (reason : AbortReason), w < 2 → s.mode ≠ .configure → (s.washLane w).state = .washing →
    (c = .cycleDeadline w ∧ reason = .timeout ∧ (∃ t, (s.washLane w).deadline = some t ∧ t ≤ s.now ∧ Timer.cycle w t ∉ s.office.overdue)) ∨
      (c = .washEventAborted ∧ ∃ x r, s.HeadIs x (.washEvent 3 r) ∧ x.roleIndex = w ∧ reason = .controller r) →
    let closes := (s.washLane w).closeAtEnd = true
    let score := min 255 ((s.washLane w).score + 8)
    ∃ m : Ev,
      m.washLane w =
        { s.washLane w with
          score := score, pacing := 8, occupant := none, programme := none, deadline := none, closeAtEnd := false,
          state := if closes then .closed else .faulted, since := s.now } ∧
      m.counter .washAborted = s.counter .washAborted + 1 ∧
      m.Told { s.note .washAborted with
        washLane := some w, bus := (s.washLane w).occupant.map (fun x => x.bus), value := some reason.value } ∧
      (gradeOf score ≠ (s.washLane w).grade →
        m.Told { s.note .washGrade with washLane := some w, value := noteValue (gradeOf score).code }) ∧
      s.OnlyChanged m.toState ([.washLane w, .counter .washAborted] ++ Part.notice ++ (if c = .washEventAborted then [.inbox] else [])) ∧
      ((s.washLane w).occupant = none → exec c s = .next m.settle.toState) ∧
      ∀ x, (s.washLane w).occupant = some x →
        (x.retried = true → exec c s = .next (m.washSkip x.bus .retryFailed).settle.toState) ∧
        (x.retried = false → exec c s = .next (m.returnWash { x with retried := true } true true).settle.toState)

/-- WASH_EVENT_ENTERED in CALLING (R96): the lane is WASHING with the deadline of its programme and the wash margin, its signal is cleared and the wash
asked for; while a mode change is pending the bus is skipped and the lane clears. WASH_EVENT_DONE in WASHING (R98): the bus's nights and wash-now
cleared, the wash counted, score and pacing down by 1, the bus handed on to the lane test, and the lane clears; where the bus was taken out (R102) the same but
for the bus: none changes and none is handed on. -/
def Obligations.WashCyclesRun : Prop :=
  (∀ (s : State) (w : Nat) (h : InboxEntry) (r : Nat), w < 2 → s.mode ≠ .configure → h.roleIndex = w → s.HeadIs h (.washEvent 2 r) →
    let lane := s.washLane w
    lane.state = .washing → lane.occupant = none →
      ∃ m : Ev, exec .washEventDone s = .next (m.enterClearingWash w lane.pacing).settle.toState ∧
        m.counter .washGood = s.counter .washGood + 1 ∧
        m.washLane w = { lane with programme := none, score := lane.score - 1, pacing := lane.pacing - 1 } ∧
        (gradeOf (lane.score - 1) ≠ lane.grade →
          m.Told { s.note .washGrade with washLane := some w, value := noteValue (gradeOf (lane.score - 1)).code }) ∧
        s.OnlyChanged m.toState ([.inbox, .washLane w, .counter .washGood] ++ Part.notice)) ∧
  ∀ (s : State) (w : Nat) (h : InboxEntry) (x : WashEntry) (r : Nat), w < 2 → x.bus < 256 → s.mode ≠ .configure →
    h.roleIndex = w → (s.washLane w).occupant = some x →
    let lane := s.washLane w
    (s.HeadIs h (.washEvent 1 r) → lane.state = .calling → s.changePending = false →
      let time := if lane.programme = some .short then lane.shortTime else lane.fullTime
      ∃ (e : Ev) (t : Nat), exec .washEventEntered s = .next e.settle.toState ∧
        e.washLane w = { lane with state := .washing, since := s.now, deadline := some (s.now + time + s.params.washMargin), goTicket := t } ∧
        e.Aspect lane.entrySignal .aspectClear .washClear ∧
        e.Placed lane.controller (.washGo (lane.programme.getD .full)) { purpose := .washGo w t, outputs := 0 } ∧
        s.OnlyChanged e.toState ([.inbox, .washLane w] ++ Part.request lane.entrySignal.node ++ Part.request lane.controller)) ∧
    (s.HeadIs h (.washEvent 1 r) → lane.state = .calling → s.changePending = true →
      ∃ m : Ev, exec .washEventEntered s = .next ((m.washSkip x.bus .restricted).enterClearingWash w lane.pacing).settle.toState ∧
        m.washLane w = { lane with occupant := none, programme := none } ∧ m.Aspect lane.entrySignal .aspectClear .washClear ∧
        s.OnlyChanged m.toState ([.inbox, .washLane w] ++ Part.request lane.entrySignal.node)) ∧
    (s.HeadIs h (.washEvent 2 r) → lane.state = .washing →
      ∃ m : Ev, exec .washEventDone s = .next ((m.attempt x.bus).enterClearingWash w lane.pacing).settle.toState ∧
        m.bus x.bus = { s.bus x.bus with nights := 0, washNow := false } ∧ m.counter .washGood = s.counter .washGood + 1 ∧
        m.washLane w = { lane with occupant := none, programme := none, score := lane.score - 1, pacing := lane.pacing - 1 } ∧
        (gradeOf (lane.score - 1) ≠ lane.grade →
          m.Told { s.note .washGrade with washLane := some w, value := noteValue (gradeOf (lane.score - 1)).code }) ∧
        s.OnlyChanged m.toState ([.inbox, .bus x.bus, .washLane w, .counter .washGood] ++ Part.notice))

/-- A wash lane clears (R98): for its clear base, or four times that while it is paced. END_OF_CLEARING takes it to READY, or to CLOSED (R104); one whose
second passed in CONFIGURE is not taken in a DOZE entered from there (R106; how the model holds it: logs 2, 31). WASH_EVENT_READY in FAULTED clears it, or is
only told when its grade is OUT (R100). Every other wash event is told and changes nothing (R101); that it is told for an invalid lane too is read from R90
and R101 (log 24). The calling pass (R93) takes the first entry for which a lane is callable, calls it to the lowest of them, and scans again; that the
outcomes a call decides are delivered before that is read from R173 (log 29), and whom a lost call of the event shuts out is log 19. The waiver of a class
(R103) is derived from the lanes in service and occupied: its start skips the class's buses and is told, and so is its end; the classes are taken in order
(log 38). -/
def Obligations.WashLanesClearCallAndWaive : Prop :=
  (∀ (e : Ev) (w p : Nat), w < 2 →
    (e.enterClearingWash w p).washLane w =
      { e.washLane w with
        state := .clearing, since := e.now
        deadline := some (e.now + (if 0 < p then 4 else 1) * (e.washLane w).clearBase) } ∧
    e.toState.OnlyChanged (e.enterClearingWash w p).toState [.washLane w]) ∧
  (∀ e : Ev,
    let callable (x : WashEntry) (w : Nat) : Prop :=
      let r := e.washLane w
      w < 2 ∧ x.bus ∉ e.washBack ∧ w ∉ e.washLanesBack ∧ r.valid = true ∧ r.state = .ready ∧ r.score < 64 ∧
        r.classMask.getLsbD (e.bus x.bus).cls = true ∧ e.cutOff r.controller = false ∧ e.cutOff r.entrySignal.node = false
    (e.nextWashCall e.wash.queue = none ↔ ∀ x ∈ e.wash.queue, ∀ w, ¬ callable x w) ∧
    (∀ x w, e.nextWashCall e.wash.queue = some (x, w) →
      callable x w ∧ (∀ v, v < w → ¬ callable x v) ∧
        ∃ before after, e.wash.queue = before ++ x :: after ∧ ∀ y ∈ before, ∀ v, ¬ callable y v) ∧
    (∀ x w, w < 2 → x.bus < 256 →
      let r := e.washLane w
      let out := ∃ d, d < 256 ∧ (e.duty d).valid = true ∧
        ((e.duty d).state = .called ∨ (e.duty d).state = .released ∨ (e.duty d).state = .leaving)
      let m := e.callWash x w
      ∃ p : Programme, (p = .short ↔ r.grade = .restricted ∨ out) ∧
        m.washLane w = { r with occupant := some x, programme := some p, callTicket := e.serial, state := .calling, since := e.now } ∧
        m.wash.queue = e.wash.queue.filter (fun y => y.bus != x.bus) ∧
        m.bus x.bus = { e.bus x.bus with place := .wash w, lastSeen := e.now } ∧
        m.Aspect r.entrySignal .aspectSet (.washCall w e.serial) ∧
        e.toState.OnlyChanged m.toState ([.washQueue, .washLane w, .bus x.bus] ++ Part.request r.entrySignal.node)) ∧
    e.washPass = Ev.washCalls 2 { e with washDue := false } ∧
    ∀ n, (e.nextWashCall e.wash.queue = none → Ev.washCalls (n + 1) e = e) ∧
      ∀ x w, e.nextWashCall e.wash.queue = some (x, w) → Ev.washCalls (n + 1) e = Ev.washCalls n (e.callWash x w).drain) ∧
  (∀ e : Ev,
    let takes (w c : Nat) : Prop := w < 2 ∧ (e.washLane w).classMask.getLsbD c = true
    let serves (w : Nat) : Prop :=
      let r := e.washLane w
      r.valid = true ∧ r.state ≠ .closed ∧ r.score < 64 ∧ e.cutOff r.controller = false ∧ e.cutOff r.entrySignal.node = false
    let busy (w : Nat) : Prop := (e.washLane w).state = .calling ∨ (e.washLane w).state = .washing
    e.deriveWaiver = (((e.deriveWaiverOf 0).deriveWaiverOf 1).deriveWaiverOf 2).deriveWaiverOf 3 ∧
    ∀ c, c < 4 →
      let due := ∀ w, takes w c → ¬ serves w ∧ ¬ busy w
      ((due ↔ e.waived c = true) → e.deriveWaiverOf c = e) ∧
      (due → e.waived c = false → ∃ m : Ev,
        e.deriveWaiverOf c =
          ((e.wash.queue.filter fun x => (e.bus x.bus).cls == c).foldl (fun k x => k.washSkip x.bus .waived) m).send
            { e.note .washWaived with value := noteValue c } ∧
        m.waived c = true ∧ m.wash.queue = e.wash.queue.filter (fun x => (e.bus x.bus).cls != c) ∧
        e.toState.OnlyChanged m.toState [.washQueue, .waived c]) ∧
      (¬ due → e.waived c = true →
        (e.deriveWaiverOf c).waived c = false ∧ (e.deriveWaiverOf c).Told { e.note .washWaiverEnded with value := noteValue c } ∧
        e.toState.OnlyChanged (e.deriveWaiverOf c).toState ([.waived c] ++ Part.notice))) ∧
  ∀ (s : State) (w : Nat), w < 2 → s.mode ≠ .configure →
    (∀ t, (s.washLane w).deadline = some t → Timer.clearing w t ∈ s.office.overdue → exec (.endOfClearing w) s = .next s) ∧
    (∀ t, (s.washLane w).state = .clearing → (s.washLane w).deadline = some t → t ≤ s.now → Timer.clearing w t ∉ s.office.overdue →
      ∃ e : Ev, exec (.endOfClearing w) s = .next e.settle.toState ∧ e.outs = [] ∧ e.washDue = !(s.washLane w).closeAtEnd ∧
        e.washLane w =
          { s.washLane w with
            deadline := none, closeAtEnd := false, state := if (s.washLane w).closeAtEnd = true then .closed else .ready, since := s.now } ∧
        s.OnlyChanged e.toState [.washLane w]) ∧
    ∀ (h : InboxEntry) (r : Nat), h.roleIndex = w →
      let ignored (c : Instr) (n : Nat) : Prop := exec c s = .next
        (s.taken.begin.send { s.note .washEventIgnored with washLane := some w, value := noteValue n }).settle.toState
      (s.HeadIs h (.washEvent 4 r) →
        ((s.washLane w).state = .faulted → (s.washLane w).grade ≠ .out →
          exec .washEventReady s = .next (s.taken.begin.enterClearingWash w (s.washLane w).pacing).settle.toState) ∧
        ((s.washLane w).state = .faulted → (s.washLane w).grade = .out →
          exec .washEventReady s = .next (s.taken.begin.send { s.note .washLaneOut with washLane := some w }).settle.toState) ∧
        ((s.washLane w).state ≠ .faulted → ignored .washEventReady 4)) ∧
      (s.HeadIs h (.washEvent 1 r) → (s.washLane w).state ≠ .calling → ignored .washEventEntered 1) ∧
      (s.HeadIs h (.washEvent 2 r) → (s.washLane w).state ≠ .washing → ignored .washEventDone 2) ∧
      (s.HeadIs h (.washEvent 3 r) → (s.washLane w).state ≠ .washing → ignored .washEventAborted 3) ∧
      ∀ n, n < 1 ∨ 4 < n → s.HeadIs h (.washEvent n r) → ignored .washEventUnknown n

/-! ### The field port and its deliveries -/

/-- In CONFIGURE every entry becomes a "relay" notice of its source and its kind code, and no block acts on it (R157). The notice reports the role index
with which a DETECTOR's entry was accepted (R152); that its channel subject holds it, and is absent for the other roles, is inferred (log 34). -/
def Obligations.ConfigureRelaysEveryEntry : Prop :=
  ∀ (s : State) (x : InboxEntry), s.field.inbox.head? = some x → s.mode = .configure →
    exec x.report.command s = .next
      (s.taken.begin.send
        { s.note .relay with
          node := some x.source
          channel := if x.role = .detector then some x.roleIndex else none
          value := noteValue x.report.kindCode.toNat }).settle.toState

/-- FIELD_FRAME_ARRIVAL (R149, R153 to R159) and QUIET_TIMER_EXPIRY (R160). A damaged frame is counted; a frame for another party is ignored; a frame of an
unknown source, a wrong kind or a bad length is rejected, counted and told; an accepted frame joins the inbox, and a SAMPLE is ignored in DOZE; at a full
inbox a SAMPLE is lost, and another frame takes the place of the newest SAMPLE or is lost. A join, at a full inbox too, that leaves 24 entries with the quiet
timer idle asks for QUIET, and so does an expiry at 16. That a SAMPLE of bad length is rejected in DOZE too is read from R154 and R155 (log 46). -/
def Obligations.FramesAreAcceptedOrCounted : Prop :=
  ∀ (s : State) (f : Frame),
    let src := f.source.toNat
    let mine := f.destination = 0 ∨ f.destination.toNat = s.params.detectorTag ∨ f.destination.toNat = s.params.signalTag
    let arrives (e : Ev) : Prop := exec (.fieldFrameArrival f) s = .next e.settle.toState
    let rejects (r : RejectReason) : Prop := arrives
      ((s.begin.count .rejectedFrames).send
        { s.note .frameRejected with node := some src, value := noteValue (f.kind.toNat * 256 + r.code) })
    let asks (e : Ev) : Prop := e.field.quietTimer = some (s.params.quietTime * 9 / 10) ∧
      e.Placed s.params.detectorTag (.quiet s.params.quietTime) { purpose := .quiet, outputs := 0 }
    let quiets (e : Ev) : Prop := asks e ∧
      s.OnlyChanged e.toState ([.inbox, .quietTimer] ++ Part.request s.params.detectorTag)
    (frameGood f = false → arrives (s.begin.count .badCheckFrames)) ∧
    (frameGood f = true → ¬ mine → arrives s.begin) ∧
    (frameGood f = true → mine → (s.node src).valid = false → rejects .unknownSource) ∧
    (frameGood f = true → mine → (s.node src).valid = true →
      ((s.node src).role.maySend f.kind = false → rejects .wrongKind) ∧
      ((s.node src).role.maySend f.kind = true → readReport f.kind f.payload = none → rejects .badLength) ∧
      ∀ report, (s.node src).role.maySend f.kind = true → readReport f.kind f.payload = some report →
        let x : InboxEntry :=
          { source := src, role := (s.node src).role, roleIndex := (s.node src).roleIndex, report := report, acceptedAt := s.now }
        let ignored := s.mode = .doze ∧ report.isSample = true
        (ignored → arrives s.begin) ∧
        (¬ ignored → s.field.inbox.length < 32 → s.field.inbox.length < 23 ∨ s.field.quietTimer ≠ none ∨ s.mode = .configure →
          arrives ({ s with field.inbox := s.field.inbox ++ [x] } : State).begin) ∧
        (¬ ignored → 23 ≤ s.field.inbox.length → s.field.inbox.length < 32 → s.field.quietTimer = none → s.mode ≠ .configure →
          ∃ e : Ev, arrives e ∧ e.field.inbox = s.field.inbox ++ [x] ∧ quiets e) ∧
        (¬ ignored → 32 ≤ s.field.inbox.length → report.isSample = true ∨ (∀ y ∈ s.field.inbox, y.report.isSample = false) →
          arrives (s.begin.count .inboxLosses)) ∧
        (∀ before y after, ¬ ignored → 32 ≤ s.field.inbox.length → report.isSample = false → s.field.inbox = before ++ y :: after →
          y.report.isSample = true → (∀ z ∈ after, z.report.isSample = false) → s.field.quietTimer ≠ none ∨ s.mode = .configure →
          arrives (({ s with field.inbox := before ++ after ++ [x] } : State).begin.count .inboxLosses)) ∧
        (∀ before y after, ¬ ignored → 32 ≤ s.field.inbox.length → report.isSample = false → s.field.inbox = before ++ y :: after →
          y.report.isSample = true → (∀ z ∈ after, z.report.isSample = false) → s.field.quietTimer = none → s.mode ≠ .configure →
          ∃ e : Ev, arrives e ∧ e.field.inbox = before ++ after ++ [x] ∧ e.counter .inboxLosses = s.counter .inboxLosses + 1 ∧
            asks e ∧ s.OnlyChanged e.toState ([.inbox, .quietTimer, .counter .inboxLosses] ++ Part.request s.params.detectorTag))) ∧
    (s.field.quietTimer ≠ none → 16 ≤ s.field.inbox.length → s.mode ≠ .configure →
      ∃ e : Ev, exec .quietTimerExpiry s = .next e.settle.toState ∧ e.field.inbox = s.field.inbox ∧ quiets e) ∧
    (s.field.quietTimer ≠ none → s.field.inbox.length < 16 ∨ s.mode = .configure →
      exec .quietTimerExpiry s = .next ({ s with field.quietTimer := none } : State).begin.settle.toState)

/-- TAG at a gate (R4, R9 to R15), out of CONFIGURE: a stranger read; an arrival and a reappearance at the gate-in, each routed (R12) with the
level read and the flags cleared; at the gate-out the departure of a LEAVING bus, and the read of a bus that is OUT, is PARKED, or stands
elsewhere. A bus that stands in the yard is first taken out of what holds it, and its holder acts (R28, R31, R33, R80, R102). In DOZE the part wakes to RUN
first, with no change pending: the mode is entered as `Obligations.ModesChange` says of entering RUN from DOZE (channels restarted, ALL STOP where R175 asks for
it, the passes triggered), and the read is then taken as in RUN, by every clause here (R206); the order of the entry's changes is the model's choice (log 26). -/
def Obligations.TagsMoveBusesThroughTheGates : Prop :=
  (∀ (e : Ev) (b : Nat),
    let m := e.takeOut b
    let place := (e.bus b).place
    (place = .out ∨ place = .leaving ∨ place = .lost → m = e) ∧
    (place = .fuelWait → m = { e with fuel := { e.fuel with queue := e.fuel.queue.filter fun y => y.bus != b } }) ∧
    (place = .washWait → m = { e with wash := { e.wash with queue := e.wash.queue.filter fun y => y.bus != b } }) ∧
    (place = .hold → m = { e with holdList := e.holdList.filter fun y => y != b }) ∧
    (∀ l before d after, place = .directed l → e.laneMap.directions = before ++ d :: after → d.bus = b → (∀ y ∈ before, y.bus ≠ b) →
      m.laneMap.directions = before ++ after ∧ (e.laneMap.directions.length = 8 → m.rerunDue = true) ∧
      ((∀ y ∈ before ++ after, y.lane ≠ d.lane) → m.Aspect (e.lane d.lane).entrySignal .aspectClear .laneClear ∧
        e.toState.OnlyChanged m.toState ([.directions] ++ Part.request (e.lane d.lane).entrySignal.node)) ∧
      ((∃ y ∈ before ++ after, y.lane = d.lane) → e.toState.OnlyChanged m.toState [.directions])) ∧
    (∀ l, l < 32 → place = .parked l →
      let left := (e.lane l).contents.filter fun y => y != .bus b
      m.lane l = { e.lane l with contents := left } ∧ e.toState.OnlyChanged m.toState [.lane l] ∧
      (.bus b ∈ (e.lane l).contents → m.rerunDue = true) ∧
      (headBus left ≠ none → headBus left ≠ headBus (e.lane l).contents → m.pullDue = true)) ∧
    (∀ d, d < 6 → place = .fuelBay d →
      let r := e.dispenser d
      let emptied := e.setDispenser d { r with occupant := none }
      (r.state = .calling → m.dispenser d = { r with occupant := none, state := .free, since := e.now } ∧ m.fuelDue = true ∧
        m.Aspect r.baySignal .aspectClear .bayClear ∧
        e.toState.OnlyChanged m.toState ([.dispenser d] ++ Part.request r.baySignal.node)) ∧
      (r.state = .docked → r.grant = none → m = emptied.enterClearing d) ∧
      (r.state ≠ .calling → r.state ≠ .docked ∨ r.grant ≠ none → m = emptied)) ∧
    ∀ w, w < 2 → place = .wash w →
      let r := e.washLane w
      (r.state = .calling →
        m.washLane w =
          { r with
            occupant := none, programme := none, closeAtEnd := false, state := if r.closeAtEnd = true then .closed else .ready
            since := e.now } ∧
        (r.closeAtEnd = false → m.washDue = true) ∧ m.Aspect r.entrySignal .aspectClear .washClear ∧
        e.toState.OnlyChanged m.toState ([.washLane w] ++ Part.request r.entrySignal.node)) ∧
      (r.state ≠ .calling → m = e.setWashLane w { r with occupant := none })) ∧
  ∀ (s : State) (x : InboxEntry) (code : Nat) (level : Option Nat), s.HeadIs x (.tag code level) → s.mode ≠ .configure →
    let read (m : Ev) : Prop := exec .tag s = .next m.settle.toState
    let start : Ev := if s.mode = .doze then ({ s.taken with office.pendingMode := none } : State).begin.turnTo .run else s.taken.begin
    let atGate (d : Nat) : DepartedAs :=
      if start.clock.valid = false then .unconfirmed else if start.plannedS d + start.params.grace < start.nowS then .late else .onTime
    read (start.takeTag x.source x.role code level) ∧
    (s.mode = .doze → start.mode = .run ∧ start.office.pendingMode = none ∧ start.field = s.taken.field ∧
      start.rerunDue = true ∧ start.fuelDue = true ∧ start.washDue = true ∧ start.pullDue = true) ∧
    (start.findTag code = none →
      read ((start.count .strangerReads).send { start.note .stranger with node := some x.source, value := noteValue code })) ∧
    ∀ b, b < 256 → start.findTag code = some b →
      let m := start.takeOut b
      (x.role = .gateIn → (start.bus b).place = .out → read (start.arrive b level)) ∧
      (x.role = .gateIn → (start.bus b).place ≠ .out → ∃ n k : Ev, read (k.arrive b level) ∧
        (∀ l, l < 32 → (start.bus b).place = .parked l →
          n.lane l = { m.lane l with uncertain := true } ∧ m.toState.OnlyChanged n.toState ([.lane l] ++ Part.notice)) ∧
        (∀ d, (start.bus b).place = .leaving → (start.bus b).boundDuty = some d → n = m.depart d .unconfirmed) ∧
        ((∀ l, (start.bus b).place ≠ .parked l) → (start.bus b).place ≠ .leaving ∨ (start.bus b).boundDuty = none → n = m) ∧
        k.counter .reappearances = start.counter .reappearances + 1 ∧ (k.bus b).boundDuty = none ∧
        k.Told { start.note .reappeared with bus := some b, value := noteValue (start.bus b).place.code } ∧
        (n.unbind b).toState.OnlyChanged k.toState ([.counter .reappearances] ++ Part.notice)) ∧
      (∀ e : Ev, ∃ m : Ev, e.arrive b level = m.route b ∧ m.counter .arrivals = e.counter .arrivals + 1 ∧
        m.bus b =
          { e.bus b with
            level := (match level with | some v => if v ≤ 100 then some v else none | none => none)
            fuelSkipped := false, fuelMissed := false, washSkipped := false, lastSeen := e.now } ∧
        e.toState.OnlyChanged m.toState [.bus b, .counter .arrivals]) ∧
      (x.role = .gateOut → (start.bus b).place = .out →
        read ((start.setBus b { start.bus b with lastSeen := start.now }).send { start.note .outWhileOut with bus := some b })) ∧
      (x.role = .gateOut → (start.bus b).place = .leaving → ∃ e : Ev, read e ∧
        e.bus b = { start.bus b with place := .out, lastSeen := start.now, boundDuty := none } ∧
        ((start.bus b).boundDuty = none → start.toState.OnlyChanged e.toState [.bus b]) ∧
        ∀ d, d < 256 → (start.bus b).boundDuty = some d → (start.duty d).state = .leaving →
          let how : DepartedAs :=
            if (start.duty d).unreleased = true then .unreleased
            else if atGate d = .onTime ∧ (start.duty d).late = true then .late
            else atGate d
          e.duty d = { start.duty d with state := .departed, bus := none, releaseLane := none, departedAs := some how } ∧
          e.counter how.counter = start.counter how.counter + 1 ∧
          start.toState.OnlyChanged e.toState ([.bus b, .duty d, .counter how.counter] ++ Part.notice)) ∧
      (∀ l, l < 32 → x.role = .gateOut → (start.bus b).place = .parked l → ∃ j n e : Ev, read e ∧
        (headBus (start.lane l).contents = some b → j = m) ∧
        (headBus (start.lane l).contents ≠ some b → j.lane l = { m.lane l with uncertain := true } ∧
          m.toState.OnlyChanged j.toState ([.lane l] ++ Part.notice)) ∧
        ((start.bus b).boundDuty = none → n = j) ∧
        (∀ d, (start.bus b).boundDuty = some d → n = j.depart d (if (start.duty d).state = .released then atGate d else .unreleased)) ∧
        e.bus b = { start.bus b with place := .out, lastSeen := start.now, boundDuty := none } ∧
        (e.lane l).contents = (start.lane l).contents.filter (fun y => y != .bus b) ∧
        (∀ d, d < 256 → (start.bus b).boundDuty = some d → (e.duty d).state = .departed ∧ (e.duty d).bus = none) ∧
        e.Told { start.note .leftWithoutRelease with bus := some b, lane := some l, value := noteValue (Place.parked l).code } ∧
        (n.unbind b).toState.OnlyChanged e.toState ([.bus b] ++ Part.notice)) ∧
      (x.role = .gateOut → (start.bus b).place ≠ .out → (start.bus b).place ≠ .leaving → (∀ l, (start.bus b).place ≠ .parked l) →
        ∃ n e : Ev, read e ∧ ((start.bus b).boundDuty = none → n = m) ∧ (∀ d, (start.bus b).boundDuty = some d → n = m.depart d .unreleased) ∧
          e.bus b = { start.bus b with place := .out, lastSeen := start.now, boundDuty := none } ∧
          e.Told { start.note .leftWithoutRelease with bus := some b, value := noteValue (start.bus b).place.code } ∧
          (n.unbind b).toState.OnlyChanged e.toState ([.bus b] ++ Part.notice))

/-- SAMPLE: discarded in DOZE, uncounted (R157), and its readings taken one after another to consecutive inputs (R138), each with its outcomes delivered
before the next (log 18). SAMPLE with one reading (R138 to R145), in RUN and SHADOW. A reading of no channel is dropped. A good one is summed; the last of an
average makes it: discarded after a restart, taken as the baseline where there is none, and otherwise compared with it, the candidate run followed and the
baseline tracked. A bad one puts the channel in FAULTED, and eight good ones in a row bring it back. A change of accepted state goes out as one output. -/
def Obligations.ReadingsAreFiltered : Prop :=
  (∀ (s : State) (x : InboxEntry) (i : Nat) (vs : List Nat), s.HeadIs x (.sample i vs) → s.mode = .doze →
    exec .sample s = .next s.taken.begin.settle.toState) ∧
  (∀ (e : Ev) (n i v : Nat) (vs : List Nat), e.takeSample n i (v :: vs) = (e.takeSample n i [v]).takeSample n (i + 1) vs) ∧
  (∀ (s : State) (x : InboxEntry) (i : Nat) (vs : List Nat), s.HeadIs x (.sample i vs) → s.mode = .run ∨ s.mode = .shadow →
    exec .sample s = .next (s.taken.begin.takeSample x.source i vs).settle.toState) ∧
  ∀ (s : State) (x : InboxEntry) (i v : Nat), s.HeadIs x (.sample i [v]) → s.mode = .run ∨ s.mode = .shadow →
    let good := v ≠ 0 ∧ v ≠ 65535
    (7 < i ∨ s.channelOf x.source i = none → exec .sample s = .next s.taken.begin.settle.toState) ∧
    ∀ c, c < 80 → i ≤ 7 → s.channelOf x.source i = some c →
      let r := s.channel c
      let n := 2 ^ r.k
      let a := (r.sum + v) / n
      let used : ChannelRec := { r with sum := 0, count := 0 }
      let becomes (r' : ChannelRec) : Prop :=
        exec .sample s = .next ({ s.taken with channels := tset s.channels c r' } : State).begin.settle.toState
      let changes (r' : ChannelRec) : Prop :=
        exec .sample s = .next
          ((({ s.taken with channels := tset s.channels c r' } : State).begin.tellChannel s.taken c true).drain).settle.toState
      let tracked (r' : ChannelRec) (b : Nat) : ChannelRec :=
        if r'.state = .vacant ∧ b - r.onDelta < a then
          { r' with baseline := some (if b ≤ a then b + (a - b) / 64 else b - (b - a) / 64) } else r'
      (good → r.state ≠ .faulted →
        (r.count + 1 < n → becomes { r with sum := r.sum + v, count := r.count + 1 }) ∧
        (n ≤ r.count + 1 → 0 < r.discard → becomes { used with discard := r.discard - 1 }) ∧
        (n ≤ r.count + 1 → r.discard = 0 → r.baseline = none → becomes { used with baseline := some a }) ∧
        ∀ b, n ≤ r.count + 1 → r.discard = 0 → r.baseline = some b →
          let low := a ≤ b - r.onDelta
          let high := ¬ low ∧ b - r.offDelta ≤ a
          (¬ low → ¬ high → becomes (tracked used b)) ∧
          (low → r.state = .occupied → becomes (tracked { used with run := 0, candidate := none } b)) ∧
          (high → r.state = .vacant → becomes (tracked { used with run := 0, candidate := none } b)) ∧
          (low → r.state = .vacant → r.run + 1 < r.hold →
            becomes (tracked { used with run := r.run + 1, candidate := some .occupied } b)) ∧
          (high → r.state = .occupied → r.run + 1 < r.hold →
            becomes (tracked { used with run := r.run + 1, candidate := some .vacant } b)) ∧
          (low → r.state = .vacant → r.hold ≤ r.run + 1 →
            changes (tracked { used with state := .occupied, run := 0, candidate := none } b)) ∧
          (high → r.state = .occupied → r.hold ≤ r.run + 1 →
            changes (tracked { used with state := .vacant, run := 0, candidate := none } b))) ∧
      (¬ good → r.state ≠ .faulted → ∃ m : Ev, exec .sample s = .next ((m.tellFault s.taken c).drain).settle.toState ∧
        m.channel c = { used with candidate := none, run := 0, goodRun := 0, state := .faulted } ∧
        m.Told { s.note .loopFault with channel := some c, node := some r.node, value := noteValue v } ∧
        s.OnlyChanged m.toState ([.inbox, .channel c] ++ Part.notice)) ∧
      (¬ good → r.state = .faulted → becomes { r with goodRun := 0 }) ∧
      (good → r.state = .faulted → r.goodRun < 7 → becomes { r with goodRun := r.goodRun + 1 }) ∧
      (good → r.state = .faulted → 7 ≤ r.goodRun → ∃ m : Ev, exec .sample s = .next ((m.tellFault s.taken c).drain).settle.toState ∧
        m.channel c = { used with discard := 2, candidate := none, run := 0, goodRun := 0, state := .vacant } ∧
        m.Told { s.note .loopRecovered with channel := some c, node := some r.node } ∧
        s.OnlyChanged m.toState ([.inbox, .channel c] ++ Part.notice))

/-- A passage over a loop of a lane (R34 to R38), which an accepted change to VACANT of a channel of a lane use is, and no other change of one (R146): an
entry that a direction to the lane awaits, a misroute of the oldest direction to another lane (its bus is PARKED here at the end, by the join of
R34 that follows the loss of R58: log 33), an unexpected entry of a placeholder, each overfull where there is no room; a released exit, and an unexpected
one. The hold list has no part in an entry (R58). -/
def Obligations.PassagesMoveBuses : Prop :=
  (∀ (e : Ev) (before : State) (c : Nat), (e.channel c).use = .laneEntry ∨ (e.channel c).use = .laneExit ∨ (e.channel c).use = .laneMouth →
    ((before.channel c).state = .occupied → (e.channel c).state = .vacant →
      e.tellChannel before c true = e.passage c ∧ e.tellChannel before c false = e) ∧
    ((before.channel c).state = .vacant → (e.channel c).state = .occupied → ∀ accepted, e.tellChannel before c accepted = e) ∧
    (e.laneOfLoop c = none → e.passage c = e)) ∧
  ∀ (e : Ev) (c l : Nat), l < 32 → e.laneOfLoop c = some l →
    let lane := e.lane l
    let dead := lane.kind = .deadEnd
    let joined (x : LaneEntry) : List LaneEntry := if dead then x :: lane.contents else lane.contents ++ [x]
    let out := ∃ d, e.releasedDuty l = some d
    let enters := if dead then e.directionsTo l ≠ [] ∨ (¬ out ∧ (e.laneMap.directions ≠ [] ∨ lane.contents = [])) else lane.entryLoop = c
    (enters → (e.passage c).holdList = e.holdList) ∧
    (enters → ∀ d ds, d.bus < 256 → e.directionsTo l = d :: ds →
      (e.usedBays l + e.busLength d.bus ≤ lane.length →
        (e.passage c).lane l = { lane with contents := joined (.bus d.bus) } ∧
        (e.passage c).bus d.bus = { e.bus d.bus with place := .parked l, lastSeen := e.now } ∧
        (e.passage c).counter .laneEntries = e.counter .laneEntries + 1 ∧
        (e.passage c).laneMap.directions = removeFirst (fun y => y == d) e.laneMap.directions ∧
        e.toState.OnlyChanged (e.passage c).toState
          ([.lane l, .bus d.bus, .counter .laneEntries, .directions] ++ Part.request lane.entrySignal.node)) ∧
      (lane.length < e.usedBays l + e.busLength d.bus →
        (e.passage c).lane l = { lane with uncertain := true } ∧
        (e.passage c).bus d.bus = { e.bus d.bus with place := .lost, lastSeen := e.now } ∧
        (e.passage c).counter .lostBuses = e.counter .lostBuses + 1 ∧ (e.passage c).counter .overfull = e.counter .overfull + 1 ∧
        (e.passage c).Told { e.note .overfull with lane := some l, bus := some d.bus })) ∧
    (enters → ∀ d ds, d.bus < 256 → e.directionsTo l = [] → e.laneMap.directions = d :: ds →
      (e.passage c).laneMap.directions = ds ∧ (e.passage c).counter .misroutes = e.counter .misroutes + 1 ∧
      (e.usedBays l + e.busLength d.bus ≤ lane.length →
        (e.passage c).lane l = { lane with contents := joined (.bus d.bus) } ∧
        (e.passage c).bus d.bus = { e.bus d.bus with place := .parked l, lastSeen := e.now } ∧
        (e.passage c).Told { e.note .misroute with bus := some d.bus, lane := some l, value := noteValue d.lane }) ∧
      (lane.length < e.usedBays l + e.busLength d.bus →
        (e.passage c).bus d.bus = { e.bus d.bus with place := .lost, lastSeen := e.now } ∧
        (e.passage c).Told { e.note .overfull with lane := some l, bus := some d.bus, value := noteValue d.lane })) ∧
    (enters → e.laneMap.directions = [] →
      (e.passage c).counter .unexpectedEntries = e.counter .unexpectedEntries + 1 ∧ ((e.passage c).lane l).uncertain = true ∧
      ((e.passage c).lane l).contents = if e.usedBays l + 2 ≤ lane.length then joined .placeholder else lane.contents) ∧
    (¬ enters → ∀ d b rest, b < 256 → d < 256 → e.releasedDuty l = some d → lane.contents = .bus b :: rest → (e.duty d).bus = some b →
      (e.passage c).lane l = { lane with contents := rest } ∧
      (e.passage c).bus b = { e.bus b with place := .leaving, lastSeen := e.now } ∧
      (e.passage c).duty d = { e.duty d with state := .leaving } ∧
      (e.passage c).release l = some { duty := some d, phase := .stopping, ticket := e.serial } ∧
      (e.passage c).Aspect lane.head .aspectClear (.releaseStop l e.serial) ∧
      e.toState.OnlyChanged (e.passage c).toState ([.lane l, .bus b, .duty d, .release l] ++ Part.request lane.head.node)) ∧
    (¬ enters → (∀ d b, e.releasedDuty l = some d → headBus lane.contents = some b → (e.duty d).bus ≠ some b) →
      (e.passage c).lane l = { lane with contents := lane.contents.tail, uncertain := true } ∧
      (e.passage c).Told { e.note .unexpectedExit with lane := some l, bus := headBus lane.contents } ∧
      ∀ b, b < 256 → headBus lane.contents = some b →
        (e.passage c).bus b = { e.bus b with place := .leaving, lastSeen := e.now } ∧
        ∀ d, d < 256 → (e.bus b).boundDuty = some d →
          (e.passage c).duty d = { e.duty d with unreleased := true, state := .leaving, releaseLane := some l })

/-- HEALTH (R81, R179): at a CUT OFF node a ready frame lengthens the recovery run, the eighth brings the node back, and a frame that is not ready begins
again; a ready frame of a dispenser's node also ends a closure for a fault. The status code goes no further (log 35). REINSTATE_NODE (R179) brings a valid
node back at once. -/
def Obligations.NodesComeBack : Prop :=
  ∀ (s : State) (n : Nat), 1 ≤ n → n < 64 →
    let restored (m : Ev) : Prop := (m.node n).score = 0 ∧ (m.node n).recovery = 0 ∧ m.commands = s.commands ∧
      (s.cutOff n = true → m.Told { s.note .nodeHealth with node := some n, value := noteValue Health.good.code }) ∧
      (m.node n).mark = (s.node n).mark ∧ (m.node n).shadow = (s.node n).shadow ∧ (m.node n).role = (s.node n).role
    (∀ (x : InboxEntry) ready status, s.HeadIs x (.health ready status) → x.source = n → s.mode ≠ .configure →
      ∃ m : Ev,
        (x.role ≠ .dispenser → exec .health s = .next m.settle.toState) ∧
        (x.role = .dispenser → ready = true → (s.dispenser x.roleIndex).state = .closed .fault →
          exec .health s = .next (m.enterClearing x.roleIndex).settle.toState) ∧
        (x.role = .dispenser → ready = false ∨ (s.dispenser x.roleIndex).state ≠ .closed .fault → exec .health s = .next m.settle.toState) ∧
        s.OnlyChanged m.toState ([.inbox, .node n] ++ Part.notice) ∧
        (s.cutOff n = false → m.node n = s.node n) ∧
        (s.cutOff n = true → ready = false → m.node n = { s.node n with recovery := 0 }) ∧
        (s.cutOff n = true → ready = true → (s.node n).recovery < 7 → m.node n = { s.node n with recovery := (s.node n).recovery + 1 }) ∧
        (s.cutOff n = true → ready = true → 7 ≤ (s.node n).recovery → restored m)) ∧
    ∀ o, s.OrderAt 0x17 o → o.data.length = 1 → o.byte 0 = n → (s.node n).valid = true →
      ∃ m : Ev, exec .reinstateNode s = .next (m.settle.toState.answer o .ok []) ∧ restored m ∧
        s.OnlyChanged m.toState ([.node n] ++ Part.notice)

/-- NOZZLE (R72 to R74): the occupant of a DOCKED dispenser without a grant is granted the litres that fill the tank, as far as the stock above the
reserve allows, or denied and handed on; another tag is refused as a bay mismatch; a DOCKED dispenser with neither grant nor occupant refuses, and so
does any other state, with no notice but that of SHADOW for the REFUSE (R181). While its grant is pending a DOCKED dispenser's request is not acted on, and that this holds without an occupant too is the model's choice (log 37). -/
def Obligations.NozzleRequestsAreGrantedOrRefused : Prop :=
  ∀ (s : State) (x : InboxEntry) (code d : Nat), s.HeadIs x (.nozzle code) → s.mode ≠ .configure → x.roleIndex = d → d < 6 →
    let r := s.dispenser d
    let refuses (m : Ev) : Prop := m.Placed r.controller .refuse { purpose := .refuse, outputs := 0 }
    let requested := r.valid = true ∧ r.state = .docked ∧ r.grant = none
    (r.valid = false ∨ (r.state = .docked ∧ r.grant ≠ none) → exec .nozzle s = .next s.taken.begin.settle.toState) ∧
    (r.valid = true → r.state ≠ .docked ∨ (r.grant = none ∧ r.occupant = none) → ∃ m : Ev, exec .nozzle s = .next m.settle.toState ∧ refuses m ∧
      (s.mode ≠ .shadow → m.notices = s.notices) ∧ s.OnlyChanged m.toState ([.inbox] ++ Part.request r.controller)) ∧
    ∀ o, o.bus < 256 → requested → r.occupant = some o →
      let full := (s.cls (s.bus o.bus).cls).capacity
      let limit := match (s.bus o.bus).level with | some v => (full * (100 - v) + 99) / 100 | none => full
      let avail := s.fuel.stock - s.fuel.committed - if o.priority = 3 then 0 else s.params.reserve
      let litres := min limit avail
      let theirs := code ≠ 0 ∧ (s.bus o.bus).tag = code
      (¬ theirs → ∃ m : Ev, exec .nozzle s = .next m.settle.toState ∧ refuses m ∧
        m.Told { s.note .bayMismatch with dispenser := some d, bus := some o.bus, value := noteValue code } ∧
        s.OnlyChanged m.toState ([.inbox] ++ Part.request r.controller)) ∧
      (theirs → s.changePending = true → ∃ m : Ev, exec .nozzle s = .next m.settle.toState ∧ refuses m ∧
        (s.mode ≠ .shadow → m.notices = s.notices) ∧ s.OnlyChanged m.toState ([.inbox] ++ Part.request r.controller)) ∧
      (theirs → s.changePending = false → avail ≠ 0 → litres = limit ∨ s.params.minimumGrant ≤ litres →
        ∃ m : Ev, exec .nozzle s = .next m.settle.toState ∧ m.dispenser d = { r with grant := some litres, grantTicket := s.serial } ∧
          m.fuel.committed = s.fuel.committed + litres ∧
          m.Placed r.controller (.grant litres) { purpose := .grant d s.serial, outputs := 0 } ∧
          s.OnlyChanged m.toState ([.inbox, .dispenser d, .committed, .belowReserve] ++ Part.request r.controller)) ∧
      (theirs → s.changePending = false → avail = 0 ∨ (litres < limit ∧ litres < s.params.minimumGrant) →
        ∃ m : Ev, exec .nozzle s = .next ((m.washTest o.bus).enterClearing d).settle.toState ∧ refuses m ∧
          m.dispenser d = { r with occupant := none } ∧ m.counter .fuelDenied = s.counter .fuelDenied + 1 ∧
          m.Told { s.note .fuelDenied with bus := some o.bus, dispenser := some d, value := noteValue avail } ∧
          s.OnlyChanged m.toState ([.inbox, .dispenser d, .counter .fuelDenied] ++ Part.request r.controller))

/-- DELIVERY (R76, R77): one that settles a grant takes its litres, up to the grant, from the stock, releases the grant, raises the level, counts, and
hands the bus on to the wash test while the dispenser clears; litres above the grant are told. With no occupant it
settles the grant and clears the dispenser alike, counts no bus as served and changes none. One without a grant is taken from the free stock. -/
def Obligations.DeliveriesSettleGrants : Prop :=
  ∀ (s : State) (x : InboxEntry) (litres d : Nat) (full : Bool), s.HeadIs x (.delivery litres full) → s.mode ≠ .configure →
    x.roleIndex = d → d < 6 →
    let r := s.dispenser d
    (r.valid = false → exec .delivery s = .next s.taken.begin.settle.toState) ∧
    (∀ g o, o.bus < 256 → r.valid = true → r.grant = some g → r.occupant = some o →
      let bus := s.bus o.bus
      let level := match bus.level with
        | some v => if full = true then some 100 else some (min 100 (v + min litres g * 100 / (s.cls bus.cls).capacity))
        | none => if full = true then some 100 else none
      ∃ m : Ev, exec .delivery s = .next ((m.washTest o.bus).enterClearing d).settle.toState ∧
        m.fuel.stock = s.fuel.stock - min litres g ∧ m.fuel.committed = s.fuel.committed - g ∧
        m.dispenser d = { r with grant := none, occupant := none } ∧ m.bus o.bus = { bus with level := level } ∧
        m.counter .fuelServed = s.counter .fuelServed + 1 ∧
        m.counter .litresDelivered = s.counter .litresDelivered + BitVec.ofNat 32 litres ∧
        (g < litres → m.counter .meterExcess = s.counter .meterExcess + 1 ∧
          m.Told { s.note .meterExcess with dispenser := some d, value := noteValue litres }) ∧
        (litres ≤ g → m.counter .meterExcess = s.counter .meterExcess) ∧
        s.OnlyChanged m.toState
          ([.inbox, .stock, .committed, .belowReserve, .dispenser d, .bus o.bus, .counter .fuelServed, .counter .litresDelivered,
            .counter .meterExcess] ++ Part.notice)) ∧
    (∀ g, r.valid = true → r.grant = some g → r.occupant = none → ∃ m : Ev, exec .delivery s = .next (m.enterClearing d).settle.toState ∧
      m.fuel.stock = s.fuel.stock - min litres g ∧ m.fuel.committed = s.fuel.committed - g ∧ m.dispenser d = { r with grant := none } ∧
      m.counter .litresDelivered = s.counter .litresDelivered + BitVec.ofNat 32 litres ∧
      (g < litres → m.counter .meterExcess = s.counter .meterExcess + 1 ∧
        m.Told { s.note .meterExcess with dispenser := some d, value := noteValue litres }) ∧
      (litres ≤ g → m.counter .meterExcess = s.counter .meterExcess) ∧
      s.OnlyChanged m.toState
        ([.inbox, .stock, .committed, .belowReserve, .dispenser d, .counter .litresDelivered, .counter .meterExcess] ++ Part.notice)) ∧
    (r.valid = true → r.grant = none → ∃ m : Ev, exec .delivery s = .next m.settle.toState ∧
      m.fuel.stock = s.fuel.stock - min litres (s.fuel.stock - s.fuel.committed) ∧
      m.counter .litresDelivered = s.counter .litresDelivered + BitVec.ofNat 32 litres ∧
      m.counter .orphanDeliveries = s.counter .orphanDeliveries + 1 ∧
      m.Told { s.note .orphanDelivery with dispenser := some d, value := noteValue litres } ∧
      s.OnlyChanged m.toState
        ([.inbox, .stock, .belowReserve, .counter .litresDelivered, .counter .orphanDeliveries] ++ Part.notice))

/-- DISP_ALARM (R81) closes a dispenser for a fault, or by the office when it was to close at the end of its turn (R82), releases its grant and returns
its bus to the head of the queue; a closed one only tells. CLOSE_DISPENSER and OPEN_DISPENSER (R82) by the dispenser's state. -/
def Obligations.DispensersCloseAndOpen : Prop :=
  ∀ (s : State) (d : Nat), d < 6 →
    let r := s.dispenser d
    (∀ (x : InboxEntry) reason, s.HeadIs x (.dispAlarm reason) → s.mode ≠ .configure → x.roleIndex = d →
      let told : Notice := { s.note .dispenserAlarm with dispenser := some d, value := noteValue reason }
      (r.valid = false → exec .dispAlarm s = .next s.taken.begin.settle.toState) ∧
      (∀ why, r.valid = true → r.state = .closed why → exec .dispAlarm s = .next (s.taken.begin.send told).settle.toState) ∧
      (r.valid = true → (∀ why, r.state ≠ .closed why) → ∃ m : Ev,
        exec .dispAlarm s = .next ((m.returnOccupant r.occupant true).send told).settle.toState ∧
        m.dispenser d =
          { r with
            occupant := none, grant := none, closeAtEnd := false, since := s.now
            state := .closed (if r.closeAtEnd = true then .office else .fault) } ∧
        m.fuel.committed = s.fuel.committed - r.grant.getD 0 ∧
        (r.state = .calling → m.Aspect r.baySignal .aspectClear .bayClear) ∧
        s.OnlyChanged m.toState ([.inbox, .dispenser d, .committed, .belowReserve] ++ Part.request r.baySignal.node))) ∧
    (∀ o, s.OrderAt 0x16 o → o.data.length = 1 → o.byte 0 = d → r.valid = true →
      let closes (r' : DispenserRec) : Prop := exec .closeDispenser s = .next
        (({ s with fuel.dispensers := tset s.fuel.dispensers d r' } : State).begin.settle.toState.answer o .ok [])
      (r.state = .free ∨ r.state = .clearing → closes { r with state := .closed .office, since := s.now }) ∧
      (∀ why, r.state = .closed why → closes { r with state := .closed .office }) ∧
      (r.state = .docked ∨ r.state = .fuelling → closes { r with closeAtEnd := true }) ∧
      (r.state = .calling → ∃ m : Ev,
        exec .closeDispenser s = .next ((m.returnOccupant r.occupant false).settle.toState.answer o .ok []) ∧
        m.dispenser d = { r with state := .closed .office, since := s.now, occupant := none } ∧
        m.Aspect r.baySignal .aspectClear .bayClear ∧
        s.OnlyChanged m.toState ([.dispenser d] ++ Part.request r.baySignal.node))) ∧
    ∀ o, s.OrderAt 0x15 o → o.data.length = 1 → o.byte 0 = d → r.valid = true →
      let off : State := { s with fuel.dispensers := tset s.fuel.dispensers d { r with closeAtEnd := false } }
      (∀ why, r.state = .closed why →
        exec .openDispenser s = .next ((off.begin.enterClearing d).settle.toState.answer o .ok [])) ∧
      ((∀ why, r.state ≠ .closed why) → exec .openDispenser s = .next (off.begin.settle.toState.answer o .ok []))

/-! ### The command queue and the transmitters -/

/-- ACK and ACKNOWLEDGEMENT_TIMEOUT end the attempt of a node's SENT entry (R172). Done: the mark cleared, the score down by 1, the entry out of the queue
with done to every contribution, and the shadow of a SIGNAL node changed (R174). Failed: the score up by 8, and every one-shot contribution fails; where
others are left after fewer than three attempts at a node that can be reached, the entry waits with them for another attempt, and otherwise they fail and it
leaves. Any other entry stays, but for those that wait for a node that cannot be reached, which fail (R170). A change of health is told (R178). An ACK from a
node with no SENT entry, or that echoes another kind, ends nothing; that the timeout of a node that awaits none leaves the state as it is is the model's
choice (log 2). -/
def Obligations.AttemptsEnd : Prop :=
  (∀ (s : State) (h : InboxEntry) (k : Byte) (ok : Bool), s.HeadIs h (.ack k ok) → s.mode ≠ .configure →
    (s.sentTo h.source = none → exec .ack s = .next s.taken.begin.settle.toState) ∧
    ∀ x, s.sentTo h.source = some x → k ≠ x.kind.code → exec .ack s = .next s.taken.begin.settle.toState) ∧
  (∀ (s : State) (n : Nat), (∀ x, s.sentTo n = some x → x.state ≠ .sent true) → exec (.acknowledgementTimeout n) s = .next s) ∧
  ∀ (s : State) (n : Nat) (x : CommandEntry), s.CommandsSound → 1 ≤ n → n < 64 → s.sentTo n = some x →
    let decided (e : Ev) (r : Result3) (c : Contribution) : Prop :=
      { contribution := c, kind := x.kind, destination := x.destination, result := r } ∈ e.outs
    let others (e : Ev) : Prop := ∀ y ∈ s.commands.queue, y.id ≠ x.id → y ∈ e.commands.queue ∨
      (y.waiting = true ∧ y.destination < 64 ∧ (e.node y.destination).mark = false ∧
        (e.cutOff y.destination = true ∨ (e.node y.destination).valid = false) ∧
        ∀ c ∈ y.contributions, { contribution := c, kind := y.kind, destination := y.destination, result := .failed } ∈ e.outs)
    let scores (e : Ev) (score : Nat) : Prop := (e.node n).mark = false ∧ (e.node n).score = score ∧
      (healthOf score ≠ healthOf (s.node n).score → e.Told { s.note .nodeHealth with node := some n, value := noteValue (healthOf score).code })
    let gone (e : Ev) : Prop := ∀ y ∈ e.commands.queue, y.id ≠ x.id
    let frame : List Part := [.inbox, .node n, .shadow n, .commandQueue] ++ Part.notice
    let fails (c : Instr) : Prop := ∃ e : Ev, exec c s = .next e.settle.toState ∧ others e ∧
      scores e (min 255 ((s.node n).score + 8)) ∧ (e.node n).shadow = (s.node n).shadow ∧
      (∀ k ∈ x.contributions, k.purpose.oneShot = true → decided e .failed k) ∧
      (let again := x.attempts < 3 ∧ (∃ k ∈ x.contributions, k.purpose.oneShot = false) ∧ (s.node n).valid = true ∧
        min 255 ((s.node n).score + 8) < 192
      (again → { x with state := .waiting, contributions := x.contributions.filter fun k => !k.purpose.oneShot } ∈ e.commands.queue ∧
        ∀ k, k.purpose.oneShot = false → ¬ decided e .failed k) ∧
      (¬ again → (∀ k ∈ x.contributions, decided e .failed k) ∧ gone e)) ∧
      s.OnlyChanged e.toState frame
    (∀ (h : InboxEntry) k ok, s.HeadIs h (.ack k ok) → h.source = n → s.mode ≠ .configure → k = x.kind.code →
      (ok = true → ∃ e : Ev, exec .ack s = .next e.settle.toState ∧ others e ∧
        (∀ c ∈ x.contributions, decided e .done c) ∧ gone e ∧ scores e ((s.node n).score - 1) ∧
        (e.node n).shadow =
          (if (s.node n).role = .signal ∧ x.kind = .aspectSet then (s.node n).shadow ||| x.mask
          else if (s.node n).role = .signal ∧ x.kind = .aspectClear then (s.node n).shadow &&& ~~~x.mask
          else (s.node n).shadow) ∧
        s.OnlyChanged e.toState frame) ∧
      (ok = false → fails .ack)) ∧
    (x.state = .sent true → fails (.acknowledgementTimeout n))

/-- TRANSMISSION (R171): in RUN and DOZE with the transmitter free, the arbiter's choice is SENT, its attempts go up by 1, its frame goes on the line, and
a node is marked. TRANSMIT_COMPLETION (R171): the transmitter is free; an entry to a node begins to wait for its acknowledgement, an entry to a group is
done, and the frame of an entry that is gone ends nothing: R183 says so after a restart, and it is the model's choice after an entry to SHADOW (log 32)
or CONFIGURE (log 48). -/
def Obligations.TransmissionsBeginAndComplete : Prop :=
  ∀ s : State,
    (∀ x, s.commands.tx = none → s.mode = .run ∨ s.mode = .doze → s.arbiter = some x →
      ∃ t, exec .transmission s = .next t ∧ t.commands.tx = some { frame := x.frame, entry := x.id } ∧
        t.commands.queue =
          s.commands.queue.map (fun y => if y.id = x.id then { y with state := .sent false, attempts := y.attempts + 1 } else y) ∧
        (1 ≤ x.destination → x.destination < 64 → t.node x.destination = { s.node x.destination with mark := true }) ∧
        s.OnlyChanged t [.commandQueue, .fieldTx, .node x.destination]) ∧
    (∀ f, s.commands.tx = some f → s.sentEntry f.entry = none →
      exec .transmitCompletion s = .next ({ s with commands.tx := none } : State).begin.settle.toState) ∧
    ∀ f x, s.commands.tx = some f → s.sentEntry f.entry = some x →
      (x.destination < 64 → exec .transmitCompletion s = .next
        ({ s with commands := { queue := s.commands.queue.map fun y => if y.id = x.id then { y with state := .sent true } else y, tx := none } } :
          State).begin.settle.toState) ∧
      (64 ≤ x.destination → s.CommandsSound → ∃ e : Ev, exec .transmitCompletion s = .next e.settle.toState ∧ e.commands.tx = none ∧
        (∀ c ∈ x.contributions, { contribution := c, kind := x.kind, destination := x.destination, result := .done } ∈ e.outs) ∧
        (∀ y ∈ e.commands.queue, y.id ≠ x.id) ∧
        (∀ y ∈ s.commands.queue, y.waiting = false → y.id ≠ x.id → y ∈ e.commands.queue) ∧
        s.OnlyChanged e.toState [.commandQueue, .fieldTx])

/-- The office port (R193, R196, R197): a good ORDER frame to the part joins the order inbox, and at a full inbox is answered BUSY where there is room
for an answer; a good frame to a node or a group is taken as a FORWARD order (R162); every other frame is ignored. The transmitter sends an answer
before a notice, and is free again when it has sent it. The payload of an answer and that of a notice are laid out as R209 has them, and the status byte of
an answer has the eight items of R198 in the bits of R209: the mode, a pending change, the clock's validity, pull-out active exactly while a valid duty is CALLED,
RELEASED or LEAVING, quieting exactly while the quiet timer runs, attention exactly while a counter holds 2^31 or more, and notices dropped. Nothing is said of the
bytes of an absent subject or value, which are free (log 45), nor of the destination (log 7). -/
def Obligations.OfficePortTakesAndSends : Prop :=
  (∀ a : Answer, a.frame.kind = 0x41 ∧ a.frame.source = 0 ∧
    a.frame.payload = [a.status, BitVec.ofNat 8 a.result.code, a.code, a.tag] ++ a.data) ∧
  (∀ n : Notice,
    let p := n.frame.payload
    let subjects := [n.bus, n.lane, n.duty, n.node, n.dispenser, n.washLane, n.channel]
    n.frame.kind = 0x42 ∧ n.frame.source = 0 ∧ p.length = 20 ∧ numAt p 0 1 = n.kind.code ∧
      numAt p 1 1 = (if n.kind.routine = true then 0 else 1) ∧ numAt p 2 4 = n.yardSecond % 4294967296 ∧
      (n.clockMinute = none → numAt p 6 2 = 65535) ∧ (∀ m, n.clockMinute = some m → numAt p 6 2 = m % 65536) ∧
      (∀ i x, subjects[i]? = some x → (p.getD 8 0).getLsbD i = x.isSome ∧ ∀ y, x = some y → numAt p (9 + i) 1 = y % 256) ∧
      (p.getD 8 0).getLsbD 7 = n.value.isSome ∧ ∀ v, n.value = some v → numAt p 16 4 = v.toNat) ∧
  (∀ s : State,
    let bit (i : Nat) : Bool := s.status.getLsbD i
    s.status.toNat % 4 = (match s.mode with | .configure => 0 | .run => 1 | .shadow => 2 | .doze => 3) ∧
    bit 2 = s.office.pendingMode.isSome ∧ bit 3 = s.clock.valid ∧
    (bit 4 = true ↔ ∃ d, d < 256 ∧ (s.duty d).valid = true ∧
      ((s.duty d).state = .called ∨ (s.duty d).state = .released ∨ (s.duty d).state = .leaving)) ∧
    bit 5 = s.field.quietTimer.isSome ∧ (bit 6 = true ↔ ∃ c : Counter, 2147483648 ≤ (s.counter c).toNat) ∧
    bit 7 = s.notices.dropped) ∧
  ∀ s : State,
    (∀ f : Frame,
      let order : Option Order :=
        if frameGood f = false then none
        else if f.destination ≠ 0 then some { code := 0x1D, tag := f.kind, data := byte2 f.destination.toNat ++ [f.kind] ++ f.payload }
        else if f.kind = 0x40 then
          match f.payload with
          | c :: t :: data => some { code := c, tag := t, data := data }
          | _ => none
        else none
      let arrives (t : State) : Prop := exec (.officeFrameArrival f) s = .next t
      (order = none → arrives s) ∧
      ∀ o, order = some o →
        (s.office.orders.length < 4 → arrives { s with office.orders := s.office.orders ++ [o] }) ∧
        (4 ≤ s.office.orders.length → s.office.answers.length < 8 →
          arrives { s with office.answers :=
            s.office.answers ++ [{ status := s.status, result := .busy, code := o.code, tag := o.tag, data := [] }] }) ∧
        (4 ≤ s.office.orders.length → 8 ≤ s.office.answers.length → arrives s)) ∧
    (∀ a rest, s.office.tx = none → s.office.answers = a :: rest →
      exec .officeTransmission s = .next { s with office := { s.office with answers := rest, tx := some a.frame } }) ∧
    (∀ n rest, s.office.tx = none → s.office.answers = [] → s.notices.queue = n :: rest →
      exec .officeTransmission s = .next { s with office.tx := some n.frame, notices.queue := rest }) ∧
    exec .officeTransmitCompletion s = .next { s with office.tx := none }

/-! ### The orders -/

/-- Orders are performed while the answer list has room (R197): none is while it holds 8; the answer of one that is joins the list with the status byte as
the order left it, and the order leaves the inbox. SET_CLOCK (R200), WASH_NOW (R8), UNPIN_DUTY (R114), CLEAR_FLAGS (R194) and an order of an unknown
code (R199): what each writes, and its answer. SET_PARAMETER (R201): RANGE outside the parameter's range, CONFLICT for equal group tags; otherwise that parameter
alone is set, below reserve is derived again, and the re-run is triggered when allow inversion passes from no to yes. That an order's row leaves the state as it
is while the order inbox is empty is the model's choice (log 2), and that allow inversion takes any value, 1 as yes and any other as no, is read from R209
(log 16). -/
def Obligations.OrdersAreAnsweredInTurn : Prop :=
  (∀ (s : State) (o : Order), s.OrderAt 0x03 o →
      let code := o.byte 0
      let value := numAt o.data 1 4
      let ranged := ∃ lo hi, Params.ranges[code]? = some (lo, hi) ∧ lo ≤ value ∧ value ≤ hi
      let tags := (code = 15 ∧ value = s.params.signalTag) ∨ (code = 16 ∧ value = s.params.detectorTag)
      (o.data.length ≠ 5 ∨ ¬ ranged → exec .setParameter s = .next (s.answer o .range [])) ∧
      (o.data.length = 5 → ranged → tags → exec .setParameter s = .next (s.answer o .conflict [])) ∧
      (o.data.length = 5 → ranged → ¬ tags → ∃ m : Ev, exec .setParameter s = .next (m.settle.toState.answer o .ok []) ∧
        m.params.values = s.params.values.set code (if code = 13 then (if value = 1 then 1 else 0) else value) ∧
        m.fuel.belowReserve = decide (s.freeStock < m.params.reserve) ∧
        (m.rerunDue = true ↔ s.params.allowInversion = false ∧ m.params.allowInversion = true) ∧ m.outs = [] ∧
        s.OnlyChanged m.toState ([.params, .belowReserve] ++ Part.notice))) ∧
  (∀ c ∈ officeOrders, ∀ s : State, s.office.orders = [] ∨ 8 ≤ s.office.answers.length → exec c s = .next s) ∧
  (∀ (s : State) (o : Order) (r : ResultCode) (data : List Byte),
    (s.answer o r data).office.orders = s.office.orders.tail ∧
    (s.answer o r data).office.answers =
      s.office.answers ++ [{ status := s.status, result := r, code := o.code, tag := o.tag, data := data }] ∧
    s.OnlyChanged (s.answer o r data) [.orders, .answers]) ∧
  ∀ (s : State) (o : Order),
    let minute := numAt o.data 0 2
    let second := numAt o.data 2 1
    let i := o.byte 0
    (s.OrderAt 0x02 o → exec .setClock s = .next
      (if o.data.length = 3 ∧ minute ≤ 1439 ∧ second ≤ 59 then
        State.answer { s with clock := { s.clock with valid := true, minute := minute, second := second } } o .ok []
      else s.answer o .range [])) ∧
    (s.OrderAt 0x10 o → exec .washNow s = .next
      (if o.data.length = 1 ∧ (s.bus i).valid = true then
        State.answer { s with gate.buses := tset s.gate.buses i { s.bus i with washNow := true } } o .ok []
      else s.answer o .range [])) ∧
    (s.OrderAt 0x0E o → exec .unpinDuty s = .next
      (if o.data.length = 1 ∧ (s.duty i).valid = true then
        State.answer { s with pullOut.duties := tset s.pullOut.duties i { s.duty i with pin := none } } o .ok []
      else s.answer o .range [])) ∧
    (s.OrderAt 0x1B o → exec .clearFlags s = .next
      (if o.data = [] then State.answer { s with notices.dropped := false } o .ok [] else s.answer o .range [])) ∧
    (∀ code, s.OrderAt code o → code.toNat = 0 ∨ 29 < code.toNat → exec .unknownOrder s = .next (s.answer o .unknown []))

/-- READ STATISTIC (R187): RANGE for a code above 29, and otherwise the counter's value as it stands, in every mode and with no counter changed.
DECREMENT STATISTIC (R188, R189): RANGE likewise; otherwise the counter is lowered by the value, floored at 0, its value after the order is the answer,
and attention is on exactly while some counter holds 2^31 or more. -/
def Obligations.StatisticsAreReadAndLowered : Prop :=
  (∀ (s : State) (o : Order), s.OrderAt 0x19 o → o.data.length = 1 →
    (29 < o.byte 0 → exec .readStatistic s = .next (s.answer o .range [])) ∧
    ∀ c : Counter, c.code = o.byte 0 →
      exec .readStatistic s = .next (s.answer o .ok (byte4 (s.counter c).toNat)) ∧
      beNat (byte4 (s.counter c).toNat) = (s.counter c).toNat ∧
      ∀ t, exec .readStatistic s = .next t → t.counters = s.counters ∧ t.mode = s.mode) ∧
  ∀ (s : State) (o : Order), s.OrderAt 0x1A o → o.data.length = 5 →
    (29 < o.byte 0 → exec .decrementStatistic s = .next (s.answer o .range [])) ∧
    ∀ c : Counter, c.code = o.byte 0 → ∃ t, exec .decrementStatistic s = .next t ∧
      (t.counter c).toNat = (s.counter c).toNat - numAt o.data 1 4 ∧
      t.office.answers = s.office.answers ++ [{ status := t.status, result := .ok, code := o.code, tag := o.tag, data := byte4 (t.counter c).toNat }] ∧
      (t.attention = true ↔ ∃ k : Counter, 2147483648 ≤ (t.counter k).toNat) ∧
      s.OnlyChanged t [.counter c, .orders, .answers]

/-- READ_RECORD, READ_LANE and READ_QUEUE (R43, R199): RANGE outside the lists; otherwise the record, the lane's fields one by one, the total of its entries
or of a queue's, and as many whole entries from the first position on as fit in the payload. Nothing else changes. READ RECORD gives the loaded fields in the
layout in which LOAD RECORDS takes them (R209): read back, the bytes of any record in range spell the same loaded fields, for each of the ten tables. The
places of the live fields in the data are the model's reading (log 15), and so is that READ QUEUE issues nothing (log 28). -/
def Obligations.ReadsAnswerWhatStands : Prop :=
  (∀ (s : State) (i now : Nat),
      ((s.bus i).badFields = false → (busOf ((s.recordBytes .roster i).take 8) now).loaded = (s.bus i).loaded) ∧
      ((s.cls i).length < 256 → (s.cls i).capacity < 65536 → classOf ((s.recordBytes .classes i).take 4) = s.cls i) ∧
      ((s.lane i).badFields = false → (s.lane i).headSignal.node < 256 → (s.lane i).headSignal.output < 256 → (s.lane i).exitLoop < 256 →
        (laneOf ((s.recordBytes .lanes i).take 11)).loaded = (s.lane i).loaded) ∧
      ((s.duty i).code < 65536 → (s.duty i).planned < 65536 → (s.duty i).cls < 256 → (s.duty i).minLevel < 256 →
        (dutyOf ((s.recordBytes .schedule i).take 7)).loaded = (s.duty i).loaded) ∧
      ((s.node i).roleIndex < 256 →
        flagAt (s.recordBytes .nodes i) 0 = (s.node i).valid ∧ roleOf ((s.recordBytes .nodes i).take 3) = (s.node i).role ∧
        numAt (s.recordBytes .nodes i) 2 1 = (s.node i).roleIndex) ∧
      ((s.channel i).node < 256 → (s.channel i).input < 256 → (s.channel i).k < 256 → (s.channel i).hold < 256 →
        (s.channel i).onDelta < 65536 → (s.channel i).offDelta < 65536 →
        ((s.channel i).load ((s.recordBytes .channels i).take 10)).loaded = (s.channel i).loaded) ∧
      ((s.dispenser i).island < 256 → (s.dispenser i).controller < 256 → (s.dispenser i).baySignal.node < 256 →
        (s.dispenser i).baySignal.output < 256 → (s.dispenser i).bayLoop < 256 →
        (dispenserOf ((s.recordBytes .dispensers i).take 7) now).loaded = (s.dispenser i).loaded) ∧
      ((s.washLane i).controller < 256 → (s.washLane i).entrySignal.node < 256 → (s.washLane i).entrySignal.output < 256 →
        (s.washLane i).fullTime < 65536 → (s.washLane i).shortTime < 65536 → (s.washLane i).clearBase < 256 →
        (washLaneOf ((s.recordBytes .washLanes i).take 10) now).loaded = (s.washLane i).loaded) ∧
      flagAt (s.recordBytes .groupHash i) 0 = tget s.field.groupHash i ∧
      (s.params.InRange → paramsOf ((s.recordBytes .parameters i).take 30) = s.params)) ∧
  ∀ (s : State) (o : Order),
    let i := o.byte 1
    (s.OrderAt 0x07 o → o.data.length = 2 →
      (9 < o.byte 0 → exec .readRecord s = .next (s.answer o .range [])) ∧
      ∀ t : Table, t.code = o.byte 0 → exec .readRecord s = .next
        (if t.lowest ≤ i ∧ i < t.limit then s.answer o .ok (s.recordBytes t i) else s.answer o .range [])) ∧
    (s.OrderAt 0x08 o → o.data.length = 2 → 31 < o.byte 0 → exec .readLane s = .next (s.answer o .range [])) ∧
    (s.OrderAt 0x08 o → o.data.length = 2 → o.byte 0 ≤ 31 →
      let lane := s.lane (o.byte 0)
      let num (n : Nat) : Byte := BitVec.ofNat 8 n
      let flag (b : Bool) : Byte := if b then 1 else 0
      let bays : LaneEntry → Nat
        | .bus b => (s.cls (s.bus b).cls).length
        | .placeholder => 2
      let departs : LaneEntry → Nat
        | .bus b => match (s.bus b).boundDuty with | some d => s.plannedS d | none => 1440
        | .placeholder => 1440
      let stands : LaneEntry → List Byte
        | .bus b => [0, num b, num ((s.bus b).fleet / 256), num (s.bus b).fleet]
        | .placeholder => [1, 0, 0, 0]
      let used := (lane.contents.map bays).sum
      let head := if lane.kind = .through then lane.headSignal else lane.entrySignal
      let exitEnd := if lane.kind = .through then lane.exitLoop else lane.entryLoop
      let released : List Byte := match (s.release (o.byte 0)).bind fun r => r.duty with
        | some d => [1, num d, num (s.duty d).state.code]
        | none => [0, 0, 0]
      let entries := (if lane.valid then lane.contents else []).map fun x =>
        stands x ++ [num (bays x), num (departs x / 256), num (departs x)]
      ∀ entry release : Bool,
        (entry = true ↔ lane.valid = true ∧ lane.office = .opened ∧ s.cutOff lane.entrySignal.node = false ∧
          (s.channel lane.entryLoop).state ≠ .faulted) →
        (release = true ↔ lane.valid = true ∧ lane.office ≠ .closed ∧ s.cutOff head.node = false ∧ (s.channel exitEnd).state ≠ .faulted) →
        ∃ k, let carried := ((entries.drop i).take k).flatten
          exec .readLane s = .next (s.answer o .ok
            ([flag lane.valid, num lane.kind.code, num lane.length, num lane.classMask.toNat, num lane.cost, num lane.entrySignal.node,
              num lane.entrySignal.output, num lane.headSignal.node, num lane.headSignal.output, num lane.entryLoop, num lane.exitLoop,
              num lane.office.code, flag lane.uncertain, flag entry, flag release, num used, num (lane.length - used),
              num (s.laneMap.directions.filter fun d => d.lane == o.byte 0).length] ++ released ++
              [num (entries.length / 256), num entries.length] ++ carried)) ∧
          carried.length ≤ 21 ∧ ∀ y, (entries.drop i)[k]? = some y → 21 < carried.length + y.length) ∧
    (s.OrderAt 0x09 o → o.data.length = 3 →
      (4 < o.byte 0 → exec .readQueue s = .next (s.answer o .range [])) ∧
      ∀ entries : List (List Byte),
        (o.byte 0 = 0 ∧ entries = s.fuel.queue.map s.fuelEntryBytes) ∨ (o.byte 0 = 1 ∧ entries = s.wash.queue.map s.washEntryBytes) ∨
          (o.byte 0 = 2 ∧ entries = s.holdList.map s.holdEntryBytes) ∨
          (o.byte 0 = 3 ∧ entries = s.laneMap.directions.map Direction.bytes) ∨
          (o.byte 0 = 4 ∧ entries = s.commands.queue.map CommandEntry.bytes) →
        ∃ k, let carried := ((entries.drop (numAt o.data 1 2)).take k).flatten
          exec .readQueue s = .next (s.answer o .ok (byte2 entries.length ++ carried)) ∧ carried.length ≤ 42 ∧
          ∀ y, (entries.drop (numAt o.data 1 2))[k]? = some y → 42 < carried.length + y.length)

/-- ADD_STOCK and SET_STOCK (R83, R84): the stock added to up to 4,000,000 litres, or set, but never below what is committed; below reserve derived, and
told when it comes on; the answer gives stock, committed and free stock. -/
def Obligations.StockOrdersWriteAndAnswer : Prop :=
  ∀ (s : State) (o : Order),
    let litres := numAt o.data 0 4
    let stocks (c : Instr) (n : Nat) : Prop := ∃ m : Ev,
      exec c s = .next
        (m.toState.answer o .ok (byte4 m.fuel.stock ++ byte4 m.fuel.committed ++ byte4 (m.fuel.stock - m.fuel.committed))) ∧
      m.fuel.stock = n ∧ m.fuel.belowReserve = decide (n - s.fuel.committed < s.params.reserve) ∧
      (s.fuel.belowReserve = false → m.fuel.belowReserve = true →
        m.Told { s.note .stockBelowReserve with value := noteValue (n - s.fuel.committed) }) ∧
      s.OnlyChanged m.toState ([.stock, .belowReserve] ++ Part.notice)
    (s.OrderAt 0x11 o →
      (o.data.length ≠ 4 ∨ 4000000 < litres → exec .addStock s = .next (s.answer o .range [])) ∧
      (o.data.length = 4 → litres ≤ 4000000 → stocks .addStock (min 4000000 (s.fuel.stock + litres)))) ∧
    (s.OrderAt 0x12 o →
      (o.data.length ≠ 4 ∨ 4000000 < litres → exec .setStock s = .next (s.answer o .range [])) ∧
      (o.data.length = 4 → litres ≤ 4000000 → litres < s.fuel.committed → exec .setStock s = .next (s.answer o .conflict [])) ∧
      (o.data.length = 4 → litres ≤ 4000000 → s.fuel.committed ≤ litres → stocks .setStock litres))

/-- OPEN_LOAD and ABANDON_LOAD (R202, R129, R130). An open window refuses another; a table, first or end outside the tables is RANGE; the schedule is refused
while a duty is in release, and opening it unbinds every bus and clears the pins of its range. ABANDON LOAD closes the window with its notice, and a
schedule window's close binds afresh and triggers the pull-out pass. That the notice's value is a free value of table and next index is the model's
(log 9). -/
def Obligations.LoadWindowsOpenAndClose : Prop :=
  ∀ (s : State) (o : Order),
    let first := numAt o.data 1 2
    let stop := numAt o.data 3 2
    let busy := ∃ d, d < 256 ∧ (s.duty d).valid = true ∧
      ((s.duty d).state = .called ∨ (s.duty d).state = .released ∨ (s.duty d).state = .leaving)
    (s.OrderAt 0x04 o → o.data.length = 5 →
      (s.office.window ≠ none → exec .openLoad s = .next (s.answer o .window [])) ∧
      (s.office.window = none → 9 < o.byte 0 → exec .openLoad s = .next (s.answer o .range [])) ∧
      ∀ t : Table, s.office.window = none → t.code = o.byte 0 →
        let window : Window := { table := t, first := first, stop := stop, next := first }
        (stop ≤ first ∨ first < t.lowest ∨ t.limit < stop → exec .openLoad s = .next (s.answer o .range [])) ∧
        (first < stop → t.lowest ≤ first → stop ≤ t.limit →
          (t ≠ .schedule → exec .openLoad s = .next
            (({ s with office.window := some window } : State).begin.settle.toState.answer o .ok [])) ∧
          (t = .schedule → busy → exec .openLoad s = .next (s.answer o .conflict [])) ∧
          (t = .schedule → ¬ busy → s.PullOutSound → ∃ m : Ev, exec .openLoad s = .next (m.settle.toState.answer o .ok []) ∧
            m.office.window = some window ∧ m.outs = [] ∧ (∀ b, b < 256 → m.bus b = { s.bus b with boundDuty := none }) ∧
            (∀ d, d < 256 → m.duty d =
              { s.duty d with
                bus := none
                state := if (s.duty d).state = .bound then .vacant else (s.duty d).state
                pin := if first ≤ d ∧ d < stop then none else (s.duty d).pin }) ∧
            s.OnlyChanged m.toState ([.window] ++ Part.everyBus ++ Part.everyDuty)))) ∧
    (s.OrderAt 0x06 o → o.data.length = 0 →
      (s.office.window = none → exec .abandonLoad s = .next (s.answer o .window [])) ∧
      ∀ w, s.office.window = some w →
        let m : Ev := ({ s with office.window := none } : State).begin.send
          { s.note .loadAbandoned with value := some (Config.loadNoticeValue w.table.code w.next) }
        exec .abandonLoad s = .next
          ((if w.table = .schedule then m.rebind.triggerPull else m).settle.toState.answer o .ok []))

/-- LOAD_RECORDS (R203): WINDOW with no window open, RANGE for data without a count byte, for a length that does not fit, and for a count that is 0 or above 4,
which is read from R199 (log 44). Each record is checked against what the records before it left, and written or refused; that the outcomes a write decides are
delivered before the next record, and the waiver derived once after all, is the model's choice (log 18). The window advances past all, and closes as completed at its end, with its notice, whose value's
layout is free (log 9), and for the schedule with the rebinding pass and the trigger of the pull-out pass (R202, R130). The answer carries the number accepted
and the first refusal. For each of the ten tables: the checks of a record in their order, each with its code (R2, R3, R21, R64, R90, R108, R136, R152, R161,
R201), and what an accepted record writes, with its effects (R5, R180 and the same). That role index 0 is asked of GATE-IN, GATE-OUT and SIGNAL is read from R152
(log 25), that a channel's change goes out by the new use from R136 (log 23), and that a flag byte other than 1 is no, that four bits of a class mask are not
read, and that the head signal and exit loop of a DEAD-END record are not, from R209 (log 16). -/
def Obligations.RecordsAreLoadedOneByOne : Prop :=
  (∀ (s : State) (o : Order), s.OrderAt 0x05 o → o.data = [] → exec .loadRecords s = .next (s.answer o .range [])) ∧
  (∀ (s : State) (o : Order), s.OrderAt 0x05 o → o.data ≠ [] →
    let n := o.byte 0
    (s.office.window = none → exec .loadRecords s = .next (s.answer o .window [])) ∧
    ∀ w, s.office.window = some w →
      let size := w.table.recordSize
      (n < 1 ∨ 4 < n ∨ o.data.length ≠ 1 + n * size ∨ w.stop < w.next + n → exec .loadRecords s = .next (s.answer o .range [])) ∧
      (1 ≤ n → n ≤ 4 → o.data.length = 1 + n * size → w.next + n ≤ w.stop → ∃ (m : Ev) (refusals : List (Nat × ResultCode)),
        Ev.LoadsTo w.table s.begin w.next ((List.range n).map fun k => (o.data.drop (1 + k * size)).take size) m refusals ∧
        exec .loadRecords s = .next
          ((m.advanceWindow w n).settle.toState.answer o ((refusals.map Prod.snd).headD .ok)
            (byte1 (n - refusals.length) ++ (refusals.take 1).flatMap fun x => byte1 x.1 ++ byte1 x.2.code)))) ∧
  (∀ (e : Ev) (w : Window) (n : Nat),
    (w.next + n < w.stop → (e.advanceWindow w n).office.window = some { w with next := w.next + n } ∧
      e.toState.OnlyChanged (e.advanceWindow w n).toState [.window]) ∧
    (w.stop ≤ w.next + n →
      let told : Ev := ({ e with office.window := none } : Ev).send
        { e.note .loadCompleted with value := some (Config.loadNoticeValue w.table.code (w.next + n)) }
      e.advanceWindow w n = if w.table = .schedule then told.rebind.triggerPull else told)) ∧
  (∀ (s : State) (i : Nat) (p : List Byte),
    let v := numAt p
    let valid := flagAt p 0 = true
    let badSignal (k : Nat) : Prop := v k 1 < 1 ∨ 63 < v k 1 ∨ 15 < v (k + 1) 1
    let named := ∃ b, (s.bus b).valid = true ∧ (s.bus b).cls = i
    let bays (x : LaneEntry) : Nat :=
      match x with
      | .bus b => if (s.bus b).cls = i then v 1 1 else s.busLength b
      | .placeholder => 2
    let exitLoop := if v 1 1 = 0 then v 10 1 else v 9 1
    let entry : Signal := { node := v 5 1, output := v 6 1 }
    let head : Signal := if v 1 1 = 0 then { node := v 7 1, output := v 8 1 } else entry
    (i < 256 → answersFirst
      [(valid ∧ (v 1 2 < 1 ∨ 9999 < v 1 2 ∨ v 3 3 < 1 ∨ 16777215 < v 3 3 ∨ 3 < v 6 1 ∨ v 7 1 < 1 ∨ 7 < v 7 1), .range),
       (valid ∧ (s.cls (v 6 1)).valid = false, .range),
       (valid ∧ ∃ j, j ≠ i ∧ (s.bus j).valid = true ∧ (s.bus j).tag = v 3 3, .conflict),
       (s.mode ≠ .configure ∧ (s.bus i).valid = true ∧ (s.bus i).place ≠ .out, .conflict)] (s.checkRecord .roster i p)) ∧
    (i < 4 → answersFirst
      [(v 1 1 < 2 ∨ 4 < v 1 1 ∨ v 2 2 < 100 ∨ 600 < v 2 2, .range), (¬ valid ∧ named, .conflict),
       (s.mode = .run ∧ v 1 1 ≠ (s.cls i).length ∧ named, .conflict),
       (s.mode ≠ .run ∧ v 1 1 ≠ (s.cls i).length ∧ ∃ l, (s.lane l).length < ((s.lane l).contents.map bays).sum, .conflict)]
      (s.checkRecord .classes i p)) ∧
    answersFirst
      [(1 < v 1 1 ∨ v 2 1 < 2 ∨ 60 < v 2 1 ∨ 31 < v 4 1 ∨ badSignal 5 ∨ 79 < v 9 1 ∨ (v 1 1 = 0 ∧ (badSignal 7 ∨ 79 < v 10 1)), .range),
       (valid ∧ v 1 1 = 0 ∧ v 9 1 = v 10 1, .range),
       (valid ∧ ∃ j, j ≠ i ∧ (s.lane j).valid = true ∧ ((s.lane j).usesLoop (v 9 1) = true ∨ (s.lane j).usesLoop exitLoop = true ∨
          (s.lane j).usesSignal entry = true ∨ (s.lane j).usesSignal head = true), .conflict),
       ((s.lane i).contents ≠ [] ∨ (∃ d ∈ s.laneMap.directions, d.lane = i) ∨ s.release i ≠ none, .conflict)] (s.checkRecord .lanes i p) ∧
    answersFirst
      [(v 1 2 < 1 ∨ 1439 < v 3 2 ∨ 3 < v 5 1 ∨ 100 < v 6 1, .range), (valid ∧ (s.cls (v 5 1)).valid = false, .range)]
      (s.checkRecord .schedule i p) ∧
    answersFirst
      [(5 < v 1 1 ∨ (∀ r : Role, r.code = v 1 1 →
          (r = .dispenser ∧ 5 < v 2 1) ∨ (r = .wash ∧ 1 < v 2 1) ∨ (r = .detector ∧ 79 < v 2 1) ∨
            (r ≠ .dispenser ∧ r ≠ .wash ∧ r ≠ .detector ∧ v 2 1 ≠ 0)), .range),
       (valid ∧ ∃ r : Role, r.code = v 1 1 ∧ (r = .dispenser ∨ r = .wash) ∧
          ∃ j, j ≠ i ∧ (s.node j).valid = true ∧ (s.node j).role = r ∧ (s.node j).roleIndex = v 2 1, .conflict),
       ((s.node i).mark = true, .conflict)] (s.checkRecord .nodes i p) ∧
    answersFirst
      [(v 1 1 < 1 ∨ 63 < v 1 1 ∨ 7 < v 2 1 ∨ 4 < v 3 1 ∨ 4 < v 4 1 ∨ v 5 1 < 1 ∨ 8 < v 5 1 ∨ v 6 2 < 1 ∨ 16383 < v 6 2, .range),
       (v 6 2 ≤ v 8 2, .range),
       (valid ∧ ∃ j, j ≠ i ∧ (s.channel j).valid = true ∧ (s.channel j).node = v 1 1 ∧ (s.channel j).input = v 2 1, .conflict)]
      (s.checkRecord .channels i p) ∧
    answersFirst
      [(2 < v 1 1 ∨ v 3 1 < 1 ∨ 63 < v 3 1 ∨ badSignal 4 ∨ 79 < v 6 1, .range),
       ((s.dispenser i).state = .calling ∨ (s.dispenser i).state = .docked ∨ (s.dispenser i).state = .fuelling, .conflict)]
      (s.checkRecord .dispensers i p) ∧
    answersFirst
      [(v 2 1 < 1 ∨ 63 < v 2 1 ∨ badSignal 3 ∨ v 5 2 < 120 ∨ 1200 < v 5 2 ∨ v 7 2 < 60 ∨ 900 < v 7 2 ∨ v 9 1 < 5 ∨ 120 < v 9 1, .range),
       ((s.washLane i).state = .calling ∨ (s.washLane i).state = .washing, .conflict)] (s.checkRecord .washLanes i p) ∧
    answersFirst [(1 < v 0 1, .range)] (s.checkRecord .groupHash i p) ∧
    answersFirst
      [(∃ x ∈ (parameterFields p).zip Params.ranges, x.1 < x.2.1 ∨ x.2.2 < x.1, .range), (v 26 2 = v 28 2, .conflict)]
      (s.checkRecord .parameters i p)) ∧
  ∀ (e : Ev) (i : Nat) (p : List Byte),
    (i < 4 → (e.writeRecord .classes i p).cls i = { valid := flagAt p 0, length := numAt p 1 1, capacity := numAt p 2 2 } ∧
      e.toState.OnlyChanged (e.writeRecord .classes i p).toState [.cls i]) ∧
    (i < 256 → (e.writeRecord .schedule i p).duty i =
        { DutyRec.cold with
          valid := flagAt p 0, code := numAt p 1 2, planned := numAt p 3 2, cls := numAt p 5 1, minLevel := numAt p 6 1 } ∧
      e.toState.OnlyChanged (e.writeRecord .schedule i p).toState [.duty i]) ∧
    (i < 256 → let m := e.writeRecord .roster i p
      m.bus i =
        { BusRec.cold with
          valid := flagAt p 0, fleet := numAt p 1 2, tag := numAt p 3 3, cls := numAt p 6 1, washInterval := numAt p 7 1, lastSeen := e.now } ∧
      ((e.bus i).valid = false → e.toState.OnlyChanged m.toState [.bus i]) ∧
      ((e.bus i).valid = true →
        (e.YardAgrees → m.appears i = []) ∧ (∀ d, d < 256 → (m.duty d).pin ≠ some i) ∧
        (∀ d, d < 256 → (e.bus i).boundDuty = some d → (m.duty d).bus = none) ∧
        ∀ l, l < 32 → (e.bus i).place = .parked l →
          (m.lane l).contents = (e.lane l).contents.filter (fun x => x != .bus i) ∧ (m.lane l).uncertain = true)) ∧
    (∀ k : LaneKind, i < 32 → k.code = numAt p 1 1 →
      let m := e.writeRecord .lanes i p
      m.lane i =
        { valid := flagAt p 0, kind := k, length := numAt p 2 1, classMask := BitVec.ofNat 4 (numAt p 3 1), cost := numAt p 4 1
          entrySignal := { node := numAt p 5 1, output := numAt p 6 1 }, headSignal := { node := numAt p 7 1, output := numAt p 8 1 }
          entryLoop := numAt p 9 1, exitLoop := numAt p 10 1, office := .opened, uncertain := false, contents := [] } ∧
      (e.mode ≠ .configure → m.rerunDue = true) ∧ e.toState.OnlyChanged m.toState [.lane i]) ∧
    (∀ r : Role, 1 ≤ i → i < 64 → r.code = numAt p 1 1 →
      let m := e.writeRecord .nodes i p
      m.node i =
        { valid := flagAt p 0, role := r, roleIndex := numAt p 2 1, score := 0, recovery := 0, mark := (e.node i).mark, shadow := 0 } ∧
      (96 ≤ (e.node i).score → m.Told { e.note .nodeHealth with node := some i, value := noteValue Health.good.code }) ∧
      (flagAt p 0 = false → (e.node i).mark = false →
        (∀ x ∈ m.commands.queue, x.waiting = true → x.destination ≠ i) ∧
        ∀ x ∈ e.commands.queue, x.waiting = true → x.destination = i → ∀ k ∈ x.contributions,
          { contribution := k, kind := x.kind, destination := i, result := .failed } ∈ m.outs) ∧
      e.toState.OnlyChanged m.toState ([.node i, .shadow i, .commandQueue] ++ Part.notice)) ∧
    (∀ u : ChannelUse, i < 80 → u.code = numAt p 3 1 → ∃ m : Ev,
      e.writeRecord .channels i p = m.tellChannel e.toState i false ∧
      (u ≠ .dispenserBay → (e.channel i).state ≠ .faulted → e.writeRecord .channels i p = m) ∧
      m.channel i =
        { valid := flagAt p 0, node := numAt p 1 1, input := numAt p 2 1, use := u, k := numAt p 4 1, hold := numAt p 5 1
          onDelta := numAt p 6 2, offDelta := numAt p 8 2, baseline := none, sum := 0, count := 0, discard := 2
          state := if flagAt p 0 = false ∨ (e.channel i).state = .faulted then .vacant else (e.channel i).state
          candidate := none, run := 0, goodRun := 0 } ∧
      e.toState.OnlyChanged m.toState [.channel i]) ∧
    (i < 6 → ∃ m : Ev,
      e.writeRecord .dispensers i p = (if flagAt p 0 = true then m.enterClearing i else m) ∧
      m.dispenser i =
        { DispenserRec.cold with
          valid := flagAt p 0, island := numAt p 1 1, classMask := BitVec.ofNat 4 (numAt p 2 1), controller := numAt p 3 1
          baySignal := { node := numAt p 4 1, output := numAt p 5 1 }, bayLoop := numAt p 6 1, state := .closed .office
          occupant := none, grant := none, closeAtEnd := false, since := e.now } ∧
      e.toState.OnlyChanged m.toState [.dispenser i]) ∧
    (i < 2 → let m := e.writeRecord .washLanes i p
      m.washLane i =
        { WashLaneRec.cold with
          valid := flagAt p 0, classMask := BitVec.ofNat 4 (numAt p 1 1), controller := numAt p 2 1
          entrySignal := { node := numAt p 3 1, output := numAt p 4 1 }, fullTime := numAt p 5 2, shortTime := numAt p 7 2
          clearBase := numAt p 9 1, state := if flagAt p 0 = true then .ready else .closed, occupant := none, programme := none
          deadline := none, score := 0, pacing := 0, closeAtEnd := false, since := e.now } ∧
      (flagAt p 0 = true → m.washDue = true) ∧
      (32 ≤ (e.washLane i).score → m.Told { e.note .washGrade with washLane := some i, value := noteValue Grade.normal.code }) ∧
      e.toState.OnlyChanged m.toState ([.washLane i] ++ Part.notice)) ∧
    (i < 64 → let m := e.writeRecord .groupHash i p
      tget m.field.groupHash i = flagAt p 0 ∧ (∀ j, j ≠ i → tget m.field.groupHash j = tget e.field.groupHash j) ∧
      e.toState.OnlyChanged m.toState [.groupHash]) ∧
    (let m := e.writeRecord .parameters i p
    m.params.values = (parameterFields p).set 13 (if numAt p 23 1 = 1 then 1 else 0) ∧
      m.fuel.belowReserve = decide (e.freeStock < numAt p 6 4) ∧
      (e.fuel.belowReserve = false → m.fuel.belowReserve = true →
        m.Told { e.note .stockBelowReserve with value := noteValue e.freeStock }) ∧
      (e.params.allowInversion = false → numAt p 23 1 = 1 → m.rerunDue = true) ∧
      e.toState.OnlyChanged m.toState ([.params, .belowReserve] ++ Part.notice))

/-- SET_MODE and MODE_CHANGE_TAKES_EFFECT (R204 to R206, R175, R182). An unknown mode is RANGE, and DOZE is refused while its test fails; from RUN and
SHADOW another mode becomes pending and the current one cancels it; from CONFIGURE and DOZE it is entered at once. The command of a change that still stands
(log 11) or stands no more (log 2) is the model's choice. A pending mode is entered at the empty command queue, but for a DOZE whose test fails then, which is
dropped. What entering each mode does: the notice; in DOZE the mode it was entered from (log 4) and the timers that ran out in CONFIGURE are held (log 31); in
SHADOW, from DOZE, what stands in the command queue is completed as R181 completes requests there, its outcomes decided and nothing left queued (log 32); in RUN
and SHADOW the channels restart from CONFIGURE and DOZE (R141), RUN stops every signal (R175), what ran out in CONFIGURE is taken in its order (log 14), and every
pass is triggered; CONFIGURE ends directions, holds, turns, calls, releases and commands, abandons a schedule window, and restarts no channel, from DOZE too
(log 43). The order of an entry's changes is the model's choice (log 26): the notice first, then channels, ALL STOP, overdue timeouts and the triggers last. What an
overdue timeout decides is delivered before the next is taken (log 29). A "would send" notice precedes what its done outcome sends (log 47). -/
def Obligations.ModesChange : Prop :=
  (∀ s : State,
    let mayDoze := s.fuel.queue = [] ∧ s.wash.queue = [] ∧ s.holdList = [] ∧ s.laneMap.directions = [] ∧ ∀ l, l < 32 → s.release l = none
    let entered (m : Mode) : Ev := ({ s with office.pendingMode := none } : State).begin.turnTo m
    (∀ o, s.OrderAt 0x01 o →
      (o.data.length ≠ 1 ∨ 3 < o.byte 0 → exec .setMode s = .next (s.answer o .range [])) ∧
      ∀ m : Mode, o.data.length = 1 → m.code = o.byte 0 →
        let refused := m = .doze ∧ s.mode ≠ .doze ∧ ¬ mayDoze
        let becomes (e : Ev) : Prop := exec .setMode s = .next (e.settle.toState.answer o .ok [])
        (refused → exec .setMode s = .next (s.answer o .conflict [])) ∧
        (m = s.mode → s.changePending = false ∨ s.mode = .configure ∨ s.mode = .doze → becomes s.begin) ∧
        (m = s.mode → s.changePending = true → s.mode = .run ∨ s.mode = .shadow →
          becomes ({ s with office.pendingMode := none } : State).begin.triggerAll) ∧
        (¬ refused → m ≠ s.mode → s.mode = .run ∨ s.mode = .shadow → becomes ({ s with office.pendingMode := some m } : State).begin) ∧
        (¬ refused → m ≠ s.mode → s.mode = .configure ∨ s.mode = .doze → becomes (entered m))) ∧
    (∀ m, s.office.pendingMode = some m → s.commands.queue = [] →
      (m = .doze → ¬ mayDoze → exec .modeChangeTakesEffect s = .next
        (({ s with office.pendingMode := none } : State).begin.triggerAll.send (s.note .modeChangeDropped)).settle.toState) ∧
      (m ≠ .doze ∨ mayDoze → exec .modeChangeTakesEffect s = .next (entered m).settle.toState)) ∧
    (s.office.pendingMode = none ∨ s.commands.queue ≠ [] → exec .modeChangeTakesEffect s = .next s)) ∧
  (∀ (e : Ev) (m : Mode),
    let ranOut (t : Timer) : Prop :=
      match t with
      | .leaving b seen => b < 256 ∧ (e.bus b).valid = true ∧ (e.bus b).place = .leaving ∧ (e.bus b).lastSeen = seen ∧
          e.params.leavingTimeout < e.now - seen
      | .docking d since => d < 6 ∧ (e.dispenser d).state = .docked ∧ (e.dispenser d).grant = none ∧ (e.dispenser d).since = since ∧
          since + e.params.dockingTimeout ≤ e.now
      | .cycle w stop => w < 2 ∧ (e.washLane w).state = .washing ∧ (e.washLane w).deadline = some stop ∧ stop ≤ e.now
      | .clearing w stop => w < 2 ∧ (e.washLane w).state = .clearing ∧ (e.washLane w).deadline = some stop ∧ stop ≤ e.now
    let late := e.mode = .configure ∨ (e.mode = .doze ∧ e.office.dozeFrom = some .configure)
    let stops := m = .run ∧ (late ∨ e.mode = .shadow ∨ (e.mode = .doze ∧ e.office.dozeFrom = some .shadow))
    let restarts := e.mode = .configure ∨ e.mode = .doze
    ∃ k : Ev, k.mode = m ∧ k.office.dozeFrom = (if m = .doze then some e.mode else e.office.dozeFrom) ∧
      (∀ t, t ∈ k.office.overdue ↔ m = .doze ∧ e.mode = .configure ∧ ranOut t) ∧
      k.Told { e.note .modeChanged with value := noteValue m.code } ∧
      e.toState.OnlyChanged k.toState ([.mode, .dozeFrom, .overdue] ++ Part.notice) ∧
      (m = .doze → e.turnTo m = k) ∧ (m = .configure → e.turnTo m = k.enterConfigure) ∧
      let h := if m = .shadow ∧ e.mode = .doze then k.finishInShadow else k
      (m = .run ∨ m = .shadow → ∃ j : Ev,
        (late → e.turnTo m = Ev.triggerAll { j.takeOverdue with entered := true }) ∧
        (¬ late → e.turnTo m = Ev.triggerAll { j with entered := true }) ∧
        (restarts → ∀ c, c < 80 → j.channel c =
          let r := e.channel c
          let r : ChannelRec := { r with sum := 0, count := 0, discard := 2, candidate := none, run := 0 }
          if r.state = .faulted then { r with state := .vacant, goodRun := 0 } else r) ∧
        (stops → (∀ n, (j.node n).shadow = 0) ∧ j.Placed e.params.signalTag .allStop { purpose := .allStop, outputs := 0 }) ∧
        (¬ restarts → ¬ stops → j = h) ∧
        (¬ restarts → stops → h.toState.OnlyChanged j.toState ([.commandQueue, .serial] ++ Part.everyShadow ++ Part.notice)) ∧
        (restarts → ¬ stops → h.toState.OnlyChanged j.toState (Part.everyChannel ++ Part.everyDispenser)) ∧
        h.toState.OnlyChanged j.toState
          ([.commandQueue, .serial] ++ Part.everyShadow ++ Part.everyChannel ++ Part.everyDispenser ++ Part.notice))) ∧
  (∀ e : Ev,
    let m := e.finishInShadow
    let cut (n : Nat) : Prop := e.cutOff n = true ∨ (e.node n).valid = false
    let aspects (n : Nat) : List (CommandKind × Word16) := e.commands.queue.flatMap fun x =>
      if x.destination = n then x.contributions.map fun c => (x.kind, c.outputs) else []
    m.commands.queue = [] ∧ m.commands.tx = e.commands.tx ∧
    m.outs = e.outs ++ (e.commands.queue.flatMap fun x => x.contributions.map fun c =>
      { contribution := c, kind := x.kind, destination := x.destination
        result := if x.destination < 64 ∧ cut x.destination then .failed else .done }) ∧
    (∀ n, 1 ≤ n → n < 64 →
      m.node n = { e.node n with mark := false, shadow := (m.node n).shadow } ∧
      ((e.node n).role ≠ .signal ∨ cut n → (m.node n).shadow = (e.node n).shadow) ∧
      ((e.node n).role = .signal → ¬ cut n → (m.node n).shadow = (aspects n).foldl (fun v a =>
        if a.1 = .aspectSet then v ||| a.2 else if a.1 = .aspectClear then v &&& ~~~a.2 else v) (e.node n).shadow)) ∧
    (∀ x ∈ e.commands.queue, x.contributions ≠ [] → 64 ≤ x.destination ∨ ¬ cut x.destination → m.Told
      { e.note .wouldSend with
        node := if x.destination < 64 then some x.destination else none, value := noteValue x.kind.code.toNat }) ∧
    e.toState.OnlyChanged m.toState ([.commandQueue] ++ Part.everyNode ++ Part.everyShadow ++ Part.notice)) ∧
  (∀ e : Ev,
    let take (due : Ev → Nat → Bool) (act : Ev → Nat → Ev) (ids : List Nat) (k : Ev) : Ev :=
      ids.foldl (fun k i => if due k i = true then (act k i).drain else k) k
    let a := take (fun k b => k.leavingDue b) Ev.leavingExpires (List.range 256) e
    let b := take (fun k d => k.callDue d) Ev.callTimedOut (List.range 6) a
    let c := take (fun k d => k.dockingDue d) Ev.dockingTimedOut (List.range 6) b
    let d := take (fun k b => k.deferralDue b) Ev.deferralEnds (c.fuel.queue.map fun x => x.bus) c
    let f := take (fun k w => k.washCallDue w) Ev.washCallTimedOut (List.range 2) d
    let g := take (fun k w => k.cycleDue w) (fun k w => k.washAbort w .timeout) (List.range 2) f
    e.takeOverdue = take (fun k w => k.clearingDue w) Ev.washCleared (List.range 2) g) ∧
  (∀ (s : State) (i : Nat), s.mode = .run ∨ s.mode = .shadow → s.office.overdue = [] →
    let takes (c : Instr) (due : Bool) (e : Ev) : Prop := exec c s = .next (if due = true then e.settle.toState else s)
    takes (.leavingTimeout i) (s.leavingDue i) (s.begin.leavingExpires i) ∧ takes (.callTimeout i) (s.callDue i) (s.begin.callTimedOut i) ∧
    takes (.dockingTimeout i) (s.dockingDue i) (s.begin.dockingTimedOut i) ∧
    takes (.deferralEnd i) (s.deferralDue i) (s.begin.deferralEnds i) ∧
    takes (.washCallTimeout i) (s.washCallDue i) (s.begin.washCallTimedOut i) ∧
    takes (.cycleDeadline i) (s.cycleDue i) (s.begin.washAbort i .timeout) ∧
    takes (.endOfClearing i) (s.clearingDue i) (s.begin.washCleared i)) ∧
  ∀ k : Ev, k.mode = .configure →
    let e := k.enterConfigure
    e.commands.queue = [] ∧ e.laneMap.directions = [] ∧ (∀ l, e.release l = none) ∧ e.fuel.committed = 0 ∧
    e.fuel.stock = k.fuel.stock ∧
    (∀ n, 1 ≤ n → n < 64 → (e.node n).score = 0 ∧ (e.node n).recovery = 0 ∧ (e.node n).mark = false) ∧
    (k.YardAgrees → ∀ b, b < 256 → b ∈ k.holdList ∨ (∃ d ∈ k.laneMap.directions, d.bus = b) →
      (e.bus b).place = .lost ∧ b ∉ e.holdList) ∧
    (∀ d, d < 6 →
      let r := k.dispenser d
      e.dispenser d =
        match r.state with
        | .calling => { r with state := .free, since := k.now, occupant := none }
        | .docked => if r.grant = none then r else { r with grant := none, since := k.now }
        | .fuelling => { r with state := .docked, grant := none, since := k.now }
        | .free | .clearing | .closed _ => r) ∧
    (∀ w, w < 2 →
      let r := k.washLane w
      e.washLane w =
        if r.state = .calling then
          { r with
            occupant := none, programme := none, closeAtEnd := false, state := if r.closeAtEnd = true then .closed else .ready, since := k.now }
        else r) ∧
    (∀ d, d < 256 → (e.duty d).state ≠ .called ∧ (e.duty d).state ≠ .released) ∧
    e.channels = k.channels ∧
    e.office.window = if k.scheduleWindow = true then none else k.office.window

/-- SET_LANE_STATE, PLACE_BUS and REMOVE_BUS (R40 to R42): the checks in their order, and what each writes. That an office state above 2 is RANGE is the model's
choice (log 39), and that any placeholder byte but 0 places a placeholder is read from R209 (log 16). -/
def Obligations.OfficeCorrectsLanes : Prop :=
  ∀ (s : State) (o : Order),
    let l := o.byte 0
    let lane := s.lane l
    (s.OrderAt 0x0C o →
      (o.data.length ≠ 2 ∨ 2 < o.byte 1 ∨ lane.valid = false → exec .setLaneState s = .next (s.answer o .range [])) ∧
      ∀ st : OfficeState, l < 32 → o.data.length = 2 → st.code = o.byte 1 → lane.valid = true →
        ∃ m : Ev, exec .setLaneState s = .next (m.settle.toState.answer o .ok []) ∧ m.outs = [] ∧
          m.lane l = { lane with office := st, uncertain := false } ∧ s.OnlyChanged m.toState [.lane l] ∧
          (m.rerunDue = true ↔ s.entryAllowed l = false ∧ m.entryAllowed l = true) ∧
          (m.pullDue = true ↔ s.releaseAllowed l ≠ m.releaseAllowed l)) ∧
    (s.OrderAt 0x0A o → l < 32 →
      let b := o.byte 3
      let bus := o.byte 2 = 0
      let x : LaneEntry := if bus then .bus b else .placeholder
      let length := if bus then (s.cls (s.bus b).cls).length else 2
      let at_ := min (o.byte 1) lane.contents.length
      let range := o.data.length ≠ 4 ∨ lane.valid = false ∨ (bus ∧ (s.bus b).valid = false)
      let conflict := (bus ∧ (s.bus b).place ≠ .out ∧ (s.bus b).place ≠ .lost ∧ (s.bus b).place ≠ .hold) ∨
        s.freeBays l < length ∨ (s.release l ≠ none ∧ at_ = 0)
      (range → exec .placeBus s = .next (s.answer o .range [])) ∧
      (¬ range → conflict → exec .placeBus s = .next (s.answer o .conflict [])) ∧
      (¬ range → ¬ conflict → ∃ m : Ev, exec .placeBus s = .next (m.settle.toState.answer o .ok []) ∧ m.outs = [] ∧
        m.lane l = { lane with contents := lane.contents.take at_ ++ x :: lane.contents.drop at_, uncertain := false } ∧
        (bus → b < 256 → m.bus b = { s.bus b with place := .parked l, lastSeen := s.now } ∧
          m.holdList = (if (s.bus b).place = .hold then s.holdList.filter (fun y => y != b) else s.holdList) ∧
          s.OnlyChanged m.toState [.lane l, .bus b, .holdList]) ∧
        (¬ bus → s.OnlyChanged m.toState [.lane l]))) ∧
    (s.OrderAt 0x0B o → l < 32 →
      let i := o.byte 1
      let range := o.data.length ≠ 2 ∨ lane.valid = false ∨ lane.contents.length ≤ i
      let conflict := ∃ r d b, s.release l = some r ∧ r.duty = some d ∧ (s.duty d).bus = some b ∧ lane.contents[i]? = some (.bus b)
      (range → exec .removeBus s = .next (s.answer o .range [])) ∧
      (¬ range → conflict → exec .removeBus s = .next (s.answer o .conflict [])) ∧
      (¬ range → ¬ conflict → ∃ m : Ev, exec .removeBus s = .next (m.settle.toState.answer o .ok []) ∧ m.outs = [] ∧ m.rerunDue = true ∧
        m.lane l = { lane with contents := lane.contents.take i ++ lane.contents.drop (i + 1), uncertain := false } ∧
        (lane.contents[i]? = some .placeholder → s.OnlyChanged m.toState [.lane l]) ∧
        ∀ b, b < 256 → lane.contents[i]? = some (.bus b) →
          m.bus b = { s.bus b with place := .lost, lastSeen := s.now } ∧ s.OnlyChanged m.toState [.lane l, .bus b]))

/-- PIN_DUTY and CANCEL_DUTY (R113, R114), of bindings that agree: the checks in their order, and whom each binds and frees. -/
def Obligations.OfficePinsAndCancelsDuties : Prop :=
  ∀ (s : State) (o : Order), s.PullOutSound →
    let d := o.byte 0
    let b := o.byte 1
    let settled := (s.duty d).state = .vacant ∨ (s.duty d).state = .bound
    (s.OrderAt 0x0D o → d < 256 → b < 256 →
      let range := o.data.length ≠ 2 ∨ (s.duty d).valid = false ∨ (s.bus b).valid = false
      let conflict := ¬ settled ∨ (s.bus b).cls ≠ (s.duty d).cls ∨ ∃ f, (s.bus b).boundDuty = some f ∧
        ((s.duty f).state = .called ∨ (s.duty f).state = .released ∨ (s.duty f).state = .leaving)
      (range → exec .pinDuty s = .next (s.answer o .range [])) ∧
      (¬ range → s.scheduleWindow = true → exec .pinDuty s = .next (s.answer o .window [])) ∧
      (¬ range → s.scheduleWindow = false → conflict → exec .pinDuty s = .next (s.answer o .conflict [])) ∧
      (¬ range → s.scheduleWindow = false → ¬ conflict →
        ∃ m : Ev, exec .pinDuty s = .next (m.settle.toState.answer o .ok []) ∧ m.outs = [] ∧
          m.duty d = { s.duty d with bus := some b, state := .bound, pin := some b } ∧ m.bus b = { s.bus b with boundDuty := some d } ∧
          (∀ x, x < 256 → x ≠ b → (s.duty d).bus = some x → m.bus x = { s.bus x with boundDuty := none }) ∧
          (∀ f, f < 256 → f ≠ d → (s.bus b).boundDuty = some f → m.duty f = { s.duty f with bus := none, state := .vacant }) ∧
          s.OnlyChanged m.toState
            ([.duty d, .bus b] ++ (s.duty d).bus.toList.map Part.bus ++ (s.bus b).boundDuty.toList.map Part.duty))) ∧
    (s.OrderAt 0x0F o → d < 256 →
      let range := o.data.length ≠ 1 ∨ (s.duty d).valid = false
      (range → exec .cancelDuty s = .next (s.answer o .range [])) ∧
      (¬ range → s.scheduleWindow = true → exec .cancelDuty s = .next (s.answer o .window [])) ∧
      (¬ range → s.scheduleWindow = false → ¬ settled → exec .cancelDuty s = .next (s.answer o .conflict [])) ∧
      (¬ range → s.scheduleWindow = false → settled →
        ∃ m : Ev, exec .cancelDuty s = .next (m.settle.toState.answer o .ok []) ∧ m.outs = [] ∧
          m.duty d = { s.duty d with bus := none, state := .cancelled } ∧
          (∀ x, x < 256 → (s.duty d).bus = some x → m.bus x = { s.bus x with boundDuty := none }) ∧
          s.OnlyChanged m.toState ([.duty d] ++ (s.duty d).bus.toList.map Part.bus)))

/-- CLOSE_WASH_LANE and REOPEN_WASH_LANE (R104, R105): RANGE for a lane that is not valid, and otherwise what each does by the lane's state. That CLOSE_WASH_LANE
leaves close at end as it was in a lane that it closes is the model's choice (log 51). -/
def Obligations.OfficeClosesAndReopensWashLanes : Prop :=
  ∀ (s : State) (o : Order), o.data.length = 1 →
    let w := o.byte 0
    let lane := s.washLane w
    (s.OrderAt 0x14 o →
      let becomes (r : WashLaneRec) : Prop := exec .closeWashLane s = .next
        (({ s with wash.lanes := tset s.wash.lanes w r } : State).begin.settle.toState.answer o .ok [])
      (lane.valid = false → exec .closeWashLane s = .next (s.answer o .range [])) ∧
      (lane.valid = true →
        (lane.state = .ready ∨ lane.state = .clearing ∨ lane.state = .faulted →
          becomes { lane with state := .closed, deadline := none, since := s.now }) ∧
        (lane.state = .closed → exec .closeWashLane s = .next (s.begin.settle.toState.answer o .ok [])) ∧
        (lane.state = .calling ∨ lane.state = .washing → becomes { lane with closeAtEnd := true }))) ∧
    (s.OrderAt 0x13 o →
      (lane.valid = false → exec .reopenWashLane s = .next (s.answer o .range [])) ∧
      (w < 2 → lane.valid = true → ∃ m : Ev, exec .reopenWashLane s = .next (m.settle.toState.answer o .ok []) ∧ m.outs = [] ∧
        (lane.state = .closed ∨ lane.state = .faulted → m.washDue = true ∧
          m.washLane w = { lane with score := 0, pacing := 0, closeAtEnd := false, state := .ready, deadline := none, since := s.now }) ∧
        (lane.state ≠ .closed → lane.state ≠ .faulted → m.washLane w = { lane with score := 0, pacing := 0, closeAtEnd := false }) ∧
        (lane.grade ≠ .normal → m.Told { s.note .washGrade with washLane := some w, value := noteValue Grade.normal.code }) ∧
        s.OnlyChanged m.toState ([.washLane w] ++ Part.notice)))

/-- ABORT_COMMANDS (R176): every entry that waits leaves the queue, each of its contributions aborted, and the answer gives their number. FORWARD (R161 to
R163): the checks in their order, BUSY at a full command queue, and otherwise one command of the office placed. That the command queue's refusal counts
as a failed outcome and sends no notice is the model's reading (log 17). -/
def Obligations.OfficeAbortsAndForwards : Prop :=
  ∀ (s : State) (o : Order),
    (s.OrderAt 0x18 o → o.data = [] → ∃ m : Ev,
      exec .abortCommands s = .next
        (m.settle.toState.answer o .ok (byte1 (s.commands.queue.filter fun x => x.waiting).length)) ∧
      m.commands.queue = s.commands.queue.filter (fun x => !x.waiting) ∧
      m.outs = (s.commands.queue.filter fun x => x.waiting).flatMap (fun x => x.contributions.map fun c =>
        { contribution := c, kind := x.kind, destination := x.destination, result := .aborted }) ∧
      s.OnlyChanged m.toState [.commandQueue]) ∧
    (s.OrderAt 0x1D o → 3 ≤ o.data.length →
      let g := numAt o.data 0 2
      let kind : Byte := BitVec.ofNat 8 (o.byte 2)
      let payload := o.data.drop 3
      let answers (r : ResultCode) : Prop := exec .forward s = .next (s.answer o r [])
      let range := g = 0 ∨ (g < 64 ∧ (s.node g).valid = false) ∨ 48 < payload.length
      let mode := s.mode = .configure ∨ s.changePending = true
      let conflict := (0x20 ≤ kind.toNat ∧ kind.toNat ≤ 0x26) ∨ (g < 64 ∧ s.cutOff g = true) ∨
        (64 ≤ g ∧ tget s.field.groupHash (Nat.xor (Nat.xor (g % 64) (g / 64 % 64)) (g / 4096)) = false)
      let full := s.mode ≠ .shadow ∧ 24 ≤ s.commands.queue.length
      (range → answers .range) ∧ (¬ range → mode → answers .mode) ∧ (¬ range → ¬ mode → conflict → answers .conflict) ∧
      (¬ range → ¬ mode → ¬ conflict → full →
        exec .forward s = .next ((s.begin.count .commandFailures).toState.answer o .busy [])) ∧
      (¬ range → ¬ mode → ¬ conflict → ¬ full → ∃ m : Ev,
        exec .forward s = .next (m.settle.toState.answer o .ok []) ∧
        m.Placed g (.forwarded kind payload) { purpose := .forward, outputs := 0 } ∧
        s.OnlyChanged m.toState (Part.request g)))

/-- RESTART (R207, R33, R87, R107, R134, R141, R164, R175, R183, R190), step by step: orders, answers, notices and a pending change are gone; an open window
closes as abandoned, with its notice, whose value is a free value of the table and the next index (log 9), and, for the schedule, its passes (R202, R130); the command queue and every mark are cleared without an outcome, every
shadow is off, and ALL STOP is queued in RUN and DOZE; the inbox is gone; the buses of the cancelled directions go to the tail of the hold list; no release,
call or grant is left; the channels are restarted; the triggers are given once, after all of it, and the restart is told. The mode, the clock, the parameters,
the tables, the stock, the scores and recovery runs of the nodes and the counters are kept, but for what the skips of returned buses and lost notices count.
The grants before it are held only in DOCKED and FUELLING (R65, R74). A bus called to a dispenser or a wash lane goes back to the head of its queue. That the
mode DOZE was entered from is kept (log 4), and the timers held in DOZE (log 31), and the order of the blocks' changes, wash lane 0 before lane 1 among them
(log 26), and that "restarted" precedes what the waiver and the passes send (log 29), are the model's choices. -/
def Obligations.RestartSettlesEveryBlock : Prop :=
  (∀ (s : State) (o : Order), s.OrderAt 0x1C o → o.data = [] →
    (∀ q, exec .restart { s with notices.queue := q } = exec .restart s) ∧
    let emptied : Ev :=
      State.begin { s with office := { s.office with orders := [], answers := [], pendingMode := none }, notices.queue := [] }
    ∃ k m : Ev,
      (s.office.window = none → k = emptied) ∧
      (∀ w, s.office.window = some w →
        let told : Ev := ({ emptied with office.window := none } : Ev).send
          { s.note .loadAbandoned with value := some (Config.loadNoticeValue w.table.code w.next) }
        k = if w.table = .schedule then told.rebind.triggerPull else told) ∧
      m = ((k.restartCommands.restartField.cancelDirections.settleFuel.settleWash.clearReleases.restartChannels).restartTriggers).send
        (s.note .restarted) ∧
      exec .restart s = .next (m.settle.toState.answer o .ok []) ∧
      m.office.orders = [] ∧ m.office.answers = [] ∧ m.office.window = none ∧ m.office.pendingMode = none ∧ m.mode = s.mode ∧
      m.office.dozeFrom = s.office.dozeFrom ∧ m.office.overdue = s.office.overdue ∧ m.office.tx = s.office.tx ∧
      m.commands.tx = s.commands.tx ∧ m.field.inbox = [] ∧ m.field.quietTimer = none ∧ m.field.groupHash = s.field.groupHash ∧
      (∀ l, m.release l = none) ∧ m.fuel.committed = 0 ∧ m.fuel.stock = s.fuel.stock ∧
      (∀ d, d < 6 → (s.StockSound → (m.dispenser d).grant = none) ∧ (m.dispenser d).state ≠ .calling ∧ (m.dispenser d).state ≠ .fuelling) ∧
      (∀ w, w < 2 → (m.washLane w).state ≠ .calling) ∧
      (∀ d, d < 256 → (m.duty d).state ≠ .called ∧ (m.duty d).state ≠ .released) ∧
      (∀ n, 1 ≤ n → n < 64 → (m.node n).mark = false ∧ (m.node n).score = (s.node n).score ∧ (m.node n).recovery = (s.node n).recovery) ∧
      (∀ c, c ≠ .fuelSkipped → c ≠ .washSkipped → c ≠ .noticesDropped → m.counter c = s.counter c) ∧
      (∀ x ∈ s.commands.queue, x.id < s.serial → ∀ y ∈ m.commands.queue, y.id ≠ x.id) ∧
      (s.mode = .shadow ∨ s.mode = .configure → m.commands.queue = []) ∧
      (s.mode ≠ .shadow → ∀ n, (m.node n).shadow = 0) ∧
      (s.mode = .run ∨ s.mode = .doze → m.Placed s.params.signalTag .allStop { purpose := .allStop, outputs := 0 }) ∧
      (s.YardAgrees → (∃ added, m.holdList = s.holdList ++ s.laneMap.directions.map (fun d => d.bus) ++ added) ∧
        ∀ d ∈ s.laneMap.directions, (m.bus d.bus).place = .hold) ∧
      (∀ c, c < 80 → (m.channel c).sum = 0 ∧ (m.channel c).count = 0 ∧ (m.channel c).discard = 2 ∧ (m.channel c).candidate = none ∧
        (m.channel c).run = 0 ∧ (m.channel c).baseline = (s.channel c).baseline ∧
        (m.channel c).state = if (s.channel c).state = .faulted then .vacant else (s.channel c).state) ∧
      m.Told (s.note .restarted) ∧ m.clock = s.clock ∧ m.params = s.params ∧ m.tables = s.tables) ∧
  ∀ e : Ev,
    (let m := e.restartCommands
    (∀ n, m.node n = { e.node n with mark := false, shadow := 0 }) ∧
      (e.mode = .shadow ∨ e.mode = .configure → m.commands.queue = [] ∧ m.outs = e.outs) ∧
      (64 ≤ e.params.signalTag → e.mode = .run ∨ e.mode = .doze → m.commands.queue =
        [{ id := e.serial, kind := .allStop, destination := e.params.signalTag, contributions := [{ purpose := .allStop, outputs := 0 }]
           attempts := 0, state := .waiting }] ∧ m.outs = e.outs) ∧
      (64 ≤ e.params.signalTag → e.toState.OnlyChanged m.toState ([.commandQueue, .serial] ++ Part.everyNode ++ Part.everyShadow))) ∧
    e.restartField = { e with field := { e.field with inbox := [], quietTimer := none } } ∧
    (let m := e.cancelDirections
    m.outs = e.outs ∧ m.laneMap.directions = [] ∧ m.holdList = e.holdList ++ e.laneMap.directions.map (fun d => d.bus) ∧
      (∀ d ∈ e.laneMap.directions, d.bus < 256 → m.bus d.bus = { e.bus d.bus with place := .hold, lastSeen := e.now }) ∧
      e.toState.OnlyChanged m.toState ([.directions, .holdList] ++ e.laneMap.directions.map fun d => .bus d.bus)) ∧
    e.settleFuel = Ev.deriveReserve { (List.range 6).foldl Ev.settleDispenser e with fuel.committed := 0 } ∧
    e.settleWash = (e.settleWashLane 0).settleWashLane 1 ∧
    (∀ d o, d < 6 → (e.dispenser d).state = .calling → (e.dispenser d).occupant = some o → ∃ m : Ev,
      e.settleDispenser d = m.joinFuel
        { bus := o.bus, priority := o.priority, enqueuedAt := o.enqueuedAt, misses := o.misses, turnsLeft := 0, deadline := none,
          front := true } ∧
      m.dispenser d = { e.dispenser d with state := .free, since := e.now, occupant := none } ∧ m.fuelDue = true ∧
      e.toState.OnlyChanged m.toState [.dispenser d]) ∧
    (∀ d, d < 6 → (e.dispenser d).state = .fuelling ∨ ((e.dispenser d).state = .docked ∧ (e.dispenser d).grant ≠ none) →
      (e.settleDispenser d).dispenser d = { e.dispenser d with state := .docked, since := e.now, grant := none } ∧
      e.toState.OnlyChanged (e.settleDispenser d).toState [.dispenser d]) ∧
    (∀ w x, w < 2 → (e.washLane w).state = .calling → (e.washLane w).occupant = some x → ∃ m : Ev,
      e.settleWashLane w = m.returnWash x true false ∧
      m.washLane w =
        { e.washLane w with
          occupant := none, programme := none, closeAtEnd := false
          state := if (e.washLane w).closeAtEnd = true then .closed else .ready, since := e.now } ∧
      e.toState.OnlyChanged m.toState [.washLane w]) ∧
    (∀ w, w < 2 → (e.washLane w).state ≠ .calling → e.settleWashLane w = e) ∧
    (let m := e.clearReleases
    (∀ l, m.release l = none) ∧
      (∀ d, m.duty d =
        if (e.duty d).state = .called ∨ (e.duty d).state = .released then { e.duty d with state := .bound, releaseLane := none }
        else e.duty d) ∧
      e.toState.OnlyChanged m.toState (Part.everyDuty ++ (List.range 32).map .release)) ∧
    e.restartChannels = (List.range 80).foldl Ev.restartChannel e ∧
    (∀ c, c < 80 → ∃ k : Ev, e.restartChannel c = k.tellChannel e.toState c false ∧
      k.channel c =
        { e.channel c with
          sum := 0, count := 0, discard := 2, candidate := none, run := 0
          state := if (e.channel c).state = .faulted then .vacant else (e.channel c).state
          goodRun := if (e.channel c).state = .faulted then 0 else (e.channel c).goodRun } ∧
      e.toState.OnlyChanged k.toState [.channel c]) ∧
    e.restartTriggers.toState = e.toState ∧ e.restartTriggers.fuelDue = true ∧ e.restartTriggers.washDue = true ∧
    e.restartTriggers.pullDue = true ∧ (e.restartTriggers.rerunDue = true ↔ e.mode = .run ∨ e.mode = .shadow)
end

