-- ==== Sys2Proof/Laws/Tables.lean ====
section
/-! SUPPORT. The laws of tables and lists: reading after writing, and what the list operations leave of lengths and members. -/

namespace Sys2Proof.Machine

/-! ### Tables -/

/-- Reading a table after one record was written. -/
theorem tget_tset {α : Type} {n : Nat} [Inhabited α] (v : Vector α n) (i j : Nat) (a : α) :
    tget (tset v i a) j = if i = j ∧ j < n then a else tget v j := by
  unfold tget tset
  by_cases hj : j < n
  · by_cases hij : i = j <;> simp [hj, hij]
  · simp [hj]

/-- The record just written is read back. -/
theorem tget_tset_same {α : Type} {n : Nat} [Inhabited α] (v : Vector α n) {i : Nat} (a : α) (h : i < n) :
    tget (tset v i a) i = a := by
  simp [tget_tset, h]

/-- Every other record is as it was. -/
theorem tget_tset_other {α : Type} {n : Nat} [Inhabited α] (v : Vector α n) {i j : Nat} (a : α) (h : i ≠ j) :
    tget (tset v i a) j = tget v j := by
  simp [tget_tset, h]

/-- Writing outside a table changes nothing. -/
theorem tset_outside {α : Type} {n : Nat} (v : Vector α n) {i : Nat} (a : α) (h : ¬ i < n) : tset v i a = v := by
  ext j hj
  have : i ≠ j := by omega
  simp [tset, this]

/-- Reading outside a table. -/
theorem tget_outside {α : Type} {n : Nat} [Inhabited α] (v : Vector α n) {i : Nat} (h : ¬ i < n) : tget v i = default := by
  simp [tget, h]

/-- Reading a table of equal records. -/
theorem tget_replicate {α : Type} {n : Nat} [Inhabited α] (a : α) {i : Nat} (h : i < n) :
    tget (Vector.replicate n a) i = a := by
  simp [tget, h]

/-- Reading a table after every record was changed. -/
theorem tget_tmap {α : Type} {n : Nat} [Inhabited α] (f : Nat → α → α) (v : Vector α n) (i : Nat) :
    tget (tmap f v) i = if i < n then f i (tget v i) else default := by
  unfold tget tmap
  by_cases h : i < n
  · simp [h]
  · simp [h]

/-- The indices of a table. -/
theorem mem_indices {α : Type} {n : Nat} (v : Vector α n) (i : Nat) : i ∈ indices v ↔ i < n := by
  simp [indices]

/-! ### Lists -/

/-- Taking out an element leaves one fewer, or the list as it was. -/
theorem removeFirst_length {α : Type} (p : α → Bool) (xs : List α) :
    (removeFirst p xs).length + (if xs.any p then 1 else 0) = xs.length := by
  induction xs with
  | nil => simp [removeFirst]
  | cons x xs ih =>
    by_cases h : p x
    · simp [removeFirst, h]
    · simp [removeFirst, h]
      split at ih <;> simp_all

/-- What is left was there. -/
theorem mem_of_mem_removeFirst {α : Type} (p : α → Bool) {y : α} {xs : List α} (h : y ∈ removeFirst p xs) : y ∈ xs := by
  induction xs with
  | nil => simp [removeFirst] at h
  | cons x xs ih =>
    by_cases hp : p x
    · simp [removeFirst, hp] at h; exact .tail _ h
    · simp [removeFirst, hp] at h
      rcases h with rfl | h
      · exact .head _
      · exact .tail _ (ih h)

/-- Taking out the last element of a kind: one fewer when there is one. -/
theorem removeLast_length {α : Type} (p : α → Bool) (xs : List α) :
    (removeLast p xs).1.length + (if (removeLast p xs).2.isSome then 1 else 0) = xs.length := by
  induction xs with
  | nil => simp [removeLast]
  | cons x xs ih =>
    unfold removeLast
    split
    · rename_i ys y heq
      simp [heq] at ih
      simp; omega
    · rename_i heq
      by_cases hp : p x <;> simp [hp]

/-- What is left was there, and so was the element taken out. -/
theorem removeLast_mem {α : Type} (p : α → Bool) (xs : List α) :
    (∀ y ∈ (removeLast p xs).1, y ∈ xs) ∧ (∀ y ∈ (removeLast p xs).2, y ∈ xs ∧ p y = true) := by
  induction xs with
  | nil => simp [removeLast]
  | cons x xs ih =>
    unfold removeLast
    split
    · rename_i ys y heq
      simp [heq] at ih
      constructor
      · intro z hz
        rcases List.mem_cons.mp hz with rfl | hz
        · exact .head _
        · exact .tail _ (ih.1 z hz)
      · intro z hz
        cases hz
        exact ⟨.tail _ ih.2.1, ih.2.2⟩
    · by_cases hp : p x
      · simp only [hp, if_true]
        exact ⟨fun y hy => .tail _ hy, fun y hy => by cases hy; exact ⟨.head _, hp⟩⟩
      · simp [hp]

/-- What was there is left, or is what was taken out. -/
theorem removeLast_covers {α : Type} (p : α → Bool) (xs : List α) {y : α} (h : y ∈ xs) :
    y ∈ (removeLast p xs).1 ∨ (removeLast p xs).2 = some y := by
  induction xs with
  | nil => simp at h
  | cons x xs ih =>
    unfold removeLast
    rcases List.mem_cons.1 h with rfl | h
    · split
      · simp
      · by_cases hp : p y <;> simp [hp]
    · split
      · rename_i heq
        have := ih h
        simp only [heq] at this
        simpa using this.imp Or.inr id
      · by_cases hp : p x
        · simp [hp, h]
        · simp [hp, h]

/-- An insertion makes a list longer by one. -/
theorem insertAt_length {α : Type} (x : α) (n : Nat) (xs : List α) : (insertAt x n xs).length = xs.length + 1 := by
  induction n generalizing xs with
  | zero => simp [insertAt]
  | succ n ih => cases xs <;> simp [insertAt, ih]

/-- The element inserted at a position within the list stands there. -/
theorem insertAt_get {α : Type} (x : α) (n : Nat) (xs : List α) (h : n ≤ xs.length) : (insertAt x n xs)[n]? = some x := by
  induction n generalizing xs with
  | zero => simp [insertAt]
  | succ n ih =>
    cases xs with
    | nil => simp at h
    | cons y ys => simpa [insertAt] using ih ys (by simpa using h)

/-- A removal at a position is the list without it. -/
theorem removeAt_eq_eraseIdx {α : Type} (n : Nat) (xs : List α) : removeAt n xs = xs.eraseIdx n := by
  induction n generalizing xs with
  | zero => cases xs <;> simp [removeAt]
  | succ n ih => cases xs <;> simp [removeAt, ih]

end Sys2Proof.Machine
end

