-- ==== Sys2Proof/Laws/State.lean ====
section
/-! SUPPORT. The updates of an event, field by field: what each leaves as it was, and what reads back after it. -/

namespace Sys2Proof.Machine

/-! ### The beginning of an event -/

@[simp] theorem State.begin_toState (s : State) : s.begin.toState = s := rfl
@[simp] theorem State.begin_outs (s : State) : s.begin.outs = [] := rfl
@[simp] theorem State.begin_rerunDue (s : State) : s.begin.rerunDue = false := rfl
@[simp] theorem State.begin_fuelDue (s : State) : s.begin.fuelDue = false := rfl
@[simp] theorem State.begin_washDue (s : State) : s.begin.washDue = false := rfl
@[simp] theorem State.begin_pullDue (s : State) : s.begin.pullDue = false := rfl
@[simp] theorem State.begin_heldBack (s : State) : s.begin.heldBack = [] := rfl
@[simp] theorem State.begin_washBack (s : State) : s.begin.washBack = [] := rfl
@[simp] theorem State.begin_washLanesBack (s : State) : s.begin.washLanesBack = [] := rfl
@[simp] theorem State.begin_releasedHere (s : State) : s.begin.releasedHere = [] := rfl
@[simp] theorem State.begin_entered (s : State) : s.begin.entered = false := rfl

/-! ### setBus -/

@[simp] theorem Ev.setBus_clock (e : Ev) (b : Nat) (r : BusRec) : (e.setBus b r).clock = e.clock := rfl
@[simp] theorem Ev.setBus_laneMap (e : Ev) (b : Nat) (r : BusRec) : (e.setBus b r).laneMap = e.laneMap := rfl
@[simp] theorem Ev.setBus_holdList (e : Ev) (b : Nat) (r : BusRec) : (e.setBus b r).holdList = e.holdList := rfl
@[simp] theorem Ev.setBus_fuel (e : Ev) (b : Nat) (r : BusRec) : (e.setBus b r).fuel = e.fuel := rfl
@[simp] theorem Ev.setBus_wash (e : Ev) (b : Nat) (r : BusRec) : (e.setBus b r).wash = e.wash := rfl
@[simp] theorem Ev.setBus_pullOut (e : Ev) (b : Nat) (r : BusRec) : (e.setBus b r).pullOut = e.pullOut := rfl
@[simp] theorem Ev.setBus_channels (e : Ev) (b : Nat) (r : BusRec) : (e.setBus b r).channels = e.channels := rfl
@[simp] theorem Ev.setBus_nodes (e : Ev) (b : Nat) (r : BusRec) : (e.setBus b r).nodes = e.nodes := rfl
@[simp] theorem Ev.setBus_field (e : Ev) (b : Nat) (r : BusRec) : (e.setBus b r).field = e.field := rfl
@[simp] theorem Ev.setBus_commands (e : Ev) (b : Nat) (r : BusRec) : (e.setBus b r).commands = e.commands := rfl
@[simp] theorem Ev.setBus_counters (e : Ev) (b : Nat) (r : BusRec) : (e.setBus b r).counters = e.counters := rfl
@[simp] theorem Ev.setBus_notices (e : Ev) (b : Nat) (r : BusRec) : (e.setBus b r).notices = e.notices := rfl
@[simp] theorem Ev.setBus_office (e : Ev) (b : Nat) (r : BusRec) : (e.setBus b r).office = e.office := rfl
@[simp] theorem Ev.setBus_params (e : Ev) (b : Nat) (r : BusRec) : (e.setBus b r).params = e.params := rfl
@[simp] theorem Ev.setBus_serial (e : Ev) (b : Nat) (r : BusRec) : (e.setBus b r).serial = e.serial := rfl
@[simp] theorem Ev.setBus_choice (e : Ev) (b : Nat) (r : BusRec) : (e.setBus b r).choice = e.choice := rfl
@[simp] theorem Ev.setBus_pending (e : Ev) (b : Nat) (r : BusRec) : (e.setBus b r).pending = e.pending := rfl
@[simp] theorem Ev.setBus_outs (e : Ev) (b : Nat) (r : BusRec) : (e.setBus b r).outs = e.outs := rfl
@[simp] theorem Ev.setBus_rerunDue (e : Ev) (b : Nat) (r : BusRec) : (e.setBus b r).rerunDue = e.rerunDue := rfl
@[simp] theorem Ev.setBus_fuelDue (e : Ev) (b : Nat) (r : BusRec) : (e.setBus b r).fuelDue = e.fuelDue := rfl
@[simp] theorem Ev.setBus_washDue (e : Ev) (b : Nat) (r : BusRec) : (e.setBus b r).washDue = e.washDue := rfl
@[simp] theorem Ev.setBus_pullDue (e : Ev) (b : Nat) (r : BusRec) : (e.setBus b r).pullDue = e.pullDue := rfl
@[simp] theorem Ev.setBus_heldBack (e : Ev) (b : Nat) (r : BusRec) : (e.setBus b r).heldBack = e.heldBack := rfl
@[simp] theorem Ev.setBus_washBack (e : Ev) (b : Nat) (r : BusRec) : (e.setBus b r).washBack = e.washBack := rfl
@[simp] theorem Ev.setBus_washLanesBack (e : Ev) (b : Nat) (r : BusRec) : (e.setBus b r).washLanesBack = e.washLanesBack := rfl
@[simp] theorem Ev.setBus_releasedHere (e : Ev) (b : Nat) (r : BusRec) : (e.setBus b r).releasedHere = e.releasedHere := rfl
@[simp] theorem Ev.setBus_entered (e : Ev) (b : Nat) (r : BusRec) : (e.setBus b r).entered = e.entered := rfl
@[simp] theorem Ev.setBus_gate_classes (e : Ev) (b : Nat) (r : BusRec) : (e.setBus b r).gate.classes = e.gate.classes := rfl
@[simp] theorem Ev.setBus_cls (e : Ev) (b : Nat) (r : BusRec) (c' : Nat) : (e.setBus b r).cls c' = e.cls c' := rfl
@[simp] theorem Ev.setBus_lane (e : Ev) (b : Nat) (r : BusRec) (l' : Nat) : (e.setBus b r).lane l' = e.lane l' := rfl
@[simp] theorem Ev.setBus_duty (e : Ev) (b : Nat) (r : BusRec) (d' : Nat) : (e.setBus b r).duty d' = e.duty d' := rfl
@[simp] theorem Ev.setBus_release (e : Ev) (b : Nat) (r : BusRec) (l' : Nat) : (e.setBus b r).release l' = e.release l' := rfl
@[simp] theorem Ev.setBus_dispenser (e : Ev) (b : Nat) (r : BusRec) (d' : Nat) : (e.setBus b r).dispenser d' = e.dispenser d' := rfl
@[simp] theorem Ev.setBus_washLane (e : Ev) (b : Nat) (r : BusRec) (w' : Nat) : (e.setBus b r).washLane w' = e.washLane w' := rfl
@[simp] theorem Ev.setBus_channel (e : Ev) (b : Nat) (r : BusRec) (c' : Nat) : (e.setBus b r).channel c' = e.channel c' := rfl
@[simp] theorem Ev.setBus_node (e : Ev) (b : Nat) (r : BusRec) (n' : Nat) : (e.setBus b r).node n' = e.node n' := rfl
@[simp] theorem Ev.setBus_now (e : Ev) (b : Nat) (r : BusRec) : (e.setBus b r).now = e.now := rfl
@[simp] theorem Ev.setBus_mode (e : Ev) (b : Nat) (r : BusRec) : (e.setBus b r).mode = e.mode := rfl
@[simp] theorem Ev.setBus_changePending (e : Ev) (b : Nat) (r : BusRec) : (e.setBus b r).changePending = e.changePending := rfl
@[simp] theorem Ev.setBus_scheduleWindow (e : Ev) (b : Nat) (r : BusRec) : (e.setBus b r).scheduleWindow = e.scheduleWindow := rfl
/-- What reads back. -/
theorem Ev.setBus_bus (e : Ev) (b : Nat) (r : BusRec) (j : Nat) : (e.setBus b r).bus j = if b = j ∧ j < 256 then r else e.bus j :=
  tget_tset _ _ _ _
@[simp] theorem Ev.setBus_bus_other (e : Ev) (b : Nat) (r : BusRec) (j : Nat) (h : b ≠ j) : (e.setBus b r).bus j = e.bus j :=
  tget_tset_other _ _ h
@[simp] theorem Ev.setBus_bus_same (e : Ev) (b : Nat) (r : BusRec) (h : b < 256) : (e.setBus b r).bus b = r :=
  tget_tset_same _ _ h

/-! ### setClass -/

@[simp] theorem Ev.setClass_clock (e : Ev) (c : Nat) (r : ClassRec) : (e.setClass c r).clock = e.clock := rfl
@[simp] theorem Ev.setClass_laneMap (e : Ev) (c : Nat) (r : ClassRec) : (e.setClass c r).laneMap = e.laneMap := rfl
@[simp] theorem Ev.setClass_holdList (e : Ev) (c : Nat) (r : ClassRec) : (e.setClass c r).holdList = e.holdList := rfl
@[simp] theorem Ev.setClass_fuel (e : Ev) (c : Nat) (r : ClassRec) : (e.setClass c r).fuel = e.fuel := rfl
@[simp] theorem Ev.setClass_wash (e : Ev) (c : Nat) (r : ClassRec) : (e.setClass c r).wash = e.wash := rfl
@[simp] theorem Ev.setClass_pullOut (e : Ev) (c : Nat) (r : ClassRec) : (e.setClass c r).pullOut = e.pullOut := rfl
@[simp] theorem Ev.setClass_channels (e : Ev) (c : Nat) (r : ClassRec) : (e.setClass c r).channels = e.channels := rfl
@[simp] theorem Ev.setClass_nodes (e : Ev) (c : Nat) (r : ClassRec) : (e.setClass c r).nodes = e.nodes := rfl
@[simp] theorem Ev.setClass_field (e : Ev) (c : Nat) (r : ClassRec) : (e.setClass c r).field = e.field := rfl
@[simp] theorem Ev.setClass_commands (e : Ev) (c : Nat) (r : ClassRec) : (e.setClass c r).commands = e.commands := rfl
@[simp] theorem Ev.setClass_counters (e : Ev) (c : Nat) (r : ClassRec) : (e.setClass c r).counters = e.counters := rfl
@[simp] theorem Ev.setClass_notices (e : Ev) (c : Nat) (r : ClassRec) : (e.setClass c r).notices = e.notices := rfl
@[simp] theorem Ev.setClass_office (e : Ev) (c : Nat) (r : ClassRec) : (e.setClass c r).office = e.office := rfl
@[simp] theorem Ev.setClass_params (e : Ev) (c : Nat) (r : ClassRec) : (e.setClass c r).params = e.params := rfl
@[simp] theorem Ev.setClass_serial (e : Ev) (c : Nat) (r : ClassRec) : (e.setClass c r).serial = e.serial := rfl
@[simp] theorem Ev.setClass_choice (e : Ev) (c : Nat) (r : ClassRec) : (e.setClass c r).choice = e.choice := rfl
@[simp] theorem Ev.setClass_pending (e : Ev) (c : Nat) (r : ClassRec) : (e.setClass c r).pending = e.pending := rfl
@[simp] theorem Ev.setClass_outs (e : Ev) (c : Nat) (r : ClassRec) : (e.setClass c r).outs = e.outs := rfl
@[simp] theorem Ev.setClass_rerunDue (e : Ev) (c : Nat) (r : ClassRec) : (e.setClass c r).rerunDue = e.rerunDue := rfl
@[simp] theorem Ev.setClass_fuelDue (e : Ev) (c : Nat) (r : ClassRec) : (e.setClass c r).fuelDue = e.fuelDue := rfl
@[simp] theorem Ev.setClass_washDue (e : Ev) (c : Nat) (r : ClassRec) : (e.setClass c r).washDue = e.washDue := rfl
@[simp] theorem Ev.setClass_pullDue (e : Ev) (c : Nat) (r : ClassRec) : (e.setClass c r).pullDue = e.pullDue := rfl
@[simp] theorem Ev.setClass_heldBack (e : Ev) (c : Nat) (r : ClassRec) : (e.setClass c r).heldBack = e.heldBack := rfl
@[simp] theorem Ev.setClass_washBack (e : Ev) (c : Nat) (r : ClassRec) : (e.setClass c r).washBack = e.washBack := rfl
@[simp] theorem Ev.setClass_washLanesBack (e : Ev) (c : Nat) (r : ClassRec) : (e.setClass c r).washLanesBack = e.washLanesBack := rfl
@[simp] theorem Ev.setClass_releasedHere (e : Ev) (c : Nat) (r : ClassRec) : (e.setClass c r).releasedHere = e.releasedHere := rfl
@[simp] theorem Ev.setClass_entered (e : Ev) (c : Nat) (r : ClassRec) : (e.setClass c r).entered = e.entered := rfl
@[simp] theorem Ev.setClass_gate_buses (e : Ev) (c : Nat) (r : ClassRec) : (e.setClass c r).gate.buses = e.gate.buses := rfl
@[simp] theorem Ev.setClass_bus (e : Ev) (c : Nat) (r : ClassRec) (b' : Nat) : (e.setClass c r).bus b' = e.bus b' := rfl
@[simp] theorem Ev.setClass_lane (e : Ev) (c : Nat) (r : ClassRec) (l' : Nat) : (e.setClass c r).lane l' = e.lane l' := rfl
@[simp] theorem Ev.setClass_duty (e : Ev) (c : Nat) (r : ClassRec) (d' : Nat) : (e.setClass c r).duty d' = e.duty d' := rfl
@[simp] theorem Ev.setClass_release (e : Ev) (c : Nat) (r : ClassRec) (l' : Nat) : (e.setClass c r).release l' = e.release l' := rfl
@[simp] theorem Ev.setClass_dispenser (e : Ev) (c : Nat) (r : ClassRec) (d' : Nat) : (e.setClass c r).dispenser d' = e.dispenser d' := rfl
@[simp] theorem Ev.setClass_washLane (e : Ev) (c : Nat) (r : ClassRec) (w' : Nat) : (e.setClass c r).washLane w' = e.washLane w' := rfl
@[simp] theorem Ev.setClass_channel (e : Ev) (c : Nat) (r : ClassRec) (c' : Nat) : (e.setClass c r).channel c' = e.channel c' := rfl
@[simp] theorem Ev.setClass_node (e : Ev) (c : Nat) (r : ClassRec) (n' : Nat) : (e.setClass c r).node n' = e.node n' := rfl
@[simp] theorem Ev.setClass_now (e : Ev) (c : Nat) (r : ClassRec) : (e.setClass c r).now = e.now := rfl
@[simp] theorem Ev.setClass_mode (e : Ev) (c : Nat) (r : ClassRec) : (e.setClass c r).mode = e.mode := rfl
@[simp] theorem Ev.setClass_changePending (e : Ev) (c : Nat) (r : ClassRec) : (e.setClass c r).changePending = e.changePending := rfl
@[simp] theorem Ev.setClass_scheduleWindow (e : Ev) (c : Nat) (r : ClassRec) : (e.setClass c r).scheduleWindow = e.scheduleWindow := rfl
/-- What reads back. -/
theorem Ev.setClass_cls (e : Ev) (c : Nat) (r : ClassRec) (j : Nat) : (e.setClass c r).cls j = if c = j ∧ j < 4 then r else e.cls j :=
  tget_tset _ _ _ _
@[simp] theorem Ev.setClass_cls_other (e : Ev) (c : Nat) (r : ClassRec) (j : Nat) (h : c ≠ j) : (e.setClass c r).cls j = e.cls j :=
  tget_tset_other _ _ h
@[simp] theorem Ev.setClass_cls_same (e : Ev) (c : Nat) (r : ClassRec) (h : c < 4) : (e.setClass c r).cls c = r :=
  tget_tset_same _ _ h

/-! ### setLane -/

@[simp] theorem Ev.setLane_clock (e : Ev) (l : Nat) (r : LaneRec) : (e.setLane l r).clock = e.clock := rfl
@[simp] theorem Ev.setLane_gate (e : Ev) (l : Nat) (r : LaneRec) : (e.setLane l r).gate = e.gate := rfl
@[simp] theorem Ev.setLane_holdList (e : Ev) (l : Nat) (r : LaneRec) : (e.setLane l r).holdList = e.holdList := rfl
@[simp] theorem Ev.setLane_fuel (e : Ev) (l : Nat) (r : LaneRec) : (e.setLane l r).fuel = e.fuel := rfl
@[simp] theorem Ev.setLane_wash (e : Ev) (l : Nat) (r : LaneRec) : (e.setLane l r).wash = e.wash := rfl
@[simp] theorem Ev.setLane_pullOut (e : Ev) (l : Nat) (r : LaneRec) : (e.setLane l r).pullOut = e.pullOut := rfl
@[simp] theorem Ev.setLane_channels (e : Ev) (l : Nat) (r : LaneRec) : (e.setLane l r).channels = e.channels := rfl
@[simp] theorem Ev.setLane_nodes (e : Ev) (l : Nat) (r : LaneRec) : (e.setLane l r).nodes = e.nodes := rfl
@[simp] theorem Ev.setLane_field (e : Ev) (l : Nat) (r : LaneRec) : (e.setLane l r).field = e.field := rfl
@[simp] theorem Ev.setLane_commands (e : Ev) (l : Nat) (r : LaneRec) : (e.setLane l r).commands = e.commands := rfl
@[simp] theorem Ev.setLane_counters (e : Ev) (l : Nat) (r : LaneRec) : (e.setLane l r).counters = e.counters := rfl
@[simp] theorem Ev.setLane_notices (e : Ev) (l : Nat) (r : LaneRec) : (e.setLane l r).notices = e.notices := rfl
@[simp] theorem Ev.setLane_office (e : Ev) (l : Nat) (r : LaneRec) : (e.setLane l r).office = e.office := rfl
@[simp] theorem Ev.setLane_params (e : Ev) (l : Nat) (r : LaneRec) : (e.setLane l r).params = e.params := rfl
@[simp] theorem Ev.setLane_serial (e : Ev) (l : Nat) (r : LaneRec) : (e.setLane l r).serial = e.serial := rfl
@[simp] theorem Ev.setLane_choice (e : Ev) (l : Nat) (r : LaneRec) : (e.setLane l r).choice = e.choice := rfl
@[simp] theorem Ev.setLane_pending (e : Ev) (l : Nat) (r : LaneRec) : (e.setLane l r).pending = e.pending := rfl
@[simp] theorem Ev.setLane_outs (e : Ev) (l : Nat) (r : LaneRec) : (e.setLane l r).outs = e.outs := rfl
@[simp] theorem Ev.setLane_rerunDue (e : Ev) (l : Nat) (r : LaneRec) : (e.setLane l r).rerunDue = e.rerunDue := rfl
@[simp] theorem Ev.setLane_fuelDue (e : Ev) (l : Nat) (r : LaneRec) : (e.setLane l r).fuelDue = e.fuelDue := rfl
@[simp] theorem Ev.setLane_washDue (e : Ev) (l : Nat) (r : LaneRec) : (e.setLane l r).washDue = e.washDue := rfl
@[simp] theorem Ev.setLane_pullDue (e : Ev) (l : Nat) (r : LaneRec) : (e.setLane l r).pullDue = e.pullDue := rfl
@[simp] theorem Ev.setLane_heldBack (e : Ev) (l : Nat) (r : LaneRec) : (e.setLane l r).heldBack = e.heldBack := rfl
@[simp] theorem Ev.setLane_washBack (e : Ev) (l : Nat) (r : LaneRec) : (e.setLane l r).washBack = e.washBack := rfl
@[simp] theorem Ev.setLane_washLanesBack (e : Ev) (l : Nat) (r : LaneRec) : (e.setLane l r).washLanesBack = e.washLanesBack := rfl
@[simp] theorem Ev.setLane_releasedHere (e : Ev) (l : Nat) (r : LaneRec) : (e.setLane l r).releasedHere = e.releasedHere := rfl
@[simp] theorem Ev.setLane_entered (e : Ev) (l : Nat) (r : LaneRec) : (e.setLane l r).entered = e.entered := rfl
@[simp] theorem Ev.setLane_laneMap_directions (e : Ev) (l : Nat) (r : LaneRec) : (e.setLane l r).laneMap.directions = e.laneMap.directions := rfl
@[simp] theorem Ev.setLane_bus (e : Ev) (l : Nat) (r : LaneRec) (b' : Nat) : (e.setLane l r).bus b' = e.bus b' := rfl
@[simp] theorem Ev.setLane_cls (e : Ev) (l : Nat) (r : LaneRec) (c' : Nat) : (e.setLane l r).cls c' = e.cls c' := rfl
@[simp] theorem Ev.setLane_duty (e : Ev) (l : Nat) (r : LaneRec) (d' : Nat) : (e.setLane l r).duty d' = e.duty d' := rfl
@[simp] theorem Ev.setLane_release (e : Ev) (l : Nat) (r : LaneRec) (l' : Nat) : (e.setLane l r).release l' = e.release l' := rfl
@[simp] theorem Ev.setLane_dispenser (e : Ev) (l : Nat) (r : LaneRec) (d' : Nat) : (e.setLane l r).dispenser d' = e.dispenser d' := rfl
@[simp] theorem Ev.setLane_washLane (e : Ev) (l : Nat) (r : LaneRec) (w' : Nat) : (e.setLane l r).washLane w' = e.washLane w' := rfl
@[simp] theorem Ev.setLane_channel (e : Ev) (l : Nat) (r : LaneRec) (c' : Nat) : (e.setLane l r).channel c' = e.channel c' := rfl
@[simp] theorem Ev.setLane_node (e : Ev) (l : Nat) (r : LaneRec) (n' : Nat) : (e.setLane l r).node n' = e.node n' := rfl
@[simp] theorem Ev.setLane_now (e : Ev) (l : Nat) (r : LaneRec) : (e.setLane l r).now = e.now := rfl
@[simp] theorem Ev.setLane_mode (e : Ev) (l : Nat) (r : LaneRec) : (e.setLane l r).mode = e.mode := rfl
@[simp] theorem Ev.setLane_changePending (e : Ev) (l : Nat) (r : LaneRec) : (e.setLane l r).changePending = e.changePending := rfl
@[simp] theorem Ev.setLane_scheduleWindow (e : Ev) (l : Nat) (r : LaneRec) : (e.setLane l r).scheduleWindow = e.scheduleWindow := rfl
/-- What reads back. -/
theorem Ev.setLane_lane (e : Ev) (l : Nat) (r : LaneRec) (j : Nat) : (e.setLane l r).lane j = if l = j ∧ j < 32 then r else e.lane j :=
  tget_tset _ _ _ _
@[simp] theorem Ev.setLane_lane_other (e : Ev) (l : Nat) (r : LaneRec) (j : Nat) (h : l ≠ j) : (e.setLane l r).lane j = e.lane j :=
  tget_tset_other _ _ h
@[simp] theorem Ev.setLane_lane_same (e : Ev) (l : Nat) (r : LaneRec) (h : l < 32) : (e.setLane l r).lane l = r :=
  tget_tset_same _ _ h

/-! ### setDirections -/

@[simp] theorem Ev.setDirections_clock (e : Ev) (ds : List Direction) : (e.setDirections ds).clock = e.clock := rfl
@[simp] theorem Ev.setDirections_gate (e : Ev) (ds : List Direction) : (e.setDirections ds).gate = e.gate := rfl
@[simp] theorem Ev.setDirections_holdList (e : Ev) (ds : List Direction) : (e.setDirections ds).holdList = e.holdList := rfl
@[simp] theorem Ev.setDirections_fuel (e : Ev) (ds : List Direction) : (e.setDirections ds).fuel = e.fuel := rfl
@[simp] theorem Ev.setDirections_wash (e : Ev) (ds : List Direction) : (e.setDirections ds).wash = e.wash := rfl
@[simp] theorem Ev.setDirections_pullOut (e : Ev) (ds : List Direction) : (e.setDirections ds).pullOut = e.pullOut := rfl
@[simp] theorem Ev.setDirections_channels (e : Ev) (ds : List Direction) : (e.setDirections ds).channels = e.channels := rfl
@[simp] theorem Ev.setDirections_nodes (e : Ev) (ds : List Direction) : (e.setDirections ds).nodes = e.nodes := rfl
@[simp] theorem Ev.setDirections_field (e : Ev) (ds : List Direction) : (e.setDirections ds).field = e.field := rfl
@[simp] theorem Ev.setDirections_commands (e : Ev) (ds : List Direction) : (e.setDirections ds).commands = e.commands := rfl
@[simp] theorem Ev.setDirections_counters (e : Ev) (ds : List Direction) : (e.setDirections ds).counters = e.counters := rfl
@[simp] theorem Ev.setDirections_notices (e : Ev) (ds : List Direction) : (e.setDirections ds).notices = e.notices := rfl
@[simp] theorem Ev.setDirections_office (e : Ev) (ds : List Direction) : (e.setDirections ds).office = e.office := rfl
@[simp] theorem Ev.setDirections_params (e : Ev) (ds : List Direction) : (e.setDirections ds).params = e.params := rfl
@[simp] theorem Ev.setDirections_serial (e : Ev) (ds : List Direction) : (e.setDirections ds).serial = e.serial := rfl
@[simp] theorem Ev.setDirections_choice (e : Ev) (ds : List Direction) : (e.setDirections ds).choice = e.choice := rfl
@[simp] theorem Ev.setDirections_pending (e : Ev) (ds : List Direction) : (e.setDirections ds).pending = e.pending := rfl
@[simp] theorem Ev.setDirections_outs (e : Ev) (ds : List Direction) : (e.setDirections ds).outs = e.outs := rfl
@[simp] theorem Ev.setDirections_rerunDue (e : Ev) (ds : List Direction) : (e.setDirections ds).rerunDue = e.rerunDue := rfl
@[simp] theorem Ev.setDirections_fuelDue (e : Ev) (ds : List Direction) : (e.setDirections ds).fuelDue = e.fuelDue := rfl
@[simp] theorem Ev.setDirections_washDue (e : Ev) (ds : List Direction) : (e.setDirections ds).washDue = e.washDue := rfl
@[simp] theorem Ev.setDirections_pullDue (e : Ev) (ds : List Direction) : (e.setDirections ds).pullDue = e.pullDue := rfl
@[simp] theorem Ev.setDirections_heldBack (e : Ev) (ds : List Direction) : (e.setDirections ds).heldBack = e.heldBack := rfl
@[simp] theorem Ev.setDirections_washBack (e : Ev) (ds : List Direction) : (e.setDirections ds).washBack = e.washBack := rfl
@[simp] theorem Ev.setDirections_washLanesBack (e : Ev) (ds : List Direction) : (e.setDirections ds).washLanesBack = e.washLanesBack := rfl
@[simp] theorem Ev.setDirections_releasedHere (e : Ev) (ds : List Direction) : (e.setDirections ds).releasedHere = e.releasedHere := rfl
@[simp] theorem Ev.setDirections_entered (e : Ev) (ds : List Direction) : (e.setDirections ds).entered = e.entered := rfl
@[simp] theorem Ev.setDirections_laneMap_lanes (e : Ev) (ds : List Direction) : (e.setDirections ds).laneMap.lanes = e.laneMap.lanes := rfl
@[simp] theorem Ev.setDirections_bus (e : Ev) (ds : List Direction) (b' : Nat) : (e.setDirections ds).bus b' = e.bus b' := rfl
@[simp] theorem Ev.setDirections_cls (e : Ev) (ds : List Direction) (c' : Nat) : (e.setDirections ds).cls c' = e.cls c' := rfl
@[simp] theorem Ev.setDirections_lane (e : Ev) (ds : List Direction) (l' : Nat) : (e.setDirections ds).lane l' = e.lane l' := rfl
@[simp] theorem Ev.setDirections_duty (e : Ev) (ds : List Direction) (d' : Nat) : (e.setDirections ds).duty d' = e.duty d' := rfl
@[simp] theorem Ev.setDirections_release (e : Ev) (ds : List Direction) (l' : Nat) : (e.setDirections ds).release l' = e.release l' := rfl
@[simp] theorem Ev.setDirections_dispenser (e : Ev) (ds : List Direction) (d' : Nat) : (e.setDirections ds).dispenser d' = e.dispenser d' := rfl
@[simp] theorem Ev.setDirections_washLane (e : Ev) (ds : List Direction) (w' : Nat) : (e.setDirections ds).washLane w' = e.washLane w' := rfl
@[simp] theorem Ev.setDirections_channel (e : Ev) (ds : List Direction) (c' : Nat) : (e.setDirections ds).channel c' = e.channel c' := rfl
@[simp] theorem Ev.setDirections_node (e : Ev) (ds : List Direction) (n' : Nat) : (e.setDirections ds).node n' = e.node n' := rfl
@[simp] theorem Ev.setDirections_now (e : Ev) (ds : List Direction) : (e.setDirections ds).now = e.now := rfl
@[simp] theorem Ev.setDirections_mode (e : Ev) (ds : List Direction) : (e.setDirections ds).mode = e.mode := rfl
@[simp] theorem Ev.setDirections_changePending (e : Ev) (ds : List Direction) : (e.setDirections ds).changePending = e.changePending := rfl
@[simp] theorem Ev.setDirections_scheduleWindow (e : Ev) (ds : List Direction) : (e.setDirections ds).scheduleWindow = e.scheduleWindow := rfl
@[simp] theorem Ev.setDirections_laneMap_directions (e : Ev) (ds : List Direction) : (e.setDirections ds).laneMap.directions = ds := rfl

/-! ### setHold -/

@[simp] theorem Ev.setHold_clock (e : Ev) (bs : List Nat) : (e.setHold bs).clock = e.clock := rfl
@[simp] theorem Ev.setHold_gate (e : Ev) (bs : List Nat) : (e.setHold bs).gate = e.gate := rfl
@[simp] theorem Ev.setHold_laneMap (e : Ev) (bs : List Nat) : (e.setHold bs).laneMap = e.laneMap := rfl
@[simp] theorem Ev.setHold_fuel (e : Ev) (bs : List Nat) : (e.setHold bs).fuel = e.fuel := rfl
@[simp] theorem Ev.setHold_wash (e : Ev) (bs : List Nat) : (e.setHold bs).wash = e.wash := rfl
@[simp] theorem Ev.setHold_pullOut (e : Ev) (bs : List Nat) : (e.setHold bs).pullOut = e.pullOut := rfl
@[simp] theorem Ev.setHold_channels (e : Ev) (bs : List Nat) : (e.setHold bs).channels = e.channels := rfl
@[simp] theorem Ev.setHold_nodes (e : Ev) (bs : List Nat) : (e.setHold bs).nodes = e.nodes := rfl
@[simp] theorem Ev.setHold_field (e : Ev) (bs : List Nat) : (e.setHold bs).field = e.field := rfl
@[simp] theorem Ev.setHold_commands (e : Ev) (bs : List Nat) : (e.setHold bs).commands = e.commands := rfl
@[simp] theorem Ev.setHold_counters (e : Ev) (bs : List Nat) : (e.setHold bs).counters = e.counters := rfl
@[simp] theorem Ev.setHold_notices (e : Ev) (bs : List Nat) : (e.setHold bs).notices = e.notices := rfl
@[simp] theorem Ev.setHold_office (e : Ev) (bs : List Nat) : (e.setHold bs).office = e.office := rfl
@[simp] theorem Ev.setHold_params (e : Ev) (bs : List Nat) : (e.setHold bs).params = e.params := rfl
@[simp] theorem Ev.setHold_serial (e : Ev) (bs : List Nat) : (e.setHold bs).serial = e.serial := rfl
@[simp] theorem Ev.setHold_choice (e : Ev) (bs : List Nat) : (e.setHold bs).choice = e.choice := rfl
@[simp] theorem Ev.setHold_pending (e : Ev) (bs : List Nat) : (e.setHold bs).pending = e.pending := rfl
@[simp] theorem Ev.setHold_outs (e : Ev) (bs : List Nat) : (e.setHold bs).outs = e.outs := rfl
@[simp] theorem Ev.setHold_rerunDue (e : Ev) (bs : List Nat) : (e.setHold bs).rerunDue = e.rerunDue := rfl
@[simp] theorem Ev.setHold_fuelDue (e : Ev) (bs : List Nat) : (e.setHold bs).fuelDue = e.fuelDue := rfl
@[simp] theorem Ev.setHold_washDue (e : Ev) (bs : List Nat) : (e.setHold bs).washDue = e.washDue := rfl
@[simp] theorem Ev.setHold_pullDue (e : Ev) (bs : List Nat) : (e.setHold bs).pullDue = e.pullDue := rfl
@[simp] theorem Ev.setHold_heldBack (e : Ev) (bs : List Nat) : (e.setHold bs).heldBack = e.heldBack := rfl
@[simp] theorem Ev.setHold_washBack (e : Ev) (bs : List Nat) : (e.setHold bs).washBack = e.washBack := rfl
@[simp] theorem Ev.setHold_washLanesBack (e : Ev) (bs : List Nat) : (e.setHold bs).washLanesBack = e.washLanesBack := rfl
@[simp] theorem Ev.setHold_releasedHere (e : Ev) (bs : List Nat) : (e.setHold bs).releasedHere = e.releasedHere := rfl
@[simp] theorem Ev.setHold_entered (e : Ev) (bs : List Nat) : (e.setHold bs).entered = e.entered := rfl
@[simp] theorem Ev.setHold_bus (e : Ev) (bs : List Nat) (b' : Nat) : (e.setHold bs).bus b' = e.bus b' := rfl
@[simp] theorem Ev.setHold_cls (e : Ev) (bs : List Nat) (c' : Nat) : (e.setHold bs).cls c' = e.cls c' := rfl
@[simp] theorem Ev.setHold_lane (e : Ev) (bs : List Nat) (l' : Nat) : (e.setHold bs).lane l' = e.lane l' := rfl
@[simp] theorem Ev.setHold_duty (e : Ev) (bs : List Nat) (d' : Nat) : (e.setHold bs).duty d' = e.duty d' := rfl
@[simp] theorem Ev.setHold_release (e : Ev) (bs : List Nat) (l' : Nat) : (e.setHold bs).release l' = e.release l' := rfl
@[simp] theorem Ev.setHold_dispenser (e : Ev) (bs : List Nat) (d' : Nat) : (e.setHold bs).dispenser d' = e.dispenser d' := rfl
@[simp] theorem Ev.setHold_washLane (e : Ev) (bs : List Nat) (w' : Nat) : (e.setHold bs).washLane w' = e.washLane w' := rfl
@[simp] theorem Ev.setHold_channel (e : Ev) (bs : List Nat) (c' : Nat) : (e.setHold bs).channel c' = e.channel c' := rfl
@[simp] theorem Ev.setHold_node (e : Ev) (bs : List Nat) (n' : Nat) : (e.setHold bs).node n' = e.node n' := rfl
@[simp] theorem Ev.setHold_now (e : Ev) (bs : List Nat) : (e.setHold bs).now = e.now := rfl
@[simp] theorem Ev.setHold_mode (e : Ev) (bs : List Nat) : (e.setHold bs).mode = e.mode := rfl
@[simp] theorem Ev.setHold_changePending (e : Ev) (bs : List Nat) : (e.setHold bs).changePending = e.changePending := rfl
@[simp] theorem Ev.setHold_scheduleWindow (e : Ev) (bs : List Nat) : (e.setHold bs).scheduleWindow = e.scheduleWindow := rfl
@[simp] theorem Ev.setHold_holdList (e : Ev) (bs : List Nat) : (e.setHold bs).holdList = bs := rfl

/-! ### setDuty -/

@[simp] theorem Ev.setDuty_clock (e : Ev) (d : Nat) (r : DutyRec) : (e.setDuty d r).clock = e.clock := rfl
@[simp] theorem Ev.setDuty_gate (e : Ev) (d : Nat) (r : DutyRec) : (e.setDuty d r).gate = e.gate := rfl
@[simp] theorem Ev.setDuty_laneMap (e : Ev) (d : Nat) (r : DutyRec) : (e.setDuty d r).laneMap = e.laneMap := rfl
@[simp] theorem Ev.setDuty_holdList (e : Ev) (d : Nat) (r : DutyRec) : (e.setDuty d r).holdList = e.holdList := rfl
@[simp] theorem Ev.setDuty_fuel (e : Ev) (d : Nat) (r : DutyRec) : (e.setDuty d r).fuel = e.fuel := rfl
@[simp] theorem Ev.setDuty_wash (e : Ev) (d : Nat) (r : DutyRec) : (e.setDuty d r).wash = e.wash := rfl
@[simp] theorem Ev.setDuty_channels (e : Ev) (d : Nat) (r : DutyRec) : (e.setDuty d r).channels = e.channels := rfl
@[simp] theorem Ev.setDuty_nodes (e : Ev) (d : Nat) (r : DutyRec) : (e.setDuty d r).nodes = e.nodes := rfl
@[simp] theorem Ev.setDuty_field (e : Ev) (d : Nat) (r : DutyRec) : (e.setDuty d r).field = e.field := rfl
@[simp] theorem Ev.setDuty_commands (e : Ev) (d : Nat) (r : DutyRec) : (e.setDuty d r).commands = e.commands := rfl
@[simp] theorem Ev.setDuty_counters (e : Ev) (d : Nat) (r : DutyRec) : (e.setDuty d r).counters = e.counters := rfl
@[simp] theorem Ev.setDuty_notices (e : Ev) (d : Nat) (r : DutyRec) : (e.setDuty d r).notices = e.notices := rfl
@[simp] theorem Ev.setDuty_office (e : Ev) (d : Nat) (r : DutyRec) : (e.setDuty d r).office = e.office := rfl
@[simp] theorem Ev.setDuty_params (e : Ev) (d : Nat) (r : DutyRec) : (e.setDuty d r).params = e.params := rfl
@[simp] theorem Ev.setDuty_serial (e : Ev) (d : Nat) (r : DutyRec) : (e.setDuty d r).serial = e.serial := rfl
@[simp] theorem Ev.setDuty_choice (e : Ev) (d : Nat) (r : DutyRec) : (e.setDuty d r).choice = e.choice := rfl
@[simp] theorem Ev.setDuty_pending (e : Ev) (d : Nat) (r : DutyRec) : (e.setDuty d r).pending = e.pending := rfl
@[simp] theorem Ev.setDuty_outs (e : Ev) (d : Nat) (r : DutyRec) : (e.setDuty d r).outs = e.outs := rfl
@[simp] theorem Ev.setDuty_rerunDue (e : Ev) (d : Nat) (r : DutyRec) : (e.setDuty d r).rerunDue = e.rerunDue := rfl
@[simp] theorem Ev.setDuty_fuelDue (e : Ev) (d : Nat) (r : DutyRec) : (e.setDuty d r).fuelDue = e.fuelDue := rfl
@[simp] theorem Ev.setDuty_washDue (e : Ev) (d : Nat) (r : DutyRec) : (e.setDuty d r).washDue = e.washDue := rfl
@[simp] theorem Ev.setDuty_pullDue (e : Ev) (d : Nat) (r : DutyRec) : (e.setDuty d r).pullDue = e.pullDue := rfl
@[simp] theorem Ev.setDuty_heldBack (e : Ev) (d : Nat) (r : DutyRec) : (e.setDuty d r).heldBack = e.heldBack := rfl
@[simp] theorem Ev.setDuty_washBack (e : Ev) (d : Nat) (r : DutyRec) : (e.setDuty d r).washBack = e.washBack := rfl
@[simp] theorem Ev.setDuty_washLanesBack (e : Ev) (d : Nat) (r : DutyRec) : (e.setDuty d r).washLanesBack = e.washLanesBack := rfl
@[simp] theorem Ev.setDuty_releasedHere (e : Ev) (d : Nat) (r : DutyRec) : (e.setDuty d r).releasedHere = e.releasedHere := rfl
@[simp] theorem Ev.setDuty_entered (e : Ev) (d : Nat) (r : DutyRec) : (e.setDuty d r).entered = e.entered := rfl
@[simp] theorem Ev.setDuty_pullOut_releases (e : Ev) (d : Nat) (r : DutyRec) : (e.setDuty d r).pullOut.releases = e.pullOut.releases := rfl
@[simp] theorem Ev.setDuty_bus (e : Ev) (d : Nat) (r : DutyRec) (b' : Nat) : (e.setDuty d r).bus b' = e.bus b' := rfl
@[simp] theorem Ev.setDuty_cls (e : Ev) (d : Nat) (r : DutyRec) (c' : Nat) : (e.setDuty d r).cls c' = e.cls c' := rfl
@[simp] theorem Ev.setDuty_lane (e : Ev) (d : Nat) (r : DutyRec) (l' : Nat) : (e.setDuty d r).lane l' = e.lane l' := rfl
@[simp] theorem Ev.setDuty_release (e : Ev) (d : Nat) (r : DutyRec) (l' : Nat) : (e.setDuty d r).release l' = e.release l' := rfl
@[simp] theorem Ev.setDuty_dispenser (e : Ev) (d : Nat) (r : DutyRec) (d' : Nat) : (e.setDuty d r).dispenser d' = e.dispenser d' := rfl
@[simp] theorem Ev.setDuty_washLane (e : Ev) (d : Nat) (r : DutyRec) (w' : Nat) : (e.setDuty d r).washLane w' = e.washLane w' := rfl
@[simp] theorem Ev.setDuty_channel (e : Ev) (d : Nat) (r : DutyRec) (c' : Nat) : (e.setDuty d r).channel c' = e.channel c' := rfl
@[simp] theorem Ev.setDuty_node (e : Ev) (d : Nat) (r : DutyRec) (n' : Nat) : (e.setDuty d r).node n' = e.node n' := rfl
@[simp] theorem Ev.setDuty_now (e : Ev) (d : Nat) (r : DutyRec) : (e.setDuty d r).now = e.now := rfl
@[simp] theorem Ev.setDuty_mode (e : Ev) (d : Nat) (r : DutyRec) : (e.setDuty d r).mode = e.mode := rfl
@[simp] theorem Ev.setDuty_changePending (e : Ev) (d : Nat) (r : DutyRec) : (e.setDuty d r).changePending = e.changePending := rfl
@[simp] theorem Ev.setDuty_scheduleWindow (e : Ev) (d : Nat) (r : DutyRec) : (e.setDuty d r).scheduleWindow = e.scheduleWindow := rfl
/-- What reads back. -/
theorem Ev.setDuty_duty (e : Ev) (d : Nat) (r : DutyRec) (j : Nat) : (e.setDuty d r).duty j = if d = j ∧ j < 256 then r else e.duty j :=
  tget_tset _ _ _ _
@[simp] theorem Ev.setDuty_duty_other (e : Ev) (d : Nat) (r : DutyRec) (j : Nat) (h : d ≠ j) : (e.setDuty d r).duty j = e.duty j :=
  tget_tset_other _ _ h
@[simp] theorem Ev.setDuty_duty_same (e : Ev) (d : Nat) (r : DutyRec) (h : d < 256) : (e.setDuty d r).duty d = r :=
  tget_tset_same _ _ h

/-! ### setRelease -/

@[simp] theorem Ev.setRelease_clock (e : Ev) (l : Nat) (r : Option ReleaseRec) : (e.setRelease l r).clock = e.clock := rfl
@[simp] theorem Ev.setRelease_gate (e : Ev) (l : Nat) (r : Option ReleaseRec) : (e.setRelease l r).gate = e.gate := rfl
@[simp] theorem Ev.setRelease_laneMap (e : Ev) (l : Nat) (r : Option ReleaseRec) : (e.setRelease l r).laneMap = e.laneMap := rfl
@[simp] theorem Ev.setRelease_holdList (e : Ev) (l : Nat) (r : Option ReleaseRec) : (e.setRelease l r).holdList = e.holdList := rfl
@[simp] theorem Ev.setRelease_fuel (e : Ev) (l : Nat) (r : Option ReleaseRec) : (e.setRelease l r).fuel = e.fuel := rfl
@[simp] theorem Ev.setRelease_wash (e : Ev) (l : Nat) (r : Option ReleaseRec) : (e.setRelease l r).wash = e.wash := rfl
@[simp] theorem Ev.setRelease_channels (e : Ev) (l : Nat) (r : Option ReleaseRec) : (e.setRelease l r).channels = e.channels := rfl
@[simp] theorem Ev.setRelease_nodes (e : Ev) (l : Nat) (r : Option ReleaseRec) : (e.setRelease l r).nodes = e.nodes := rfl
@[simp] theorem Ev.setRelease_field (e : Ev) (l : Nat) (r : Option ReleaseRec) : (e.setRelease l r).field = e.field := rfl
@[simp] theorem Ev.setRelease_commands (e : Ev) (l : Nat) (r : Option ReleaseRec) : (e.setRelease l r).commands = e.commands := rfl
@[simp] theorem Ev.setRelease_counters (e : Ev) (l : Nat) (r : Option ReleaseRec) : (e.setRelease l r).counters = e.counters := rfl
@[simp] theorem Ev.setRelease_notices (e : Ev) (l : Nat) (r : Option ReleaseRec) : (e.setRelease l r).notices = e.notices := rfl
@[simp] theorem Ev.setRelease_office (e : Ev) (l : Nat) (r : Option ReleaseRec) : (e.setRelease l r).office = e.office := rfl
@[simp] theorem Ev.setRelease_params (e : Ev) (l : Nat) (r : Option ReleaseRec) : (e.setRelease l r).params = e.params := rfl
@[simp] theorem Ev.setRelease_serial (e : Ev) (l : Nat) (r : Option ReleaseRec) : (e.setRelease l r).serial = e.serial := rfl
@[simp] theorem Ev.setRelease_choice (e : Ev) (l : Nat) (r : Option ReleaseRec) : (e.setRelease l r).choice = e.choice := rfl
@[simp] theorem Ev.setRelease_pending (e : Ev) (l : Nat) (r : Option ReleaseRec) : (e.setRelease l r).pending = e.pending := rfl
@[simp] theorem Ev.setRelease_outs (e : Ev) (l : Nat) (r : Option ReleaseRec) : (e.setRelease l r).outs = e.outs := rfl
@[simp] theorem Ev.setRelease_rerunDue (e : Ev) (l : Nat) (r : Option ReleaseRec) : (e.setRelease l r).rerunDue = e.rerunDue := rfl
@[simp] theorem Ev.setRelease_fuelDue (e : Ev) (l : Nat) (r : Option ReleaseRec) : (e.setRelease l r).fuelDue = e.fuelDue := rfl
@[simp] theorem Ev.setRelease_washDue (e : Ev) (l : Nat) (r : Option ReleaseRec) : (e.setRelease l r).washDue = e.washDue := rfl
@[simp] theorem Ev.setRelease_pullDue (e : Ev) (l : Nat) (r : Option ReleaseRec) : (e.setRelease l r).pullDue = e.pullDue := rfl
@[simp] theorem Ev.setRelease_heldBack (e : Ev) (l : Nat) (r : Option ReleaseRec) : (e.setRelease l r).heldBack = e.heldBack := rfl
@[simp] theorem Ev.setRelease_washBack (e : Ev) (l : Nat) (r : Option ReleaseRec) : (e.setRelease l r).washBack = e.washBack := rfl
@[simp] theorem Ev.setRelease_washLanesBack (e : Ev) (l : Nat) (r : Option ReleaseRec) : (e.setRelease l r).washLanesBack = e.washLanesBack := rfl
@[simp] theorem Ev.setRelease_releasedHere (e : Ev) (l : Nat) (r : Option ReleaseRec) : (e.setRelease l r).releasedHere = e.releasedHere := rfl
@[simp] theorem Ev.setRelease_entered (e : Ev) (l : Nat) (r : Option ReleaseRec) : (e.setRelease l r).entered = e.entered := rfl
@[simp] theorem Ev.setRelease_pullOut_duties (e : Ev) (l : Nat) (r : Option ReleaseRec) : (e.setRelease l r).pullOut.duties = e.pullOut.duties := rfl
@[simp] theorem Ev.setRelease_bus (e : Ev) (l : Nat) (r : Option ReleaseRec) (b' : Nat) : (e.setRelease l r).bus b' = e.bus b' := rfl
@[simp] theorem Ev.setRelease_cls (e : Ev) (l : Nat) (r : Option ReleaseRec) (c' : Nat) : (e.setRelease l r).cls c' = e.cls c' := rfl
@[simp] theorem Ev.setRelease_lane (e : Ev) (l : Nat) (r : Option ReleaseRec) (l' : Nat) : (e.setRelease l r).lane l' = e.lane l' := rfl
@[simp] theorem Ev.setRelease_duty (e : Ev) (l : Nat) (r : Option ReleaseRec) (d' : Nat) : (e.setRelease l r).duty d' = e.duty d' := rfl
@[simp] theorem Ev.setRelease_dispenser (e : Ev) (l : Nat) (r : Option ReleaseRec) (d' : Nat) : (e.setRelease l r).dispenser d' = e.dispenser d' := rfl
@[simp] theorem Ev.setRelease_washLane (e : Ev) (l : Nat) (r : Option ReleaseRec) (w' : Nat) : (e.setRelease l r).washLane w' = e.washLane w' := rfl
@[simp] theorem Ev.setRelease_channel (e : Ev) (l : Nat) (r : Option ReleaseRec) (c' : Nat) : (e.setRelease l r).channel c' = e.channel c' := rfl
@[simp] theorem Ev.setRelease_node (e : Ev) (l : Nat) (r : Option ReleaseRec) (n' : Nat) : (e.setRelease l r).node n' = e.node n' := rfl
@[simp] theorem Ev.setRelease_now (e : Ev) (l : Nat) (r : Option ReleaseRec) : (e.setRelease l r).now = e.now := rfl
@[simp] theorem Ev.setRelease_mode (e : Ev) (l : Nat) (r : Option ReleaseRec) : (e.setRelease l r).mode = e.mode := rfl
@[simp] theorem Ev.setRelease_changePending (e : Ev) (l : Nat) (r : Option ReleaseRec) : (e.setRelease l r).changePending = e.changePending := rfl
@[simp] theorem Ev.setRelease_scheduleWindow (e : Ev) (l : Nat) (r : Option ReleaseRec) : (e.setRelease l r).scheduleWindow = e.scheduleWindow := rfl
/-- What reads back. -/
theorem Ev.setRelease_release (e : Ev) (l : Nat) (r : Option ReleaseRec) (j : Nat) : (e.setRelease l r).release j = if l = j ∧ j < 32 then r else e.release j :=
  tget_tset _ _ _ _
@[simp] theorem Ev.setRelease_release_other (e : Ev) (l : Nat) (r : Option ReleaseRec) (j : Nat) (h : l ≠ j) : (e.setRelease l r).release j = e.release j :=
  tget_tset_other _ _ h
@[simp] theorem Ev.setRelease_release_same (e : Ev) (l : Nat) (r : Option ReleaseRec) (h : l < 32) : (e.setRelease l r).release l = r :=
  tget_tset_same _ _ h

/-! ### setDispenser -/

@[simp] theorem Ev.setDispenser_clock (e : Ev) (d : Nat) (r : DispenserRec) : (e.setDispenser d r).clock = e.clock := rfl
@[simp] theorem Ev.setDispenser_gate (e : Ev) (d : Nat) (r : DispenserRec) : (e.setDispenser d r).gate = e.gate := rfl
@[simp] theorem Ev.setDispenser_laneMap (e : Ev) (d : Nat) (r : DispenserRec) : (e.setDispenser d r).laneMap = e.laneMap := rfl
@[simp] theorem Ev.setDispenser_holdList (e : Ev) (d : Nat) (r : DispenserRec) : (e.setDispenser d r).holdList = e.holdList := rfl
@[simp] theorem Ev.setDispenser_wash (e : Ev) (d : Nat) (r : DispenserRec) : (e.setDispenser d r).wash = e.wash := rfl
@[simp] theorem Ev.setDispenser_pullOut (e : Ev) (d : Nat) (r : DispenserRec) : (e.setDispenser d r).pullOut = e.pullOut := rfl
@[simp] theorem Ev.setDispenser_channels (e : Ev) (d : Nat) (r : DispenserRec) : (e.setDispenser d r).channels = e.channels := rfl
@[simp] theorem Ev.setDispenser_nodes (e : Ev) (d : Nat) (r : DispenserRec) : (e.setDispenser d r).nodes = e.nodes := rfl
@[simp] theorem Ev.setDispenser_field (e : Ev) (d : Nat) (r : DispenserRec) : (e.setDispenser d r).field = e.field := rfl
@[simp] theorem Ev.setDispenser_commands (e : Ev) (d : Nat) (r : DispenserRec) : (e.setDispenser d r).commands = e.commands := rfl
@[simp] theorem Ev.setDispenser_counters (e : Ev) (d : Nat) (r : DispenserRec) : (e.setDispenser d r).counters = e.counters := rfl
@[simp] theorem Ev.setDispenser_notices (e : Ev) (d : Nat) (r : DispenserRec) : (e.setDispenser d r).notices = e.notices := rfl
@[simp] theorem Ev.setDispenser_office (e : Ev) (d : Nat) (r : DispenserRec) : (e.setDispenser d r).office = e.office := rfl
@[simp] theorem Ev.setDispenser_params (e : Ev) (d : Nat) (r : DispenserRec) : (e.setDispenser d r).params = e.params := rfl
@[simp] theorem Ev.setDispenser_serial (e : Ev) (d : Nat) (r : DispenserRec) : (e.setDispenser d r).serial = e.serial := rfl
@[simp] theorem Ev.setDispenser_choice (e : Ev) (d : Nat) (r : DispenserRec) : (e.setDispenser d r).choice = e.choice := rfl
@[simp] theorem Ev.setDispenser_pending (e : Ev) (d : Nat) (r : DispenserRec) : (e.setDispenser d r).pending = e.pending := rfl
@[simp] theorem Ev.setDispenser_outs (e : Ev) (d : Nat) (r : DispenserRec) : (e.setDispenser d r).outs = e.outs := rfl
@[simp] theorem Ev.setDispenser_rerunDue (e : Ev) (d : Nat) (r : DispenserRec) : (e.setDispenser d r).rerunDue = e.rerunDue := rfl
@[simp] theorem Ev.setDispenser_fuelDue (e : Ev) (d : Nat) (r : DispenserRec) : (e.setDispenser d r).fuelDue = e.fuelDue := rfl
@[simp] theorem Ev.setDispenser_washDue (e : Ev) (d : Nat) (r : DispenserRec) : (e.setDispenser d r).washDue = e.washDue := rfl
@[simp] theorem Ev.setDispenser_pullDue (e : Ev) (d : Nat) (r : DispenserRec) : (e.setDispenser d r).pullDue = e.pullDue := rfl
@[simp] theorem Ev.setDispenser_heldBack (e : Ev) (d : Nat) (r : DispenserRec) : (e.setDispenser d r).heldBack = e.heldBack := rfl
@[simp] theorem Ev.setDispenser_washBack (e : Ev) (d : Nat) (r : DispenserRec) : (e.setDispenser d r).washBack = e.washBack := rfl
@[simp] theorem Ev.setDispenser_washLanesBack (e : Ev) (d : Nat) (r : DispenserRec) : (e.setDispenser d r).washLanesBack = e.washLanesBack := rfl
@[simp] theorem Ev.setDispenser_releasedHere (e : Ev) (d : Nat) (r : DispenserRec) : (e.setDispenser d r).releasedHere = e.releasedHere := rfl
@[simp] theorem Ev.setDispenser_entered (e : Ev) (d : Nat) (r : DispenserRec) : (e.setDispenser d r).entered = e.entered := rfl
@[simp] theorem Ev.setDispenser_fuel_queue (e : Ev) (d : Nat) (r : DispenserRec) : (e.setDispenser d r).fuel.queue = e.fuel.queue := rfl
@[simp] theorem Ev.setDispenser_fuel_stock (e : Ev) (d : Nat) (r : DispenserRec) : (e.setDispenser d r).fuel.stock = e.fuel.stock := rfl
@[simp] theorem Ev.setDispenser_fuel_committed (e : Ev) (d : Nat) (r : DispenserRec) : (e.setDispenser d r).fuel.committed = e.fuel.committed := rfl
@[simp] theorem Ev.setDispenser_fuel_belowReserve (e : Ev) (d : Nat) (r : DispenserRec) : (e.setDispenser d r).fuel.belowReserve = e.fuel.belowReserve := rfl
@[simp] theorem Ev.setDispenser_bus (e : Ev) (d : Nat) (r : DispenserRec) (b' : Nat) : (e.setDispenser d r).bus b' = e.bus b' := rfl
@[simp] theorem Ev.setDispenser_cls (e : Ev) (d : Nat) (r : DispenserRec) (c' : Nat) : (e.setDispenser d r).cls c' = e.cls c' := rfl
@[simp] theorem Ev.setDispenser_lane (e : Ev) (d : Nat) (r : DispenserRec) (l' : Nat) : (e.setDispenser d r).lane l' = e.lane l' := rfl
@[simp] theorem Ev.setDispenser_duty (e : Ev) (d : Nat) (r : DispenserRec) (d' : Nat) : (e.setDispenser d r).duty d' = e.duty d' := rfl
@[simp] theorem Ev.setDispenser_release (e : Ev) (d : Nat) (r : DispenserRec) (l' : Nat) : (e.setDispenser d r).release l' = e.release l' := rfl
@[simp] theorem Ev.setDispenser_washLane (e : Ev) (d : Nat) (r : DispenserRec) (w' : Nat) : (e.setDispenser d r).washLane w' = e.washLane w' := rfl
@[simp] theorem Ev.setDispenser_channel (e : Ev) (d : Nat) (r : DispenserRec) (c' : Nat) : (e.setDispenser d r).channel c' = e.channel c' := rfl
@[simp] theorem Ev.setDispenser_node (e : Ev) (d : Nat) (r : DispenserRec) (n' : Nat) : (e.setDispenser d r).node n' = e.node n' := rfl
@[simp] theorem Ev.setDispenser_now (e : Ev) (d : Nat) (r : DispenserRec) : (e.setDispenser d r).now = e.now := rfl
@[simp] theorem Ev.setDispenser_mode (e : Ev) (d : Nat) (r : DispenserRec) : (e.setDispenser d r).mode = e.mode := rfl
@[simp] theorem Ev.setDispenser_changePending (e : Ev) (d : Nat) (r : DispenserRec) : (e.setDispenser d r).changePending = e.changePending := rfl
@[simp] theorem Ev.setDispenser_scheduleWindow (e : Ev) (d : Nat) (r : DispenserRec) : (e.setDispenser d r).scheduleWindow = e.scheduleWindow := rfl
/-- What reads back. -/
theorem Ev.setDispenser_dispenser (e : Ev) (d : Nat) (r : DispenserRec) (j : Nat) : (e.setDispenser d r).dispenser j = if d = j ∧ j < 6 then r else e.dispenser j :=
  tget_tset _ _ _ _
@[simp] theorem Ev.setDispenser_dispenser_other (e : Ev) (d : Nat) (r : DispenserRec) (j : Nat) (h : d ≠ j) : (e.setDispenser d r).dispenser j = e.dispenser j :=
  tget_tset_other _ _ h
@[simp] theorem Ev.setDispenser_dispenser_same (e : Ev) (d : Nat) (r : DispenserRec) (h : d < 6) : (e.setDispenser d r).dispenser d = r :=
  tget_tset_same _ _ h

/-! ### setFuelQueue -/

@[simp] theorem Ev.setFuelQueue_clock (e : Ev) (q : List FuelEntry) : (e.setFuelQueue q).clock = e.clock := rfl
@[simp] theorem Ev.setFuelQueue_gate (e : Ev) (q : List FuelEntry) : (e.setFuelQueue q).gate = e.gate := rfl
@[simp] theorem Ev.setFuelQueue_laneMap (e : Ev) (q : List FuelEntry) : (e.setFuelQueue q).laneMap = e.laneMap := rfl
@[simp] theorem Ev.setFuelQueue_holdList (e : Ev) (q : List FuelEntry) : (e.setFuelQueue q).holdList = e.holdList := rfl
@[simp] theorem Ev.setFuelQueue_wash (e : Ev) (q : List FuelEntry) : (e.setFuelQueue q).wash = e.wash := rfl
@[simp] theorem Ev.setFuelQueue_pullOut (e : Ev) (q : List FuelEntry) : (e.setFuelQueue q).pullOut = e.pullOut := rfl
@[simp] theorem Ev.setFuelQueue_channels (e : Ev) (q : List FuelEntry) : (e.setFuelQueue q).channels = e.channels := rfl
@[simp] theorem Ev.setFuelQueue_nodes (e : Ev) (q : List FuelEntry) : (e.setFuelQueue q).nodes = e.nodes := rfl
@[simp] theorem Ev.setFuelQueue_field (e : Ev) (q : List FuelEntry) : (e.setFuelQueue q).field = e.field := rfl
@[simp] theorem Ev.setFuelQueue_commands (e : Ev) (q : List FuelEntry) : (e.setFuelQueue q).commands = e.commands := rfl
@[simp] theorem Ev.setFuelQueue_counters (e : Ev) (q : List FuelEntry) : (e.setFuelQueue q).counters = e.counters := rfl
@[simp] theorem Ev.setFuelQueue_notices (e : Ev) (q : List FuelEntry) : (e.setFuelQueue q).notices = e.notices := rfl
@[simp] theorem Ev.setFuelQueue_office (e : Ev) (q : List FuelEntry) : (e.setFuelQueue q).office = e.office := rfl
@[simp] theorem Ev.setFuelQueue_params (e : Ev) (q : List FuelEntry) : (e.setFuelQueue q).params = e.params := rfl
@[simp] theorem Ev.setFuelQueue_serial (e : Ev) (q : List FuelEntry) : (e.setFuelQueue q).serial = e.serial := rfl
@[simp] theorem Ev.setFuelQueue_choice (e : Ev) (q : List FuelEntry) : (e.setFuelQueue q).choice = e.choice := rfl
@[simp] theorem Ev.setFuelQueue_pending (e : Ev) (q : List FuelEntry) : (e.setFuelQueue q).pending = e.pending := rfl
@[simp] theorem Ev.setFuelQueue_outs (e : Ev) (q : List FuelEntry) : (e.setFuelQueue q).outs = e.outs := rfl
@[simp] theorem Ev.setFuelQueue_rerunDue (e : Ev) (q : List FuelEntry) : (e.setFuelQueue q).rerunDue = e.rerunDue := rfl
@[simp] theorem Ev.setFuelQueue_fuelDue (e : Ev) (q : List FuelEntry) : (e.setFuelQueue q).fuelDue = e.fuelDue := rfl
@[simp] theorem Ev.setFuelQueue_washDue (e : Ev) (q : List FuelEntry) : (e.setFuelQueue q).washDue = e.washDue := rfl
@[simp] theorem Ev.setFuelQueue_pullDue (e : Ev) (q : List FuelEntry) : (e.setFuelQueue q).pullDue = e.pullDue := rfl
@[simp] theorem Ev.setFuelQueue_heldBack (e : Ev) (q : List FuelEntry) : (e.setFuelQueue q).heldBack = e.heldBack := rfl
@[simp] theorem Ev.setFuelQueue_washBack (e : Ev) (q : List FuelEntry) : (e.setFuelQueue q).washBack = e.washBack := rfl
@[simp] theorem Ev.setFuelQueue_washLanesBack (e : Ev) (q : List FuelEntry) : (e.setFuelQueue q).washLanesBack = e.washLanesBack := rfl
@[simp] theorem Ev.setFuelQueue_releasedHere (e : Ev) (q : List FuelEntry) : (e.setFuelQueue q).releasedHere = e.releasedHere := rfl
@[simp] theorem Ev.setFuelQueue_entered (e : Ev) (q : List FuelEntry) : (e.setFuelQueue q).entered = e.entered := rfl
@[simp] theorem Ev.setFuelQueue_fuel_dispensers (e : Ev) (q : List FuelEntry) : (e.setFuelQueue q).fuel.dispensers = e.fuel.dispensers := rfl
@[simp] theorem Ev.setFuelQueue_fuel_stock (e : Ev) (q : List FuelEntry) : (e.setFuelQueue q).fuel.stock = e.fuel.stock := rfl
@[simp] theorem Ev.setFuelQueue_fuel_committed (e : Ev) (q : List FuelEntry) : (e.setFuelQueue q).fuel.committed = e.fuel.committed := rfl
@[simp] theorem Ev.setFuelQueue_fuel_belowReserve (e : Ev) (q : List FuelEntry) : (e.setFuelQueue q).fuel.belowReserve = e.fuel.belowReserve := rfl
@[simp] theorem Ev.setFuelQueue_bus (e : Ev) (q : List FuelEntry) (b' : Nat) : (e.setFuelQueue q).bus b' = e.bus b' := rfl
@[simp] theorem Ev.setFuelQueue_cls (e : Ev) (q : List FuelEntry) (c' : Nat) : (e.setFuelQueue q).cls c' = e.cls c' := rfl
@[simp] theorem Ev.setFuelQueue_lane (e : Ev) (q : List FuelEntry) (l' : Nat) : (e.setFuelQueue q).lane l' = e.lane l' := rfl
@[simp] theorem Ev.setFuelQueue_duty (e : Ev) (q : List FuelEntry) (d' : Nat) : (e.setFuelQueue q).duty d' = e.duty d' := rfl
@[simp] theorem Ev.setFuelQueue_release (e : Ev) (q : List FuelEntry) (l' : Nat) : (e.setFuelQueue q).release l' = e.release l' := rfl
@[simp] theorem Ev.setFuelQueue_dispenser (e : Ev) (q : List FuelEntry) (d' : Nat) : (e.setFuelQueue q).dispenser d' = e.dispenser d' := rfl
@[simp] theorem Ev.setFuelQueue_washLane (e : Ev) (q : List FuelEntry) (w' : Nat) : (e.setFuelQueue q).washLane w' = e.washLane w' := rfl
@[simp] theorem Ev.setFuelQueue_channel (e : Ev) (q : List FuelEntry) (c' : Nat) : (e.setFuelQueue q).channel c' = e.channel c' := rfl
@[simp] theorem Ev.setFuelQueue_node (e : Ev) (q : List FuelEntry) (n' : Nat) : (e.setFuelQueue q).node n' = e.node n' := rfl
@[simp] theorem Ev.setFuelQueue_now (e : Ev) (q : List FuelEntry) : (e.setFuelQueue q).now = e.now := rfl
@[simp] theorem Ev.setFuelQueue_mode (e : Ev) (q : List FuelEntry) : (e.setFuelQueue q).mode = e.mode := rfl
@[simp] theorem Ev.setFuelQueue_changePending (e : Ev) (q : List FuelEntry) : (e.setFuelQueue q).changePending = e.changePending := rfl
@[simp] theorem Ev.setFuelQueue_scheduleWindow (e : Ev) (q : List FuelEntry) : (e.setFuelQueue q).scheduleWindow = e.scheduleWindow := rfl
@[simp] theorem Ev.setFuelQueue_fuel_queue (e : Ev) (q : List FuelEntry) : (e.setFuelQueue q).fuel.queue = q := rfl

/-! ### setWashLane -/

@[simp] theorem Ev.setWashLane_clock (e : Ev) (w : Nat) (r : WashLaneRec) : (e.setWashLane w r).clock = e.clock := rfl
@[simp] theorem Ev.setWashLane_gate (e : Ev) (w : Nat) (r : WashLaneRec) : (e.setWashLane w r).gate = e.gate := rfl
@[simp] theorem Ev.setWashLane_laneMap (e : Ev) (w : Nat) (r : WashLaneRec) : (e.setWashLane w r).laneMap = e.laneMap := rfl
@[simp] theorem Ev.setWashLane_holdList (e : Ev) (w : Nat) (r : WashLaneRec) : (e.setWashLane w r).holdList = e.holdList := rfl
@[simp] theorem Ev.setWashLane_fuel (e : Ev) (w : Nat) (r : WashLaneRec) : (e.setWashLane w r).fuel = e.fuel := rfl
@[simp] theorem Ev.setWashLane_pullOut (e : Ev) (w : Nat) (r : WashLaneRec) : (e.setWashLane w r).pullOut = e.pullOut := rfl
@[simp] theorem Ev.setWashLane_channels (e : Ev) (w : Nat) (r : WashLaneRec) : (e.setWashLane w r).channels = e.channels := rfl
@[simp] theorem Ev.setWashLane_nodes (e : Ev) (w : Nat) (r : WashLaneRec) : (e.setWashLane w r).nodes = e.nodes := rfl
@[simp] theorem Ev.setWashLane_field (e : Ev) (w : Nat) (r : WashLaneRec) : (e.setWashLane w r).field = e.field := rfl
@[simp] theorem Ev.setWashLane_commands (e : Ev) (w : Nat) (r : WashLaneRec) : (e.setWashLane w r).commands = e.commands := rfl
@[simp] theorem Ev.setWashLane_counters (e : Ev) (w : Nat) (r : WashLaneRec) : (e.setWashLane w r).counters = e.counters := rfl
@[simp] theorem Ev.setWashLane_notices (e : Ev) (w : Nat) (r : WashLaneRec) : (e.setWashLane w r).notices = e.notices := rfl
@[simp] theorem Ev.setWashLane_office (e : Ev) (w : Nat) (r : WashLaneRec) : (e.setWashLane w r).office = e.office := rfl
@[simp] theorem Ev.setWashLane_params (e : Ev) (w : Nat) (r : WashLaneRec) : (e.setWashLane w r).params = e.params := rfl
@[simp] theorem Ev.setWashLane_serial (e : Ev) (w : Nat) (r : WashLaneRec) : (e.setWashLane w r).serial = e.serial := rfl
@[simp] theorem Ev.setWashLane_choice (e : Ev) (w : Nat) (r : WashLaneRec) : (e.setWashLane w r).choice = e.choice := rfl
@[simp] theorem Ev.setWashLane_pending (e : Ev) (w : Nat) (r : WashLaneRec) : (e.setWashLane w r).pending = e.pending := rfl
@[simp] theorem Ev.setWashLane_outs (e : Ev) (w : Nat) (r : WashLaneRec) : (e.setWashLane w r).outs = e.outs := rfl
@[simp] theorem Ev.setWashLane_rerunDue (e : Ev) (w : Nat) (r : WashLaneRec) : (e.setWashLane w r).rerunDue = e.rerunDue := rfl
@[simp] theorem Ev.setWashLane_fuelDue (e : Ev) (w : Nat) (r : WashLaneRec) : (e.setWashLane w r).fuelDue = e.fuelDue := rfl
@[simp] theorem Ev.setWashLane_washDue (e : Ev) (w : Nat) (r : WashLaneRec) : (e.setWashLane w r).washDue = e.washDue := rfl
@[simp] theorem Ev.setWashLane_pullDue (e : Ev) (w : Nat) (r : WashLaneRec) : (e.setWashLane w r).pullDue = e.pullDue := rfl
@[simp] theorem Ev.setWashLane_heldBack (e : Ev) (w : Nat) (r : WashLaneRec) : (e.setWashLane w r).heldBack = e.heldBack := rfl
@[simp] theorem Ev.setWashLane_washBack (e : Ev) (w : Nat) (r : WashLaneRec) : (e.setWashLane w r).washBack = e.washBack := rfl
@[simp] theorem Ev.setWashLane_washLanesBack (e : Ev) (w : Nat) (r : WashLaneRec) : (e.setWashLane w r).washLanesBack = e.washLanesBack := rfl
@[simp] theorem Ev.setWashLane_releasedHere (e : Ev) (w : Nat) (r : WashLaneRec) : (e.setWashLane w r).releasedHere = e.releasedHere := rfl
@[simp] theorem Ev.setWashLane_entered (e : Ev) (w : Nat) (r : WashLaneRec) : (e.setWashLane w r).entered = e.entered := rfl
@[simp] theorem Ev.setWashLane_wash_queue (e : Ev) (w : Nat) (r : WashLaneRec) : (e.setWashLane w r).wash.queue = e.wash.queue := rfl
@[simp] theorem Ev.setWashLane_wash_waived (e : Ev) (w : Nat) (r : WashLaneRec) : (e.setWashLane w r).wash.waived = e.wash.waived := rfl
@[simp] theorem Ev.setWashLane_bus (e : Ev) (w : Nat) (r : WashLaneRec) (b' : Nat) : (e.setWashLane w r).bus b' = e.bus b' := rfl
@[simp] theorem Ev.setWashLane_cls (e : Ev) (w : Nat) (r : WashLaneRec) (c' : Nat) : (e.setWashLane w r).cls c' = e.cls c' := rfl
@[simp] theorem Ev.setWashLane_lane (e : Ev) (w : Nat) (r : WashLaneRec) (l' : Nat) : (e.setWashLane w r).lane l' = e.lane l' := rfl
@[simp] theorem Ev.setWashLane_duty (e : Ev) (w : Nat) (r : WashLaneRec) (d' : Nat) : (e.setWashLane w r).duty d' = e.duty d' := rfl
@[simp] theorem Ev.setWashLane_release (e : Ev) (w : Nat) (r : WashLaneRec) (l' : Nat) : (e.setWashLane w r).release l' = e.release l' := rfl
@[simp] theorem Ev.setWashLane_dispenser (e : Ev) (w : Nat) (r : WashLaneRec) (d' : Nat) : (e.setWashLane w r).dispenser d' = e.dispenser d' := rfl
@[simp] theorem Ev.setWashLane_channel (e : Ev) (w : Nat) (r : WashLaneRec) (c' : Nat) : (e.setWashLane w r).channel c' = e.channel c' := rfl
@[simp] theorem Ev.setWashLane_node (e : Ev) (w : Nat) (r : WashLaneRec) (n' : Nat) : (e.setWashLane w r).node n' = e.node n' := rfl
@[simp] theorem Ev.setWashLane_now (e : Ev) (w : Nat) (r : WashLaneRec) : (e.setWashLane w r).now = e.now := rfl
@[simp] theorem Ev.setWashLane_mode (e : Ev) (w : Nat) (r : WashLaneRec) : (e.setWashLane w r).mode = e.mode := rfl
@[simp] theorem Ev.setWashLane_changePending (e : Ev) (w : Nat) (r : WashLaneRec) : (e.setWashLane w r).changePending = e.changePending := rfl
@[simp] theorem Ev.setWashLane_scheduleWindow (e : Ev) (w : Nat) (r : WashLaneRec) : (e.setWashLane w r).scheduleWindow = e.scheduleWindow := rfl
/-- What reads back. -/
theorem Ev.setWashLane_washLane (e : Ev) (w : Nat) (r : WashLaneRec) (j : Nat) : (e.setWashLane w r).washLane j = if w = j ∧ j < 2 then r else e.washLane j :=
  tget_tset _ _ _ _
@[simp] theorem Ev.setWashLane_washLane_other (e : Ev) (w : Nat) (r : WashLaneRec) (j : Nat) (h : w ≠ j) : (e.setWashLane w r).washLane j = e.washLane j :=
  tget_tset_other _ _ h
@[simp] theorem Ev.setWashLane_washLane_same (e : Ev) (w : Nat) (r : WashLaneRec) (h : w < 2) : (e.setWashLane w r).washLane w = r :=
  tget_tset_same _ _ h

/-! ### setWashQueue -/

@[simp] theorem Ev.setWashQueue_clock (e : Ev) (q : List WashEntry) : (e.setWashQueue q).clock = e.clock := rfl
@[simp] theorem Ev.setWashQueue_gate (e : Ev) (q : List WashEntry) : (e.setWashQueue q).gate = e.gate := rfl
@[simp] theorem Ev.setWashQueue_laneMap (e : Ev) (q : List WashEntry) : (e.setWashQueue q).laneMap = e.laneMap := rfl
@[simp] theorem Ev.setWashQueue_holdList (e : Ev) (q : List WashEntry) : (e.setWashQueue q).holdList = e.holdList := rfl
@[simp] theorem Ev.setWashQueue_fuel (e : Ev) (q : List WashEntry) : (e.setWashQueue q).fuel = e.fuel := rfl
@[simp] theorem Ev.setWashQueue_pullOut (e : Ev) (q : List WashEntry) : (e.setWashQueue q).pullOut = e.pullOut := rfl
@[simp] theorem Ev.setWashQueue_channels (e : Ev) (q : List WashEntry) : (e.setWashQueue q).channels = e.channels := rfl
@[simp] theorem Ev.setWashQueue_nodes (e : Ev) (q : List WashEntry) : (e.setWashQueue q).nodes = e.nodes := rfl
@[simp] theorem Ev.setWashQueue_field (e : Ev) (q : List WashEntry) : (e.setWashQueue q).field = e.field := rfl
@[simp] theorem Ev.setWashQueue_commands (e : Ev) (q : List WashEntry) : (e.setWashQueue q).commands = e.commands := rfl
@[simp] theorem Ev.setWashQueue_counters (e : Ev) (q : List WashEntry) : (e.setWashQueue q).counters = e.counters := rfl
@[simp] theorem Ev.setWashQueue_notices (e : Ev) (q : List WashEntry) : (e.setWashQueue q).notices = e.notices := rfl
@[simp] theorem Ev.setWashQueue_office (e : Ev) (q : List WashEntry) : (e.setWashQueue q).office = e.office := rfl
@[simp] theorem Ev.setWashQueue_params (e : Ev) (q : List WashEntry) : (e.setWashQueue q).params = e.params := rfl
@[simp] theorem Ev.setWashQueue_serial (e : Ev) (q : List WashEntry) : (e.setWashQueue q).serial = e.serial := rfl
@[simp] theorem Ev.setWashQueue_choice (e : Ev) (q : List WashEntry) : (e.setWashQueue q).choice = e.choice := rfl
@[simp] theorem Ev.setWashQueue_pending (e : Ev) (q : List WashEntry) : (e.setWashQueue q).pending = e.pending := rfl
@[simp] theorem Ev.setWashQueue_outs (e : Ev) (q : List WashEntry) : (e.setWashQueue q).outs = e.outs := rfl
@[simp] theorem Ev.setWashQueue_rerunDue (e : Ev) (q : List WashEntry) : (e.setWashQueue q).rerunDue = e.rerunDue := rfl
@[simp] theorem Ev.setWashQueue_fuelDue (e : Ev) (q : List WashEntry) : (e.setWashQueue q).fuelDue = e.fuelDue := rfl
@[simp] theorem Ev.setWashQueue_washDue (e : Ev) (q : List WashEntry) : (e.setWashQueue q).washDue = e.washDue := rfl
@[simp] theorem Ev.setWashQueue_pullDue (e : Ev) (q : List WashEntry) : (e.setWashQueue q).pullDue = e.pullDue := rfl
@[simp] theorem Ev.setWashQueue_heldBack (e : Ev) (q : List WashEntry) : (e.setWashQueue q).heldBack = e.heldBack := rfl
@[simp] theorem Ev.setWashQueue_washBack (e : Ev) (q : List WashEntry) : (e.setWashQueue q).washBack = e.washBack := rfl
@[simp] theorem Ev.setWashQueue_washLanesBack (e : Ev) (q : List WashEntry) : (e.setWashQueue q).washLanesBack = e.washLanesBack := rfl
@[simp] theorem Ev.setWashQueue_releasedHere (e : Ev) (q : List WashEntry) : (e.setWashQueue q).releasedHere = e.releasedHere := rfl
@[simp] theorem Ev.setWashQueue_entered (e : Ev) (q : List WashEntry) : (e.setWashQueue q).entered = e.entered := rfl
@[simp] theorem Ev.setWashQueue_wash_lanes (e : Ev) (q : List WashEntry) : (e.setWashQueue q).wash.lanes = e.wash.lanes := rfl
@[simp] theorem Ev.setWashQueue_wash_waived (e : Ev) (q : List WashEntry) : (e.setWashQueue q).wash.waived = e.wash.waived := rfl
@[simp] theorem Ev.setWashQueue_bus (e : Ev) (q : List WashEntry) (b' : Nat) : (e.setWashQueue q).bus b' = e.bus b' := rfl
@[simp] theorem Ev.setWashQueue_cls (e : Ev) (q : List WashEntry) (c' : Nat) : (e.setWashQueue q).cls c' = e.cls c' := rfl
@[simp] theorem Ev.setWashQueue_lane (e : Ev) (q : List WashEntry) (l' : Nat) : (e.setWashQueue q).lane l' = e.lane l' := rfl
@[simp] theorem Ev.setWashQueue_duty (e : Ev) (q : List WashEntry) (d' : Nat) : (e.setWashQueue q).duty d' = e.duty d' := rfl
@[simp] theorem Ev.setWashQueue_release (e : Ev) (q : List WashEntry) (l' : Nat) : (e.setWashQueue q).release l' = e.release l' := rfl
@[simp] theorem Ev.setWashQueue_dispenser (e : Ev) (q : List WashEntry) (d' : Nat) : (e.setWashQueue q).dispenser d' = e.dispenser d' := rfl
@[simp] theorem Ev.setWashQueue_washLane (e : Ev) (q : List WashEntry) (w' : Nat) : (e.setWashQueue q).washLane w' = e.washLane w' := rfl
@[simp] theorem Ev.setWashQueue_channel (e : Ev) (q : List WashEntry) (c' : Nat) : (e.setWashQueue q).channel c' = e.channel c' := rfl
@[simp] theorem Ev.setWashQueue_node (e : Ev) (q : List WashEntry) (n' : Nat) : (e.setWashQueue q).node n' = e.node n' := rfl
@[simp] theorem Ev.setWashQueue_now (e : Ev) (q : List WashEntry) : (e.setWashQueue q).now = e.now := rfl
@[simp] theorem Ev.setWashQueue_mode (e : Ev) (q : List WashEntry) : (e.setWashQueue q).mode = e.mode := rfl
@[simp] theorem Ev.setWashQueue_changePending (e : Ev) (q : List WashEntry) : (e.setWashQueue q).changePending = e.changePending := rfl
@[simp] theorem Ev.setWashQueue_scheduleWindow (e : Ev) (q : List WashEntry) : (e.setWashQueue q).scheduleWindow = e.scheduleWindow := rfl
@[simp] theorem Ev.setWashQueue_wash_queue (e : Ev) (q : List WashEntry) : (e.setWashQueue q).wash.queue = q := rfl

/-! ### setChannel -/

@[simp] theorem Ev.setChannel_clock (e : Ev) (c : Nat) (r : ChannelRec) : (e.setChannel c r).clock = e.clock := rfl
@[simp] theorem Ev.setChannel_gate (e : Ev) (c : Nat) (r : ChannelRec) : (e.setChannel c r).gate = e.gate := rfl
@[simp] theorem Ev.setChannel_laneMap (e : Ev) (c : Nat) (r : ChannelRec) : (e.setChannel c r).laneMap = e.laneMap := rfl
@[simp] theorem Ev.setChannel_holdList (e : Ev) (c : Nat) (r : ChannelRec) : (e.setChannel c r).holdList = e.holdList := rfl
@[simp] theorem Ev.setChannel_fuel (e : Ev) (c : Nat) (r : ChannelRec) : (e.setChannel c r).fuel = e.fuel := rfl
@[simp] theorem Ev.setChannel_wash (e : Ev) (c : Nat) (r : ChannelRec) : (e.setChannel c r).wash = e.wash := rfl
@[simp] theorem Ev.setChannel_pullOut (e : Ev) (c : Nat) (r : ChannelRec) : (e.setChannel c r).pullOut = e.pullOut := rfl
@[simp] theorem Ev.setChannel_nodes (e : Ev) (c : Nat) (r : ChannelRec) : (e.setChannel c r).nodes = e.nodes := rfl
@[simp] theorem Ev.setChannel_field (e : Ev) (c : Nat) (r : ChannelRec) : (e.setChannel c r).field = e.field := rfl
@[simp] theorem Ev.setChannel_commands (e : Ev) (c : Nat) (r : ChannelRec) : (e.setChannel c r).commands = e.commands := rfl
@[simp] theorem Ev.setChannel_counters (e : Ev) (c : Nat) (r : ChannelRec) : (e.setChannel c r).counters = e.counters := rfl
@[simp] theorem Ev.setChannel_notices (e : Ev) (c : Nat) (r : ChannelRec) : (e.setChannel c r).notices = e.notices := rfl
@[simp] theorem Ev.setChannel_office (e : Ev) (c : Nat) (r : ChannelRec) : (e.setChannel c r).office = e.office := rfl
@[simp] theorem Ev.setChannel_params (e : Ev) (c : Nat) (r : ChannelRec) : (e.setChannel c r).params = e.params := rfl
@[simp] theorem Ev.setChannel_serial (e : Ev) (c : Nat) (r : ChannelRec) : (e.setChannel c r).serial = e.serial := rfl
@[simp] theorem Ev.setChannel_choice (e : Ev) (c : Nat) (r : ChannelRec) : (e.setChannel c r).choice = e.choice := rfl
@[simp] theorem Ev.setChannel_pending (e : Ev) (c : Nat) (r : ChannelRec) : (e.setChannel c r).pending = e.pending := rfl
@[simp] theorem Ev.setChannel_outs (e : Ev) (c : Nat) (r : ChannelRec) : (e.setChannel c r).outs = e.outs := rfl
@[simp] theorem Ev.setChannel_rerunDue (e : Ev) (c : Nat) (r : ChannelRec) : (e.setChannel c r).rerunDue = e.rerunDue := rfl
@[simp] theorem Ev.setChannel_fuelDue (e : Ev) (c : Nat) (r : ChannelRec) : (e.setChannel c r).fuelDue = e.fuelDue := rfl
@[simp] theorem Ev.setChannel_washDue (e : Ev) (c : Nat) (r : ChannelRec) : (e.setChannel c r).washDue = e.washDue := rfl
@[simp] theorem Ev.setChannel_pullDue (e : Ev) (c : Nat) (r : ChannelRec) : (e.setChannel c r).pullDue = e.pullDue := rfl
@[simp] theorem Ev.setChannel_heldBack (e : Ev) (c : Nat) (r : ChannelRec) : (e.setChannel c r).heldBack = e.heldBack := rfl
@[simp] theorem Ev.setChannel_washBack (e : Ev) (c : Nat) (r : ChannelRec) : (e.setChannel c r).washBack = e.washBack := rfl
@[simp] theorem Ev.setChannel_washLanesBack (e : Ev) (c : Nat) (r : ChannelRec) : (e.setChannel c r).washLanesBack = e.washLanesBack := rfl
@[simp] theorem Ev.setChannel_releasedHere (e : Ev) (c : Nat) (r : ChannelRec) : (e.setChannel c r).releasedHere = e.releasedHere := rfl
@[simp] theorem Ev.setChannel_entered (e : Ev) (c : Nat) (r : ChannelRec) : (e.setChannel c r).entered = e.entered := rfl
@[simp] theorem Ev.setChannel_bus (e : Ev) (c : Nat) (r : ChannelRec) (b' : Nat) : (e.setChannel c r).bus b' = e.bus b' := rfl
@[simp] theorem Ev.setChannel_cls (e : Ev) (c : Nat) (r : ChannelRec) (c' : Nat) : (e.setChannel c r).cls c' = e.cls c' := rfl
@[simp] theorem Ev.setChannel_lane (e : Ev) (c : Nat) (r : ChannelRec) (l' : Nat) : (e.setChannel c r).lane l' = e.lane l' := rfl
@[simp] theorem Ev.setChannel_duty (e : Ev) (c : Nat) (r : ChannelRec) (d' : Nat) : (e.setChannel c r).duty d' = e.duty d' := rfl
@[simp] theorem Ev.setChannel_release (e : Ev) (c : Nat) (r : ChannelRec) (l' : Nat) : (e.setChannel c r).release l' = e.release l' := rfl
@[simp] theorem Ev.setChannel_dispenser (e : Ev) (c : Nat) (r : ChannelRec) (d' : Nat) : (e.setChannel c r).dispenser d' = e.dispenser d' := rfl
@[simp] theorem Ev.setChannel_washLane (e : Ev) (c : Nat) (r : ChannelRec) (w' : Nat) : (e.setChannel c r).washLane w' = e.washLane w' := rfl
@[simp] theorem Ev.setChannel_node (e : Ev) (c : Nat) (r : ChannelRec) (n' : Nat) : (e.setChannel c r).node n' = e.node n' := rfl
@[simp] theorem Ev.setChannel_now (e : Ev) (c : Nat) (r : ChannelRec) : (e.setChannel c r).now = e.now := rfl
@[simp] theorem Ev.setChannel_mode (e : Ev) (c : Nat) (r : ChannelRec) : (e.setChannel c r).mode = e.mode := rfl
@[simp] theorem Ev.setChannel_changePending (e : Ev) (c : Nat) (r : ChannelRec) : (e.setChannel c r).changePending = e.changePending := rfl
@[simp] theorem Ev.setChannel_scheduleWindow (e : Ev) (c : Nat) (r : ChannelRec) : (e.setChannel c r).scheduleWindow = e.scheduleWindow := rfl
/-- What reads back. -/
theorem Ev.setChannel_channel (e : Ev) (c : Nat) (r : ChannelRec) (j : Nat) : (e.setChannel c r).channel j = if c = j ∧ j < 80 then r else e.channel j :=
  tget_tset _ _ _ _
@[simp] theorem Ev.setChannel_channel_other (e : Ev) (c : Nat) (r : ChannelRec) (j : Nat) (h : c ≠ j) : (e.setChannel c r).channel j = e.channel j :=
  tget_tset_other _ _ h
@[simp] theorem Ev.setChannel_channel_same (e : Ev) (c : Nat) (r : ChannelRec) (h : c < 80) : (e.setChannel c r).channel c = r :=
  tget_tset_same _ _ h

/-! ### setNode -/

@[simp] theorem Ev.setNode_clock (e : Ev) (n : Nat) (r : NodeRec) : (e.setNode n r).clock = e.clock := rfl
@[simp] theorem Ev.setNode_gate (e : Ev) (n : Nat) (r : NodeRec) : (e.setNode n r).gate = e.gate := rfl
@[simp] theorem Ev.setNode_laneMap (e : Ev) (n : Nat) (r : NodeRec) : (e.setNode n r).laneMap = e.laneMap := rfl
@[simp] theorem Ev.setNode_holdList (e : Ev) (n : Nat) (r : NodeRec) : (e.setNode n r).holdList = e.holdList := rfl
@[simp] theorem Ev.setNode_fuel (e : Ev) (n : Nat) (r : NodeRec) : (e.setNode n r).fuel = e.fuel := rfl
@[simp] theorem Ev.setNode_wash (e : Ev) (n : Nat) (r : NodeRec) : (e.setNode n r).wash = e.wash := rfl
@[simp] theorem Ev.setNode_pullOut (e : Ev) (n : Nat) (r : NodeRec) : (e.setNode n r).pullOut = e.pullOut := rfl
@[simp] theorem Ev.setNode_channels (e : Ev) (n : Nat) (r : NodeRec) : (e.setNode n r).channels = e.channels := rfl
@[simp] theorem Ev.setNode_field (e : Ev) (n : Nat) (r : NodeRec) : (e.setNode n r).field = e.field := rfl
@[simp] theorem Ev.setNode_commands (e : Ev) (n : Nat) (r : NodeRec) : (e.setNode n r).commands = e.commands := rfl
@[simp] theorem Ev.setNode_counters (e : Ev) (n : Nat) (r : NodeRec) : (e.setNode n r).counters = e.counters := rfl
@[simp] theorem Ev.setNode_notices (e : Ev) (n : Nat) (r : NodeRec) : (e.setNode n r).notices = e.notices := rfl
@[simp] theorem Ev.setNode_office (e : Ev) (n : Nat) (r : NodeRec) : (e.setNode n r).office = e.office := rfl
@[simp] theorem Ev.setNode_params (e : Ev) (n : Nat) (r : NodeRec) : (e.setNode n r).params = e.params := rfl
@[simp] theorem Ev.setNode_serial (e : Ev) (n : Nat) (r : NodeRec) : (e.setNode n r).serial = e.serial := rfl
@[simp] theorem Ev.setNode_choice (e : Ev) (n : Nat) (r : NodeRec) : (e.setNode n r).choice = e.choice := rfl
@[simp] theorem Ev.setNode_pending (e : Ev) (n : Nat) (r : NodeRec) : (e.setNode n r).pending = e.pending := rfl
@[simp] theorem Ev.setNode_outs (e : Ev) (n : Nat) (r : NodeRec) : (e.setNode n r).outs = e.outs := rfl
@[simp] theorem Ev.setNode_rerunDue (e : Ev) (n : Nat) (r : NodeRec) : (e.setNode n r).rerunDue = e.rerunDue := rfl
@[simp] theorem Ev.setNode_fuelDue (e : Ev) (n : Nat) (r : NodeRec) : (e.setNode n r).fuelDue = e.fuelDue := rfl
@[simp] theorem Ev.setNode_washDue (e : Ev) (n : Nat) (r : NodeRec) : (e.setNode n r).washDue = e.washDue := rfl
@[simp] theorem Ev.setNode_pullDue (e : Ev) (n : Nat) (r : NodeRec) : (e.setNode n r).pullDue = e.pullDue := rfl
@[simp] theorem Ev.setNode_heldBack (e : Ev) (n : Nat) (r : NodeRec) : (e.setNode n r).heldBack = e.heldBack := rfl
@[simp] theorem Ev.setNode_washBack (e : Ev) (n : Nat) (r : NodeRec) : (e.setNode n r).washBack = e.washBack := rfl
@[simp] theorem Ev.setNode_washLanesBack (e : Ev) (n : Nat) (r : NodeRec) : (e.setNode n r).washLanesBack = e.washLanesBack := rfl
@[simp] theorem Ev.setNode_releasedHere (e : Ev) (n : Nat) (r : NodeRec) : (e.setNode n r).releasedHere = e.releasedHere := rfl
@[simp] theorem Ev.setNode_entered (e : Ev) (n : Nat) (r : NodeRec) : (e.setNode n r).entered = e.entered := rfl
@[simp] theorem Ev.setNode_bus (e : Ev) (n : Nat) (r : NodeRec) (b' : Nat) : (e.setNode n r).bus b' = e.bus b' := rfl
@[simp] theorem Ev.setNode_cls (e : Ev) (n : Nat) (r : NodeRec) (c' : Nat) : (e.setNode n r).cls c' = e.cls c' := rfl
@[simp] theorem Ev.setNode_lane (e : Ev) (n : Nat) (r : NodeRec) (l' : Nat) : (e.setNode n r).lane l' = e.lane l' := rfl
@[simp] theorem Ev.setNode_duty (e : Ev) (n : Nat) (r : NodeRec) (d' : Nat) : (e.setNode n r).duty d' = e.duty d' := rfl
@[simp] theorem Ev.setNode_release (e : Ev) (n : Nat) (r : NodeRec) (l' : Nat) : (e.setNode n r).release l' = e.release l' := rfl
@[simp] theorem Ev.setNode_dispenser (e : Ev) (n : Nat) (r : NodeRec) (d' : Nat) : (e.setNode n r).dispenser d' = e.dispenser d' := rfl
@[simp] theorem Ev.setNode_washLane (e : Ev) (n : Nat) (r : NodeRec) (w' : Nat) : (e.setNode n r).washLane w' = e.washLane w' := rfl
@[simp] theorem Ev.setNode_channel (e : Ev) (n : Nat) (r : NodeRec) (c' : Nat) : (e.setNode n r).channel c' = e.channel c' := rfl
@[simp] theorem Ev.setNode_now (e : Ev) (n : Nat) (r : NodeRec) : (e.setNode n r).now = e.now := rfl
@[simp] theorem Ev.setNode_mode (e : Ev) (n : Nat) (r : NodeRec) : (e.setNode n r).mode = e.mode := rfl
@[simp] theorem Ev.setNode_changePending (e : Ev) (n : Nat) (r : NodeRec) : (e.setNode n r).changePending = e.changePending := rfl
@[simp] theorem Ev.setNode_scheduleWindow (e : Ev) (n : Nat) (r : NodeRec) : (e.setNode n r).scheduleWindow = e.scheduleWindow := rfl
/-- What reads back. Address 0 is no node. -/
theorem Ev.setNode_node (e : Ev) (n : Nat) (r : NodeRec) (j : Nat) :
    (e.setNode n r).node j = if n = j ∧ j < 64 ∧ j ≠ 0 then r else e.node j := by
  unfold State.node
  by_cases h : j = 0
  · simp [h]
  · simp only [h, if_false, ne_eq, not_false_eq_true, and_true]
    exact tget_tset _ _ _ _
@[simp] theorem Ev.setNode_node_other (e : Ev) (n : Nat) (r : NodeRec) (j : Nat) (h : n ≠ j) : (e.setNode n r).node j = e.node j := by
  simp [Ev.setNode_node, h]
@[simp] theorem Ev.setNode_node_same (e : Ev) (n : Nat) (r : NodeRec) (h : n < 64) (h0 : n ≠ 0) : (e.setNode n r).node n = r := by
  simp [Ev.setNode_node, h, h0]

/-! ### setCommands -/

@[simp] theorem Ev.setCommands_clock (e : Ev) (q : List CommandEntry) : (e.setCommands q).clock = e.clock := rfl
@[simp] theorem Ev.setCommands_gate (e : Ev) (q : List CommandEntry) : (e.setCommands q).gate = e.gate := rfl
@[simp] theorem Ev.setCommands_laneMap (e : Ev) (q : List CommandEntry) : (e.setCommands q).laneMap = e.laneMap := rfl
@[simp] theorem Ev.setCommands_holdList (e : Ev) (q : List CommandEntry) : (e.setCommands q).holdList = e.holdList := rfl
@[simp] theorem Ev.setCommands_fuel (e : Ev) (q : List CommandEntry) : (e.setCommands q).fuel = e.fuel := rfl
@[simp] theorem Ev.setCommands_wash (e : Ev) (q : List CommandEntry) : (e.setCommands q).wash = e.wash := rfl
@[simp] theorem Ev.setCommands_pullOut (e : Ev) (q : List CommandEntry) : (e.setCommands q).pullOut = e.pullOut := rfl
@[simp] theorem Ev.setCommands_channels (e : Ev) (q : List CommandEntry) : (e.setCommands q).channels = e.channels := rfl
@[simp] theorem Ev.setCommands_nodes (e : Ev) (q : List CommandEntry) : (e.setCommands q).nodes = e.nodes := rfl
@[simp] theorem Ev.setCommands_field (e : Ev) (q : List CommandEntry) : (e.setCommands q).field = e.field := rfl
@[simp] theorem Ev.setCommands_counters (e : Ev) (q : List CommandEntry) : (e.setCommands q).counters = e.counters := rfl
@[simp] theorem Ev.setCommands_notices (e : Ev) (q : List CommandEntry) : (e.setCommands q).notices = e.notices := rfl
@[simp] theorem Ev.setCommands_office (e : Ev) (q : List CommandEntry) : (e.setCommands q).office = e.office := rfl
@[simp] theorem Ev.setCommands_params (e : Ev) (q : List CommandEntry) : (e.setCommands q).params = e.params := rfl
@[simp] theorem Ev.setCommands_serial (e : Ev) (q : List CommandEntry) : (e.setCommands q).serial = e.serial := rfl
@[simp] theorem Ev.setCommands_choice (e : Ev) (q : List CommandEntry) : (e.setCommands q).choice = e.choice := rfl
@[simp] theorem Ev.setCommands_pending (e : Ev) (q : List CommandEntry) : (e.setCommands q).pending = e.pending := rfl
@[simp] theorem Ev.setCommands_outs (e : Ev) (q : List CommandEntry) : (e.setCommands q).outs = e.outs := rfl
@[simp] theorem Ev.setCommands_rerunDue (e : Ev) (q : List CommandEntry) : (e.setCommands q).rerunDue = e.rerunDue := rfl
@[simp] theorem Ev.setCommands_fuelDue (e : Ev) (q : List CommandEntry) : (e.setCommands q).fuelDue = e.fuelDue := rfl
@[simp] theorem Ev.setCommands_washDue (e : Ev) (q : List CommandEntry) : (e.setCommands q).washDue = e.washDue := rfl
@[simp] theorem Ev.setCommands_pullDue (e : Ev) (q : List CommandEntry) : (e.setCommands q).pullDue = e.pullDue := rfl
@[simp] theorem Ev.setCommands_heldBack (e : Ev) (q : List CommandEntry) : (e.setCommands q).heldBack = e.heldBack := rfl
@[simp] theorem Ev.setCommands_washBack (e : Ev) (q : List CommandEntry) : (e.setCommands q).washBack = e.washBack := rfl
@[simp] theorem Ev.setCommands_washLanesBack (e : Ev) (q : List CommandEntry) : (e.setCommands q).washLanesBack = e.washLanesBack := rfl
@[simp] theorem Ev.setCommands_releasedHere (e : Ev) (q : List CommandEntry) : (e.setCommands q).releasedHere = e.releasedHere := rfl
@[simp] theorem Ev.setCommands_entered (e : Ev) (q : List CommandEntry) : (e.setCommands q).entered = e.entered := rfl
@[simp] theorem Ev.setCommands_commands_tx (e : Ev) (q : List CommandEntry) : (e.setCommands q).commands.tx = e.commands.tx := rfl
@[simp] theorem Ev.setCommands_bus (e : Ev) (q : List CommandEntry) (b' : Nat) : (e.setCommands q).bus b' = e.bus b' := rfl
@[simp] theorem Ev.setCommands_cls (e : Ev) (q : List CommandEntry) (c' : Nat) : (e.setCommands q).cls c' = e.cls c' := rfl
@[simp] theorem Ev.setCommands_lane (e : Ev) (q : List CommandEntry) (l' : Nat) : (e.setCommands q).lane l' = e.lane l' := rfl
@[simp] theorem Ev.setCommands_duty (e : Ev) (q : List CommandEntry) (d' : Nat) : (e.setCommands q).duty d' = e.duty d' := rfl
@[simp] theorem Ev.setCommands_release (e : Ev) (q : List CommandEntry) (l' : Nat) : (e.setCommands q).release l' = e.release l' := rfl
@[simp] theorem Ev.setCommands_dispenser (e : Ev) (q : List CommandEntry) (d' : Nat) : (e.setCommands q).dispenser d' = e.dispenser d' := rfl
@[simp] theorem Ev.setCommands_washLane (e : Ev) (q : List CommandEntry) (w' : Nat) : (e.setCommands q).washLane w' = e.washLane w' := rfl
@[simp] theorem Ev.setCommands_channel (e : Ev) (q : List CommandEntry) (c' : Nat) : (e.setCommands q).channel c' = e.channel c' := rfl
@[simp] theorem Ev.setCommands_node (e : Ev) (q : List CommandEntry) (n' : Nat) : (e.setCommands q).node n' = e.node n' := rfl
@[simp] theorem Ev.setCommands_now (e : Ev) (q : List CommandEntry) : (e.setCommands q).now = e.now := rfl
@[simp] theorem Ev.setCommands_mode (e : Ev) (q : List CommandEntry) : (e.setCommands q).mode = e.mode := rfl
@[simp] theorem Ev.setCommands_changePending (e : Ev) (q : List CommandEntry) : (e.setCommands q).changePending = e.changePending := rfl
@[simp] theorem Ev.setCommands_scheduleWindow (e : Ev) (q : List CommandEntry) : (e.setCommands q).scheduleWindow = e.scheduleWindow := rfl
@[simp] theorem Ev.setCommands_commands_queue (e : Ev) (q : List CommandEntry) : (e.setCommands q).commands.queue = q := rfl

/-! ### triggerRerun -/

@[simp] theorem Ev.triggerRerun_clock (e : Ev) : (e.triggerRerun).clock = e.clock := rfl
@[simp] theorem Ev.triggerRerun_gate (e : Ev) : (e.triggerRerun).gate = e.gate := rfl
@[simp] theorem Ev.triggerRerun_laneMap (e : Ev) : (e.triggerRerun).laneMap = e.laneMap := rfl
@[simp] theorem Ev.triggerRerun_holdList (e : Ev) : (e.triggerRerun).holdList = e.holdList := rfl
@[simp] theorem Ev.triggerRerun_fuel (e : Ev) : (e.triggerRerun).fuel = e.fuel := rfl
@[simp] theorem Ev.triggerRerun_wash (e : Ev) : (e.triggerRerun).wash = e.wash := rfl
@[simp] theorem Ev.triggerRerun_pullOut (e : Ev) : (e.triggerRerun).pullOut = e.pullOut := rfl
@[simp] theorem Ev.triggerRerun_channels (e : Ev) : (e.triggerRerun).channels = e.channels := rfl
@[simp] theorem Ev.triggerRerun_nodes (e : Ev) : (e.triggerRerun).nodes = e.nodes := rfl
@[simp] theorem Ev.triggerRerun_field (e : Ev) : (e.triggerRerun).field = e.field := rfl
@[simp] theorem Ev.triggerRerun_commands (e : Ev) : (e.triggerRerun).commands = e.commands := rfl
@[simp] theorem Ev.triggerRerun_counters (e : Ev) : (e.triggerRerun).counters = e.counters := rfl
@[simp] theorem Ev.triggerRerun_notices (e : Ev) : (e.triggerRerun).notices = e.notices := rfl
@[simp] theorem Ev.triggerRerun_office (e : Ev) : (e.triggerRerun).office = e.office := rfl
@[simp] theorem Ev.triggerRerun_params (e : Ev) : (e.triggerRerun).params = e.params := rfl
@[simp] theorem Ev.triggerRerun_serial (e : Ev) : (e.triggerRerun).serial = e.serial := rfl
@[simp] theorem Ev.triggerRerun_choice (e : Ev) : (e.triggerRerun).choice = e.choice := rfl
@[simp] theorem Ev.triggerRerun_pending (e : Ev) : (e.triggerRerun).pending = e.pending := rfl
@[simp] theorem Ev.triggerRerun_outs (e : Ev) : (e.triggerRerun).outs = e.outs := rfl
@[simp] theorem Ev.triggerRerun_fuelDue (e : Ev) : (e.triggerRerun).fuelDue = e.fuelDue := rfl
@[simp] theorem Ev.triggerRerun_washDue (e : Ev) : (e.triggerRerun).washDue = e.washDue := rfl
@[simp] theorem Ev.triggerRerun_pullDue (e : Ev) : (e.triggerRerun).pullDue = e.pullDue := rfl
@[simp] theorem Ev.triggerRerun_heldBack (e : Ev) : (e.triggerRerun).heldBack = e.heldBack := rfl
@[simp] theorem Ev.triggerRerun_washBack (e : Ev) : (e.triggerRerun).washBack = e.washBack := rfl
@[simp] theorem Ev.triggerRerun_washLanesBack (e : Ev) : (e.triggerRerun).washLanesBack = e.washLanesBack := rfl
@[simp] theorem Ev.triggerRerun_releasedHere (e : Ev) : (e.triggerRerun).releasedHere = e.releasedHere := rfl
@[simp] theorem Ev.triggerRerun_entered (e : Ev) : (e.triggerRerun).entered = e.entered := rfl
@[simp] theorem Ev.triggerRerun_bus (e : Ev) (b' : Nat) : (e.triggerRerun).bus b' = e.bus b' := rfl
@[simp] theorem Ev.triggerRerun_cls (e : Ev) (c' : Nat) : (e.triggerRerun).cls c' = e.cls c' := rfl
@[simp] theorem Ev.triggerRerun_lane (e : Ev) (l' : Nat) : (e.triggerRerun).lane l' = e.lane l' := rfl
@[simp] theorem Ev.triggerRerun_duty (e : Ev) (d' : Nat) : (e.triggerRerun).duty d' = e.duty d' := rfl
@[simp] theorem Ev.triggerRerun_release (e : Ev) (l' : Nat) : (e.triggerRerun).release l' = e.release l' := rfl
@[simp] theorem Ev.triggerRerun_dispenser (e : Ev) (d' : Nat) : (e.triggerRerun).dispenser d' = e.dispenser d' := rfl
@[simp] theorem Ev.triggerRerun_washLane (e : Ev) (w' : Nat) : (e.triggerRerun).washLane w' = e.washLane w' := rfl
@[simp] theorem Ev.triggerRerun_channel (e : Ev) (c' : Nat) : (e.triggerRerun).channel c' = e.channel c' := rfl
@[simp] theorem Ev.triggerRerun_node (e : Ev) (n' : Nat) : (e.triggerRerun).node n' = e.node n' := rfl
@[simp] theorem Ev.triggerRerun_now (e : Ev) : (e.triggerRerun).now = e.now := rfl
@[simp] theorem Ev.triggerRerun_mode (e : Ev) : (e.triggerRerun).mode = e.mode := rfl
@[simp] theorem Ev.triggerRerun_changePending (e : Ev) : (e.triggerRerun).changePending = e.changePending := rfl
@[simp] theorem Ev.triggerRerun_scheduleWindow (e : Ev) : (e.triggerRerun).scheduleWindow = e.scheduleWindow := rfl
@[simp] theorem Ev.triggerRerun_rerunDue (e : Ev) : (e.triggerRerun).rerunDue = true := rfl

/-! ### triggerFuel -/

@[simp] theorem Ev.triggerFuel_clock (e : Ev) : (e.triggerFuel).clock = e.clock := rfl
@[simp] theorem Ev.triggerFuel_gate (e : Ev) : (e.triggerFuel).gate = e.gate := rfl
@[simp] theorem Ev.triggerFuel_laneMap (e : Ev) : (e.triggerFuel).laneMap = e.laneMap := rfl
@[simp] theorem Ev.triggerFuel_holdList (e : Ev) : (e.triggerFuel).holdList = e.holdList := rfl
@[simp] theorem Ev.triggerFuel_fuel (e : Ev) : (e.triggerFuel).fuel = e.fuel := rfl
@[simp] theorem Ev.triggerFuel_wash (e : Ev) : (e.triggerFuel).wash = e.wash := rfl
@[simp] theorem Ev.triggerFuel_pullOut (e : Ev) : (e.triggerFuel).pullOut = e.pullOut := rfl
@[simp] theorem Ev.triggerFuel_channels (e : Ev) : (e.triggerFuel).channels = e.channels := rfl
@[simp] theorem Ev.triggerFuel_nodes (e : Ev) : (e.triggerFuel).nodes = e.nodes := rfl
@[simp] theorem Ev.triggerFuel_field (e : Ev) : (e.triggerFuel).field = e.field := rfl
@[simp] theorem Ev.triggerFuel_commands (e : Ev) : (e.triggerFuel).commands = e.commands := rfl
@[simp] theorem Ev.triggerFuel_counters (e : Ev) : (e.triggerFuel).counters = e.counters := rfl
@[simp] theorem Ev.triggerFuel_notices (e : Ev) : (e.triggerFuel).notices = e.notices := rfl
@[simp] theorem Ev.triggerFuel_office (e : Ev) : (e.triggerFuel).office = e.office := rfl
@[simp] theorem Ev.triggerFuel_params (e : Ev) : (e.triggerFuel).params = e.params := rfl
@[simp] theorem Ev.triggerFuel_serial (e : Ev) : (e.triggerFuel).serial = e.serial := rfl
@[simp] theorem Ev.triggerFuel_choice (e : Ev) : (e.triggerFuel).choice = e.choice := rfl
@[simp] theorem Ev.triggerFuel_pending (e : Ev) : (e.triggerFuel).pending = e.pending := rfl
@[simp] theorem Ev.triggerFuel_outs (e : Ev) : (e.triggerFuel).outs = e.outs := rfl
@[simp] theorem Ev.triggerFuel_rerunDue (e : Ev) : (e.triggerFuel).rerunDue = e.rerunDue := rfl
@[simp] theorem Ev.triggerFuel_washDue (e : Ev) : (e.triggerFuel).washDue = e.washDue := rfl
@[simp] theorem Ev.triggerFuel_pullDue (e : Ev) : (e.triggerFuel).pullDue = e.pullDue := rfl
@[simp] theorem Ev.triggerFuel_heldBack (e : Ev) : (e.triggerFuel).heldBack = e.heldBack := rfl
@[simp] theorem Ev.triggerFuel_washBack (e : Ev) : (e.triggerFuel).washBack = e.washBack := rfl
@[simp] theorem Ev.triggerFuel_washLanesBack (e : Ev) : (e.triggerFuel).washLanesBack = e.washLanesBack := rfl
@[simp] theorem Ev.triggerFuel_releasedHere (e : Ev) : (e.triggerFuel).releasedHere = e.releasedHere := rfl
@[simp] theorem Ev.triggerFuel_entered (e : Ev) : (e.triggerFuel).entered = e.entered := rfl
@[simp] theorem Ev.triggerFuel_bus (e : Ev) (b' : Nat) : (e.triggerFuel).bus b' = e.bus b' := rfl
@[simp] theorem Ev.triggerFuel_cls (e : Ev) (c' : Nat) : (e.triggerFuel).cls c' = e.cls c' := rfl
@[simp] theorem Ev.triggerFuel_lane (e : Ev) (l' : Nat) : (e.triggerFuel).lane l' = e.lane l' := rfl
@[simp] theorem Ev.triggerFuel_duty (e : Ev) (d' : Nat) : (e.triggerFuel).duty d' = e.duty d' := rfl
@[simp] theorem Ev.triggerFuel_release (e : Ev) (l' : Nat) : (e.triggerFuel).release l' = e.release l' := rfl
@[simp] theorem Ev.triggerFuel_dispenser (e : Ev) (d' : Nat) : (e.triggerFuel).dispenser d' = e.dispenser d' := rfl
@[simp] theorem Ev.triggerFuel_washLane (e : Ev) (w' : Nat) : (e.triggerFuel).washLane w' = e.washLane w' := rfl
@[simp] theorem Ev.triggerFuel_channel (e : Ev) (c' : Nat) : (e.triggerFuel).channel c' = e.channel c' := rfl
@[simp] theorem Ev.triggerFuel_node (e : Ev) (n' : Nat) : (e.triggerFuel).node n' = e.node n' := rfl
@[simp] theorem Ev.triggerFuel_now (e : Ev) : (e.triggerFuel).now = e.now := rfl
@[simp] theorem Ev.triggerFuel_mode (e : Ev) : (e.triggerFuel).mode = e.mode := rfl
@[simp] theorem Ev.triggerFuel_changePending (e : Ev) : (e.triggerFuel).changePending = e.changePending := rfl
@[simp] theorem Ev.triggerFuel_scheduleWindow (e : Ev) : (e.triggerFuel).scheduleWindow = e.scheduleWindow := rfl
@[simp] theorem Ev.triggerFuel_fuelDue (e : Ev) : (e.triggerFuel).fuelDue = true := rfl

/-! ### triggerWash -/

@[simp] theorem Ev.triggerWash_clock (e : Ev) : (e.triggerWash).clock = e.clock := rfl
@[simp] theorem Ev.triggerWash_gate (e : Ev) : (e.triggerWash).gate = e.gate := rfl
@[simp] theorem Ev.triggerWash_laneMap (e : Ev) : (e.triggerWash).laneMap = e.laneMap := rfl
@[simp] theorem Ev.triggerWash_holdList (e : Ev) : (e.triggerWash).holdList = e.holdList := rfl
@[simp] theorem Ev.triggerWash_fuel (e : Ev) : (e.triggerWash).fuel = e.fuel := rfl
@[simp] theorem Ev.triggerWash_wash (e : Ev) : (e.triggerWash).wash = e.wash := rfl
@[simp] theorem Ev.triggerWash_pullOut (e : Ev) : (e.triggerWash).pullOut = e.pullOut := rfl
@[simp] theorem Ev.triggerWash_channels (e : Ev) : (e.triggerWash).channels = e.channels := rfl
@[simp] theorem Ev.triggerWash_nodes (e : Ev) : (e.triggerWash).nodes = e.nodes := rfl
@[simp] theorem Ev.triggerWash_field (e : Ev) : (e.triggerWash).field = e.field := rfl
@[simp] theorem Ev.triggerWash_commands (e : Ev) : (e.triggerWash).commands = e.commands := rfl
@[simp] theorem Ev.triggerWash_counters (e : Ev) : (e.triggerWash).counters = e.counters := rfl
@[simp] theorem Ev.triggerWash_notices (e : Ev) : (e.triggerWash).notices = e.notices := rfl
@[simp] theorem Ev.triggerWash_office (e : Ev) : (e.triggerWash).office = e.office := rfl
@[simp] theorem Ev.triggerWash_params (e : Ev) : (e.triggerWash).params = e.params := rfl
@[simp] theorem Ev.triggerWash_serial (e : Ev) : (e.triggerWash).serial = e.serial := rfl
@[simp] theorem Ev.triggerWash_choice (e : Ev) : (e.triggerWash).choice = e.choice := rfl
@[simp] theorem Ev.triggerWash_pending (e : Ev) : (e.triggerWash).pending = e.pending := rfl
@[simp] theorem Ev.triggerWash_outs (e : Ev) : (e.triggerWash).outs = e.outs := rfl
@[simp] theorem Ev.triggerWash_rerunDue (e : Ev) : (e.triggerWash).rerunDue = e.rerunDue := rfl
@[simp] theorem Ev.triggerWash_fuelDue (e : Ev) : (e.triggerWash).fuelDue = e.fuelDue := rfl
@[simp] theorem Ev.triggerWash_pullDue (e : Ev) : (e.triggerWash).pullDue = e.pullDue := rfl
@[simp] theorem Ev.triggerWash_heldBack (e : Ev) : (e.triggerWash).heldBack = e.heldBack := rfl
@[simp] theorem Ev.triggerWash_washBack (e : Ev) : (e.triggerWash).washBack = e.washBack := rfl
@[simp] theorem Ev.triggerWash_washLanesBack (e : Ev) : (e.triggerWash).washLanesBack = e.washLanesBack := rfl
@[simp] theorem Ev.triggerWash_releasedHere (e : Ev) : (e.triggerWash).releasedHere = e.releasedHere := rfl
@[simp] theorem Ev.triggerWash_entered (e : Ev) : (e.triggerWash).entered = e.entered := rfl
@[simp] theorem Ev.triggerWash_bus (e : Ev) (b' : Nat) : (e.triggerWash).bus b' = e.bus b' := rfl
@[simp] theorem Ev.triggerWash_cls (e : Ev) (c' : Nat) : (e.triggerWash).cls c' = e.cls c' := rfl
@[simp] theorem Ev.triggerWash_lane (e : Ev) (l' : Nat) : (e.triggerWash).lane l' = e.lane l' := rfl
@[simp] theorem Ev.triggerWash_duty (e : Ev) (d' : Nat) : (e.triggerWash).duty d' = e.duty d' := rfl
@[simp] theorem Ev.triggerWash_release (e : Ev) (l' : Nat) : (e.triggerWash).release l' = e.release l' := rfl
@[simp] theorem Ev.triggerWash_dispenser (e : Ev) (d' : Nat) : (e.triggerWash).dispenser d' = e.dispenser d' := rfl
@[simp] theorem Ev.triggerWash_washLane (e : Ev) (w' : Nat) : (e.triggerWash).washLane w' = e.washLane w' := rfl
@[simp] theorem Ev.triggerWash_channel (e : Ev) (c' : Nat) : (e.triggerWash).channel c' = e.channel c' := rfl
@[simp] theorem Ev.triggerWash_node (e : Ev) (n' : Nat) : (e.triggerWash).node n' = e.node n' := rfl
@[simp] theorem Ev.triggerWash_now (e : Ev) : (e.triggerWash).now = e.now := rfl
@[simp] theorem Ev.triggerWash_mode (e : Ev) : (e.triggerWash).mode = e.mode := rfl
@[simp] theorem Ev.triggerWash_changePending (e : Ev) : (e.triggerWash).changePending = e.changePending := rfl
@[simp] theorem Ev.triggerWash_scheduleWindow (e : Ev) : (e.triggerWash).scheduleWindow = e.scheduleWindow := rfl
@[simp] theorem Ev.triggerWash_washDue (e : Ev) : (e.triggerWash).washDue = true := rfl

/-! ### triggerPull -/

@[simp] theorem Ev.triggerPull_clock (e : Ev) : (e.triggerPull).clock = e.clock := rfl
@[simp] theorem Ev.triggerPull_gate (e : Ev) : (e.triggerPull).gate = e.gate := rfl
@[simp] theorem Ev.triggerPull_laneMap (e : Ev) : (e.triggerPull).laneMap = e.laneMap := rfl
@[simp] theorem Ev.triggerPull_holdList (e : Ev) : (e.triggerPull).holdList = e.holdList := rfl
@[simp] theorem Ev.triggerPull_fuel (e : Ev) : (e.triggerPull).fuel = e.fuel := rfl
@[simp] theorem Ev.triggerPull_wash (e : Ev) : (e.triggerPull).wash = e.wash := rfl
@[simp] theorem Ev.triggerPull_pullOut (e : Ev) : (e.triggerPull).pullOut = e.pullOut := rfl
@[simp] theorem Ev.triggerPull_channels (e : Ev) : (e.triggerPull).channels = e.channels := rfl
@[simp] theorem Ev.triggerPull_nodes (e : Ev) : (e.triggerPull).nodes = e.nodes := rfl
@[simp] theorem Ev.triggerPull_field (e : Ev) : (e.triggerPull).field = e.field := rfl
@[simp] theorem Ev.triggerPull_commands (e : Ev) : (e.triggerPull).commands = e.commands := rfl
@[simp] theorem Ev.triggerPull_counters (e : Ev) : (e.triggerPull).counters = e.counters := rfl
@[simp] theorem Ev.triggerPull_notices (e : Ev) : (e.triggerPull).notices = e.notices := rfl
@[simp] theorem Ev.triggerPull_office (e : Ev) : (e.triggerPull).office = e.office := rfl
@[simp] theorem Ev.triggerPull_params (e : Ev) : (e.triggerPull).params = e.params := rfl
@[simp] theorem Ev.triggerPull_serial (e : Ev) : (e.triggerPull).serial = e.serial := rfl
@[simp] theorem Ev.triggerPull_choice (e : Ev) : (e.triggerPull).choice = e.choice := rfl
@[simp] theorem Ev.triggerPull_pending (e : Ev) : (e.triggerPull).pending = e.pending := rfl
@[simp] theorem Ev.triggerPull_outs (e : Ev) : (e.triggerPull).outs = e.outs := rfl
@[simp] theorem Ev.triggerPull_rerunDue (e : Ev) : (e.triggerPull).rerunDue = e.rerunDue := rfl
@[simp] theorem Ev.triggerPull_fuelDue (e : Ev) : (e.triggerPull).fuelDue = e.fuelDue := rfl
@[simp] theorem Ev.triggerPull_washDue (e : Ev) : (e.triggerPull).washDue = e.washDue := rfl
@[simp] theorem Ev.triggerPull_heldBack (e : Ev) : (e.triggerPull).heldBack = e.heldBack := rfl
@[simp] theorem Ev.triggerPull_washBack (e : Ev) : (e.triggerPull).washBack = e.washBack := rfl
@[simp] theorem Ev.triggerPull_washLanesBack (e : Ev) : (e.triggerPull).washLanesBack = e.washLanesBack := rfl
@[simp] theorem Ev.triggerPull_releasedHere (e : Ev) : (e.triggerPull).releasedHere = e.releasedHere := rfl
@[simp] theorem Ev.triggerPull_entered (e : Ev) : (e.triggerPull).entered = e.entered := rfl
@[simp] theorem Ev.triggerPull_bus (e : Ev) (b' : Nat) : (e.triggerPull).bus b' = e.bus b' := rfl
@[simp] theorem Ev.triggerPull_cls (e : Ev) (c' : Nat) : (e.triggerPull).cls c' = e.cls c' := rfl
@[simp] theorem Ev.triggerPull_lane (e : Ev) (l' : Nat) : (e.triggerPull).lane l' = e.lane l' := rfl
@[simp] theorem Ev.triggerPull_duty (e : Ev) (d' : Nat) : (e.triggerPull).duty d' = e.duty d' := rfl
@[simp] theorem Ev.triggerPull_release (e : Ev) (l' : Nat) : (e.triggerPull).release l' = e.release l' := rfl
@[simp] theorem Ev.triggerPull_dispenser (e : Ev) (d' : Nat) : (e.triggerPull).dispenser d' = e.dispenser d' := rfl
@[simp] theorem Ev.triggerPull_washLane (e : Ev) (w' : Nat) : (e.triggerPull).washLane w' = e.washLane w' := rfl
@[simp] theorem Ev.triggerPull_channel (e : Ev) (c' : Nat) : (e.triggerPull).channel c' = e.channel c' := rfl
@[simp] theorem Ev.triggerPull_node (e : Ev) (n' : Nat) : (e.triggerPull).node n' = e.node n' := rfl
@[simp] theorem Ev.triggerPull_now (e : Ev) : (e.triggerPull).now = e.now := rfl
@[simp] theorem Ev.triggerPull_mode (e : Ev) : (e.triggerPull).mode = e.mode := rfl
@[simp] theorem Ev.triggerPull_changePending (e : Ev) : (e.triggerPull).changePending = e.changePending := rfl
@[simp] theorem Ev.triggerPull_scheduleWindow (e : Ev) : (e.triggerPull).scheduleWindow = e.scheduleWindow := rfl
@[simp] theorem Ev.triggerPull_pullDue (e : Ev) : (e.triggerPull).pullDue = true := rfl

/-! ### decideAll -/

@[simp] theorem Ev.decideAll_clock (e : Ev) (k : CommandKind) (d : Nat) (r : Result3) (cs : List Contribution) : (e.decideAll k d r cs).clock = e.clock := rfl
@[simp] theorem Ev.decideAll_gate (e : Ev) (k : CommandKind) (d : Nat) (r : Result3) (cs : List Contribution) : (e.decideAll k d r cs).gate = e.gate := rfl
@[simp] theorem Ev.decideAll_laneMap (e : Ev) (k : CommandKind) (d : Nat) (r : Result3) (cs : List Contribution) : (e.decideAll k d r cs).laneMap = e.laneMap := rfl
@[simp] theorem Ev.decideAll_holdList (e : Ev) (k : CommandKind) (d : Nat) (r : Result3) (cs : List Contribution) : (e.decideAll k d r cs).holdList = e.holdList := rfl
@[simp] theorem Ev.decideAll_fuel (e : Ev) (k : CommandKind) (d : Nat) (r : Result3) (cs : List Contribution) : (e.decideAll k d r cs).fuel = e.fuel := rfl
@[simp] theorem Ev.decideAll_wash (e : Ev) (k : CommandKind) (d : Nat) (r : Result3) (cs : List Contribution) : (e.decideAll k d r cs).wash = e.wash := rfl
@[simp] theorem Ev.decideAll_pullOut (e : Ev) (k : CommandKind) (d : Nat) (r : Result3) (cs : List Contribution) : (e.decideAll k d r cs).pullOut = e.pullOut := rfl
@[simp] theorem Ev.decideAll_channels (e : Ev) (k : CommandKind) (d : Nat) (r : Result3) (cs : List Contribution) : (e.decideAll k d r cs).channels = e.channels := rfl
@[simp] theorem Ev.decideAll_nodes (e : Ev) (k : CommandKind) (d : Nat) (r : Result3) (cs : List Contribution) : (e.decideAll k d r cs).nodes = e.nodes := rfl
@[simp] theorem Ev.decideAll_field (e : Ev) (k : CommandKind) (d : Nat) (r : Result3) (cs : List Contribution) : (e.decideAll k d r cs).field = e.field := rfl
@[simp] theorem Ev.decideAll_commands (e : Ev) (k : CommandKind) (d : Nat) (r : Result3) (cs : List Contribution) : (e.decideAll k d r cs).commands = e.commands := rfl
@[simp] theorem Ev.decideAll_counters (e : Ev) (k : CommandKind) (d : Nat) (r : Result3) (cs : List Contribution) : (e.decideAll k d r cs).counters = e.counters := rfl
@[simp] theorem Ev.decideAll_notices (e : Ev) (k : CommandKind) (d : Nat) (r : Result3) (cs : List Contribution) : (e.decideAll k d r cs).notices = e.notices := rfl
@[simp] theorem Ev.decideAll_office (e : Ev) (k : CommandKind) (d : Nat) (r : Result3) (cs : List Contribution) : (e.decideAll k d r cs).office = e.office := rfl
@[simp] theorem Ev.decideAll_params (e : Ev) (k : CommandKind) (d : Nat) (r : Result3) (cs : List Contribution) : (e.decideAll k d r cs).params = e.params := rfl
@[simp] theorem Ev.decideAll_serial (e : Ev) (k : CommandKind) (d : Nat) (r : Result3) (cs : List Contribution) : (e.decideAll k d r cs).serial = e.serial := rfl
@[simp] theorem Ev.decideAll_choice (e : Ev) (k : CommandKind) (d : Nat) (r : Result3) (cs : List Contribution) : (e.decideAll k d r cs).choice = e.choice := rfl
@[simp] theorem Ev.decideAll_pending (e : Ev) (k : CommandKind) (d : Nat) (r : Result3) (cs : List Contribution) : (e.decideAll k d r cs).pending = e.pending := rfl
@[simp] theorem Ev.decideAll_rerunDue (e : Ev) (k : CommandKind) (d : Nat) (r : Result3) (cs : List Contribution) : (e.decideAll k d r cs).rerunDue = e.rerunDue := rfl
@[simp] theorem Ev.decideAll_fuelDue (e : Ev) (k : CommandKind) (d : Nat) (r : Result3) (cs : List Contribution) : (e.decideAll k d r cs).fuelDue = e.fuelDue := rfl
@[simp] theorem Ev.decideAll_washDue (e : Ev) (k : CommandKind) (d : Nat) (r : Result3) (cs : List Contribution) : (e.decideAll k d r cs).washDue = e.washDue := rfl
@[simp] theorem Ev.decideAll_pullDue (e : Ev) (k : CommandKind) (d : Nat) (r : Result3) (cs : List Contribution) : (e.decideAll k d r cs).pullDue = e.pullDue := rfl
@[simp] theorem Ev.decideAll_heldBack (e : Ev) (k : CommandKind) (d : Nat) (r : Result3) (cs : List Contribution) : (e.decideAll k d r cs).heldBack = e.heldBack := rfl
@[simp] theorem Ev.decideAll_washBack (e : Ev) (k : CommandKind) (d : Nat) (r : Result3) (cs : List Contribution) : (e.decideAll k d r cs).washBack = e.washBack := rfl
@[simp] theorem Ev.decideAll_washLanesBack (e : Ev) (k : CommandKind) (d : Nat) (r : Result3) (cs : List Contribution) : (e.decideAll k d r cs).washLanesBack = e.washLanesBack := rfl
@[simp] theorem Ev.decideAll_releasedHere (e : Ev) (k : CommandKind) (d : Nat) (r : Result3) (cs : List Contribution) : (e.decideAll k d r cs).releasedHere = e.releasedHere := rfl
@[simp] theorem Ev.decideAll_entered (e : Ev) (k : CommandKind) (d : Nat) (r : Result3) (cs : List Contribution) : (e.decideAll k d r cs).entered = e.entered := rfl
@[simp] theorem Ev.decideAll_bus (e : Ev) (k : CommandKind) (d : Nat) (r : Result3) (cs : List Contribution) (b' : Nat) : (e.decideAll k d r cs).bus b' = e.bus b' := rfl
@[simp] theorem Ev.decideAll_cls (e : Ev) (k : CommandKind) (d : Nat) (r : Result3) (cs : List Contribution) (c' : Nat) : (e.decideAll k d r cs).cls c' = e.cls c' := rfl
@[simp] theorem Ev.decideAll_lane (e : Ev) (k : CommandKind) (d : Nat) (r : Result3) (cs : List Contribution) (l' : Nat) : (e.decideAll k d r cs).lane l' = e.lane l' := rfl
@[simp] theorem Ev.decideAll_duty (e : Ev) (k : CommandKind) (d : Nat) (r : Result3) (cs : List Contribution) (d' : Nat) : (e.decideAll k d r cs).duty d' = e.duty d' := rfl
@[simp] theorem Ev.decideAll_release (e : Ev) (k : CommandKind) (d : Nat) (r : Result3) (cs : List Contribution) (l' : Nat) : (e.decideAll k d r cs).release l' = e.release l' := rfl
@[simp] theorem Ev.decideAll_dispenser (e : Ev) (k : CommandKind) (d : Nat) (r : Result3) (cs : List Contribution) (d' : Nat) : (e.decideAll k d r cs).dispenser d' = e.dispenser d' := rfl
@[simp] theorem Ev.decideAll_washLane (e : Ev) (k : CommandKind) (d : Nat) (r : Result3) (cs : List Contribution) (w' : Nat) : (e.decideAll k d r cs).washLane w' = e.washLane w' := rfl
@[simp] theorem Ev.decideAll_channel (e : Ev) (k : CommandKind) (d : Nat) (r : Result3) (cs : List Contribution) (c' : Nat) : (e.decideAll k d r cs).channel c' = e.channel c' := rfl
@[simp] theorem Ev.decideAll_node (e : Ev) (k : CommandKind) (d : Nat) (r : Result3) (cs : List Contribution) (n' : Nat) : (e.decideAll k d r cs).node n' = e.node n' := rfl
@[simp] theorem Ev.decideAll_now (e : Ev) (k : CommandKind) (d : Nat) (r : Result3) (cs : List Contribution) : (e.decideAll k d r cs).now = e.now := rfl
@[simp] theorem Ev.decideAll_mode (e : Ev) (k : CommandKind) (d : Nat) (r : Result3) (cs : List Contribution) : (e.decideAll k d r cs).mode = e.mode := rfl
@[simp] theorem Ev.decideAll_changePending (e : Ev) (k : CommandKind) (d : Nat) (r : Result3) (cs : List Contribution) : (e.decideAll k d r cs).changePending = e.changePending := rfl
@[simp] theorem Ev.decideAll_scheduleWindow (e : Ev) (k : CommandKind) (d : Nat) (r : Result3) (cs : List Contribution) : (e.decideAll k d r cs).scheduleWindow = e.scheduleWindow := rfl

/-! ### countBy -/

@[simp] theorem Ev.countBy_clock (e : Ev) (c : Counter) (n : Nat) : (e.countBy c n).clock = e.clock := rfl
@[simp] theorem Ev.countBy_gate (e : Ev) (c : Counter) (n : Nat) : (e.countBy c n).gate = e.gate := rfl
@[simp] theorem Ev.countBy_laneMap (e : Ev) (c : Counter) (n : Nat) : (e.countBy c n).laneMap = e.laneMap := rfl
@[simp] theorem Ev.countBy_holdList (e : Ev) (c : Counter) (n : Nat) : (e.countBy c n).holdList = e.holdList := rfl
@[simp] theorem Ev.countBy_fuel (e : Ev) (c : Counter) (n : Nat) : (e.countBy c n).fuel = e.fuel := rfl
@[simp] theorem Ev.countBy_wash (e : Ev) (c : Counter) (n : Nat) : (e.countBy c n).wash = e.wash := rfl
@[simp] theorem Ev.countBy_pullOut (e : Ev) (c : Counter) (n : Nat) : (e.countBy c n).pullOut = e.pullOut := rfl
@[simp] theorem Ev.countBy_channels (e : Ev) (c : Counter) (n : Nat) : (e.countBy c n).channels = e.channels := rfl
@[simp] theorem Ev.countBy_nodes (e : Ev) (c : Counter) (n : Nat) : (e.countBy c n).nodes = e.nodes := rfl
@[simp] theorem Ev.countBy_field (e : Ev) (c : Counter) (n : Nat) : (e.countBy c n).field = e.field := rfl
@[simp] theorem Ev.countBy_commands (e : Ev) (c : Counter) (n : Nat) : (e.countBy c n).commands = e.commands := rfl
@[simp] theorem Ev.countBy_notices (e : Ev) (c : Counter) (n : Nat) : (e.countBy c n).notices = e.notices := rfl
@[simp] theorem Ev.countBy_office (e : Ev) (c : Counter) (n : Nat) : (e.countBy c n).office = e.office := rfl
@[simp] theorem Ev.countBy_params (e : Ev) (c : Counter) (n : Nat) : (e.countBy c n).params = e.params := rfl
@[simp] theorem Ev.countBy_serial (e : Ev) (c : Counter) (n : Nat) : (e.countBy c n).serial = e.serial := rfl
@[simp] theorem Ev.countBy_choice (e : Ev) (c : Counter) (n : Nat) : (e.countBy c n).choice = e.choice := rfl
@[simp] theorem Ev.countBy_pending (e : Ev) (c : Counter) (n : Nat) : (e.countBy c n).pending = e.pending := rfl
@[simp] theorem Ev.countBy_outs (e : Ev) (c : Counter) (n : Nat) : (e.countBy c n).outs = e.outs := rfl
@[simp] theorem Ev.countBy_rerunDue (e : Ev) (c : Counter) (n : Nat) : (e.countBy c n).rerunDue = e.rerunDue := rfl
@[simp] theorem Ev.countBy_fuelDue (e : Ev) (c : Counter) (n : Nat) : (e.countBy c n).fuelDue = e.fuelDue := rfl
@[simp] theorem Ev.countBy_washDue (e : Ev) (c : Counter) (n : Nat) : (e.countBy c n).washDue = e.washDue := rfl
@[simp] theorem Ev.countBy_pullDue (e : Ev) (c : Counter) (n : Nat) : (e.countBy c n).pullDue = e.pullDue := rfl
@[simp] theorem Ev.countBy_heldBack (e : Ev) (c : Counter) (n : Nat) : (e.countBy c n).heldBack = e.heldBack := rfl
@[simp] theorem Ev.countBy_washBack (e : Ev) (c : Counter) (n : Nat) : (e.countBy c n).washBack = e.washBack := rfl
@[simp] theorem Ev.countBy_washLanesBack (e : Ev) (c : Counter) (n : Nat) : (e.countBy c n).washLanesBack = e.washLanesBack := rfl
@[simp] theorem Ev.countBy_releasedHere (e : Ev) (c : Counter) (n : Nat) : (e.countBy c n).releasedHere = e.releasedHere := rfl
@[simp] theorem Ev.countBy_entered (e : Ev) (c : Counter) (n : Nat) : (e.countBy c n).entered = e.entered := rfl
@[simp] theorem Ev.countBy_bus (e : Ev) (c : Counter) (n : Nat) (b' : Nat) : (e.countBy c n).bus b' = e.bus b' := rfl
@[simp] theorem Ev.countBy_cls (e : Ev) (c : Counter) (n : Nat) (c' : Nat) : (e.countBy c n).cls c' = e.cls c' := rfl
@[simp] theorem Ev.countBy_lane (e : Ev) (c : Counter) (n : Nat) (l' : Nat) : (e.countBy c n).lane l' = e.lane l' := rfl
@[simp] theorem Ev.countBy_duty (e : Ev) (c : Counter) (n : Nat) (d' : Nat) : (e.countBy c n).duty d' = e.duty d' := rfl
@[simp] theorem Ev.countBy_release (e : Ev) (c : Counter) (n : Nat) (l' : Nat) : (e.countBy c n).release l' = e.release l' := rfl
@[simp] theorem Ev.countBy_dispenser (e : Ev) (c : Counter) (n : Nat) (d' : Nat) : (e.countBy c n).dispenser d' = e.dispenser d' := rfl
@[simp] theorem Ev.countBy_washLane (e : Ev) (c : Counter) (n : Nat) (w' : Nat) : (e.countBy c n).washLane w' = e.washLane w' := rfl
@[simp] theorem Ev.countBy_channel (e : Ev) (c : Counter) (n : Nat) (c' : Nat) : (e.countBy c n).channel c' = e.channel c' := rfl
@[simp] theorem Ev.countBy_node (e : Ev) (c : Counter) (n : Nat) (n' : Nat) : (e.countBy c n).node n' = e.node n' := rfl
@[simp] theorem Ev.countBy_now (e : Ev) (c : Counter) (n : Nat) : (e.countBy c n).now = e.now := rfl
@[simp] theorem Ev.countBy_mode (e : Ev) (c : Counter) (n : Nat) : (e.countBy c n).mode = e.mode := rfl
@[simp] theorem Ev.countBy_changePending (e : Ev) (c : Counter) (n : Nat) : (e.countBy c n).changePending = e.changePending := rfl
@[simp] theorem Ev.countBy_scheduleWindow (e : Ev) (c : Counter) (n : Nat) : (e.countBy c n).scheduleWindow = e.scheduleWindow := rfl
/-- The counter counted rises by the amount and rolls; the others stay (R184). -/
theorem Ev.countBy_counter (e : Ev) (c : Counter) (n : Nat) (x : Counter) :
    (e.countBy c n).counter x = if c = x then e.counter x + BitVec.ofNat 32 n else e.counter x := by
  have hx : x.code < 30 := by cases x <;> decide
  have hinj : c.code = x.code ↔ c = x := by
    constructor
    · intro h; cases c <;> cases x <;> first | rfl | (simp [Counter.code] at h)
    · rintro rfl; rfl
  have h := tget_tset e.counters c.code x.code (e.counter c + BitVec.ofNat 32 n)
  simp only [hinj, hx, and_true] at h
  refine Eq.trans h ?_
  by_cases hc : c = x
  · subst hc; simp
  · simp [hc]; rfl

/-! ### count -/

@[simp] theorem Ev.count_clock (e : Ev) (c : Counter) : (e.count c).clock = e.clock := rfl
@[simp] theorem Ev.count_gate (e : Ev) (c : Counter) : (e.count c).gate = e.gate := rfl
@[simp] theorem Ev.count_laneMap (e : Ev) (c : Counter) : (e.count c).laneMap = e.laneMap := rfl
@[simp] theorem Ev.count_holdList (e : Ev) (c : Counter) : (e.count c).holdList = e.holdList := rfl
@[simp] theorem Ev.count_fuel (e : Ev) (c : Counter) : (e.count c).fuel = e.fuel := rfl
@[simp] theorem Ev.count_wash (e : Ev) (c : Counter) : (e.count c).wash = e.wash := rfl
@[simp] theorem Ev.count_pullOut (e : Ev) (c : Counter) : (e.count c).pullOut = e.pullOut := rfl
@[simp] theorem Ev.count_channels (e : Ev) (c : Counter) : (e.count c).channels = e.channels := rfl
@[simp] theorem Ev.count_nodes (e : Ev) (c : Counter) : (e.count c).nodes = e.nodes := rfl
@[simp] theorem Ev.count_field (e : Ev) (c : Counter) : (e.count c).field = e.field := rfl
@[simp] theorem Ev.count_commands (e : Ev) (c : Counter) : (e.count c).commands = e.commands := rfl
@[simp] theorem Ev.count_notices (e : Ev) (c : Counter) : (e.count c).notices = e.notices := rfl
@[simp] theorem Ev.count_office (e : Ev) (c : Counter) : (e.count c).office = e.office := rfl
@[simp] theorem Ev.count_params (e : Ev) (c : Counter) : (e.count c).params = e.params := rfl
@[simp] theorem Ev.count_serial (e : Ev) (c : Counter) : (e.count c).serial = e.serial := rfl
@[simp] theorem Ev.count_choice (e : Ev) (c : Counter) : (e.count c).choice = e.choice := rfl
@[simp] theorem Ev.count_pending (e : Ev) (c : Counter) : (e.count c).pending = e.pending := rfl
@[simp] theorem Ev.count_outs (e : Ev) (c : Counter) : (e.count c).outs = e.outs := rfl
@[simp] theorem Ev.count_rerunDue (e : Ev) (c : Counter) : (e.count c).rerunDue = e.rerunDue := rfl
@[simp] theorem Ev.count_fuelDue (e : Ev) (c : Counter) : (e.count c).fuelDue = e.fuelDue := rfl
@[simp] theorem Ev.count_washDue (e : Ev) (c : Counter) : (e.count c).washDue = e.washDue := rfl
@[simp] theorem Ev.count_pullDue (e : Ev) (c : Counter) : (e.count c).pullDue = e.pullDue := rfl
@[simp] theorem Ev.count_heldBack (e : Ev) (c : Counter) : (e.count c).heldBack = e.heldBack := rfl
@[simp] theorem Ev.count_washBack (e : Ev) (c : Counter) : (e.count c).washBack = e.washBack := rfl
@[simp] theorem Ev.count_washLanesBack (e : Ev) (c : Counter) : (e.count c).washLanesBack = e.washLanesBack := rfl
@[simp] theorem Ev.count_releasedHere (e : Ev) (c : Counter) : (e.count c).releasedHere = e.releasedHere := rfl
@[simp] theorem Ev.count_entered (e : Ev) (c : Counter) : (e.count c).entered = e.entered := rfl
@[simp] theorem Ev.count_bus (e : Ev) (c : Counter) (b' : Nat) : (e.count c).bus b' = e.bus b' := rfl
@[simp] theorem Ev.count_cls (e : Ev) (c : Counter) (c' : Nat) : (e.count c).cls c' = e.cls c' := rfl
@[simp] theorem Ev.count_lane (e : Ev) (c : Counter) (l' : Nat) : (e.count c).lane l' = e.lane l' := rfl
@[simp] theorem Ev.count_duty (e : Ev) (c : Counter) (d' : Nat) : (e.count c).duty d' = e.duty d' := rfl
@[simp] theorem Ev.count_release (e : Ev) (c : Counter) (l' : Nat) : (e.count c).release l' = e.release l' := rfl
@[simp] theorem Ev.count_dispenser (e : Ev) (c : Counter) (d' : Nat) : (e.count c).dispenser d' = e.dispenser d' := rfl
@[simp] theorem Ev.count_washLane (e : Ev) (c : Counter) (w' : Nat) : (e.count c).washLane w' = e.washLane w' := rfl
@[simp] theorem Ev.count_channel (e : Ev) (c : Counter) (c' : Nat) : (e.count c).channel c' = e.channel c' := rfl
@[simp] theorem Ev.count_node (e : Ev) (c : Counter) (n' : Nat) : (e.count c).node n' = e.node n' := rfl
@[simp] theorem Ev.count_now (e : Ev) (c : Counter) : (e.count c).now = e.now := rfl
@[simp] theorem Ev.count_mode (e : Ev) (c : Counter) : (e.count c).mode = e.mode := rfl
@[simp] theorem Ev.count_changePending (e : Ev) (c : Counter) : (e.count c).changePending = e.changePending := rfl
@[simp] theorem Ev.count_scheduleWindow (e : Ev) (c : Counter) : (e.count c).scheduleWindow = e.scheduleWindow := rfl
/-- The counter counted rises by 1 and rolls; the others stay (R184). -/
theorem Ev.count_counter (e : Ev) (c x : Counter) :
    (e.count c).counter x = if c = x then e.counter x + 1 else e.counter x :=
  Ev.countBy_counter e c 1 x

/-! ### dropNotice -/

@[simp] theorem Ev.dropNotice_clock (e : Ev) : (e.dropNotice).clock = e.clock := rfl
@[simp] theorem Ev.dropNotice_gate (e : Ev) : (e.dropNotice).gate = e.gate := rfl
@[simp] theorem Ev.dropNotice_laneMap (e : Ev) : (e.dropNotice).laneMap = e.laneMap := rfl
@[simp] theorem Ev.dropNotice_holdList (e : Ev) : (e.dropNotice).holdList = e.holdList := rfl
@[simp] theorem Ev.dropNotice_fuel (e : Ev) : (e.dropNotice).fuel = e.fuel := rfl
@[simp] theorem Ev.dropNotice_wash (e : Ev) : (e.dropNotice).wash = e.wash := rfl
@[simp] theorem Ev.dropNotice_pullOut (e : Ev) : (e.dropNotice).pullOut = e.pullOut := rfl
@[simp] theorem Ev.dropNotice_channels (e : Ev) : (e.dropNotice).channels = e.channels := rfl
@[simp] theorem Ev.dropNotice_nodes (e : Ev) : (e.dropNotice).nodes = e.nodes := rfl
@[simp] theorem Ev.dropNotice_field (e : Ev) : (e.dropNotice).field = e.field := rfl
@[simp] theorem Ev.dropNotice_commands (e : Ev) : (e.dropNotice).commands = e.commands := rfl
@[simp] theorem Ev.dropNotice_office (e : Ev) : (e.dropNotice).office = e.office := rfl
@[simp] theorem Ev.dropNotice_params (e : Ev) : (e.dropNotice).params = e.params := rfl
@[simp] theorem Ev.dropNotice_serial (e : Ev) : (e.dropNotice).serial = e.serial := rfl
@[simp] theorem Ev.dropNotice_choice (e : Ev) : (e.dropNotice).choice = e.choice := rfl
@[simp] theorem Ev.dropNotice_pending (e : Ev) : (e.dropNotice).pending = e.pending := rfl
@[simp] theorem Ev.dropNotice_outs (e : Ev) : (e.dropNotice).outs = e.outs := rfl
@[simp] theorem Ev.dropNotice_rerunDue (e : Ev) : (e.dropNotice).rerunDue = e.rerunDue := rfl
@[simp] theorem Ev.dropNotice_fuelDue (e : Ev) : (e.dropNotice).fuelDue = e.fuelDue := rfl
@[simp] theorem Ev.dropNotice_washDue (e : Ev) : (e.dropNotice).washDue = e.washDue := rfl
@[simp] theorem Ev.dropNotice_pullDue (e : Ev) : (e.dropNotice).pullDue = e.pullDue := rfl
@[simp] theorem Ev.dropNotice_heldBack (e : Ev) : (e.dropNotice).heldBack = e.heldBack := rfl
@[simp] theorem Ev.dropNotice_washBack (e : Ev) : (e.dropNotice).washBack = e.washBack := rfl
@[simp] theorem Ev.dropNotice_washLanesBack (e : Ev) : (e.dropNotice).washLanesBack = e.washLanesBack := rfl
@[simp] theorem Ev.dropNotice_releasedHere (e : Ev) : (e.dropNotice).releasedHere = e.releasedHere := rfl
@[simp] theorem Ev.dropNotice_entered (e : Ev) : (e.dropNotice).entered = e.entered := rfl
@[simp] theorem Ev.dropNotice_notices_queue (e : Ev) : (e.dropNotice).notices.queue = e.notices.queue := rfl
@[simp] theorem Ev.dropNotice_bus (e : Ev) (b' : Nat) : (e.dropNotice).bus b' = e.bus b' := rfl
@[simp] theorem Ev.dropNotice_cls (e : Ev) (c' : Nat) : (e.dropNotice).cls c' = e.cls c' := rfl
@[simp] theorem Ev.dropNotice_lane (e : Ev) (l' : Nat) : (e.dropNotice).lane l' = e.lane l' := rfl
@[simp] theorem Ev.dropNotice_duty (e : Ev) (d' : Nat) : (e.dropNotice).duty d' = e.duty d' := rfl
@[simp] theorem Ev.dropNotice_release (e : Ev) (l' : Nat) : (e.dropNotice).release l' = e.release l' := rfl
@[simp] theorem Ev.dropNotice_dispenser (e : Ev) (d' : Nat) : (e.dropNotice).dispenser d' = e.dispenser d' := rfl
@[simp] theorem Ev.dropNotice_washLane (e : Ev) (w' : Nat) : (e.dropNotice).washLane w' = e.washLane w' := rfl
@[simp] theorem Ev.dropNotice_channel (e : Ev) (c' : Nat) : (e.dropNotice).channel c' = e.channel c' := rfl
@[simp] theorem Ev.dropNotice_node (e : Ev) (n' : Nat) : (e.dropNotice).node n' = e.node n' := rfl
@[simp] theorem Ev.dropNotice_now (e : Ev) : (e.dropNotice).now = e.now := rfl
@[simp] theorem Ev.dropNotice_mode (e : Ev) : (e.dropNotice).mode = e.mode := rfl
@[simp] theorem Ev.dropNotice_changePending (e : Ev) : (e.dropNotice).changePending = e.changePending := rfl
@[simp] theorem Ev.dropNotice_scheduleWindow (e : Ev) : (e.dropNotice).scheduleWindow = e.scheduleWindow := rfl

/-! ### A change of place (R6) -/

@[simp] theorem Ev.setPlace_clock (e : Ev) (b : Nat) (p : Place) : (e.setPlace b p).clock = e.clock := rfl
@[simp] theorem Ev.setPlace_laneMap (e : Ev) (b : Nat) (p : Place) : (e.setPlace b p).laneMap = e.laneMap := rfl
@[simp] theorem Ev.setPlace_holdList (e : Ev) (b : Nat) (p : Place) : (e.setPlace b p).holdList = e.holdList := rfl
@[simp] theorem Ev.setPlace_fuel (e : Ev) (b : Nat) (p : Place) : (e.setPlace b p).fuel = e.fuel := rfl
@[simp] theorem Ev.setPlace_wash (e : Ev) (b : Nat) (p : Place) : (e.setPlace b p).wash = e.wash := rfl
@[simp] theorem Ev.setPlace_pullOut (e : Ev) (b : Nat) (p : Place) : (e.setPlace b p).pullOut = e.pullOut := rfl
@[simp] theorem Ev.setPlace_channels (e : Ev) (b : Nat) (p : Place) : (e.setPlace b p).channels = e.channels := rfl
@[simp] theorem Ev.setPlace_nodes (e : Ev) (b : Nat) (p : Place) : (e.setPlace b p).nodes = e.nodes := rfl
@[simp] theorem Ev.setPlace_field (e : Ev) (b : Nat) (p : Place) : (e.setPlace b p).field = e.field := rfl
@[simp] theorem Ev.setPlace_commands (e : Ev) (b : Nat) (p : Place) : (e.setPlace b p).commands = e.commands := rfl
@[simp] theorem Ev.setPlace_counters (e : Ev) (b : Nat) (p : Place) : (e.setPlace b p).counters = e.counters := rfl
@[simp] theorem Ev.setPlace_notices (e : Ev) (b : Nat) (p : Place) : (e.setPlace b p).notices = e.notices := rfl
@[simp] theorem Ev.setPlace_office (e : Ev) (b : Nat) (p : Place) : (e.setPlace b p).office = e.office := rfl
@[simp] theorem Ev.setPlace_params (e : Ev) (b : Nat) (p : Place) : (e.setPlace b p).params = e.params := rfl
@[simp] theorem Ev.setPlace_serial (e : Ev) (b : Nat) (p : Place) : (e.setPlace b p).serial = e.serial := rfl
@[simp] theorem Ev.setPlace_choice (e : Ev) (b : Nat) (p : Place) : (e.setPlace b p).choice = e.choice := rfl
@[simp] theorem Ev.setPlace_pending (e : Ev) (b : Nat) (p : Place) : (e.setPlace b p).pending = e.pending := rfl
@[simp] theorem Ev.setPlace_outs (e : Ev) (b : Nat) (p : Place) : (e.setPlace b p).outs = e.outs := rfl
@[simp] theorem Ev.setPlace_rerunDue (e : Ev) (b : Nat) (p : Place) : (e.setPlace b p).rerunDue = e.rerunDue := rfl
@[simp] theorem Ev.setPlace_fuelDue (e : Ev) (b : Nat) (p : Place) : (e.setPlace b p).fuelDue = e.fuelDue := rfl
@[simp] theorem Ev.setPlace_washDue (e : Ev) (b : Nat) (p : Place) : (e.setPlace b p).washDue = e.washDue := rfl
@[simp] theorem Ev.setPlace_pullDue (e : Ev) (b : Nat) (p : Place) : (e.setPlace b p).pullDue = e.pullDue := rfl
@[simp] theorem Ev.setPlace_heldBack (e : Ev) (b : Nat) (p : Place) : (e.setPlace b p).heldBack = e.heldBack := rfl
@[simp] theorem Ev.setPlace_washBack (e : Ev) (b : Nat) (p : Place) : (e.setPlace b p).washBack = e.washBack := rfl
@[simp] theorem Ev.setPlace_washLanesBack (e : Ev) (b : Nat) (p : Place) : (e.setPlace b p).washLanesBack = e.washLanesBack := rfl
@[simp] theorem Ev.setPlace_releasedHere (e : Ev) (b : Nat) (p : Place) : (e.setPlace b p).releasedHere = e.releasedHere := rfl
@[simp] theorem Ev.setPlace_entered (e : Ev) (b : Nat) (p : Place) : (e.setPlace b p).entered = e.entered := rfl
@[simp] theorem Ev.setPlace_gate_classes (e : Ev) (b : Nat) (p : Place) : (e.setPlace b p).gate.classes = e.gate.classes := rfl
@[simp] theorem Ev.setPlace_cls (e : Ev) (b : Nat) (p : Place) (c' : Nat) : (e.setPlace b p).cls c' = e.cls c' := rfl
@[simp] theorem Ev.setPlace_lane (e : Ev) (b : Nat) (p : Place) (l' : Nat) : (e.setPlace b p).lane l' = e.lane l' := rfl
@[simp] theorem Ev.setPlace_duty (e : Ev) (b : Nat) (p : Place) (d' : Nat) : (e.setPlace b p).duty d' = e.duty d' := rfl
@[simp] theorem Ev.setPlace_release (e : Ev) (b : Nat) (p : Place) (l' : Nat) : (e.setPlace b p).release l' = e.release l' := rfl
@[simp] theorem Ev.setPlace_dispenser (e : Ev) (b : Nat) (p : Place) (d' : Nat) : (e.setPlace b p).dispenser d' = e.dispenser d' := rfl
@[simp] theorem Ev.setPlace_washLane (e : Ev) (b : Nat) (p : Place) (w' : Nat) : (e.setPlace b p).washLane w' = e.washLane w' := rfl
@[simp] theorem Ev.setPlace_channel (e : Ev) (b : Nat) (p : Place) (c' : Nat) : (e.setPlace b p).channel c' = e.channel c' := rfl
@[simp] theorem Ev.setPlace_node (e : Ev) (b : Nat) (p : Place) (n' : Nat) : (e.setPlace b p).node n' = e.node n' := rfl
@[simp] theorem Ev.setPlace_now (e : Ev) (b : Nat) (p : Place) : (e.setPlace b p).now = e.now := rfl
@[simp] theorem Ev.setPlace_mode (e : Ev) (b : Nat) (p : Place) : (e.setPlace b p).mode = e.mode := rfl
@[simp] theorem Ev.setPlace_changePending (e : Ev) (b : Nat) (p : Place) : (e.setPlace b p).changePending = e.changePending := rfl
@[simp] theorem Ev.setPlace_scheduleWindow (e : Ev) (b : Nat) (p : Place) : (e.setPlace b p).scheduleWindow = e.scheduleWindow := rfl
/-- The bus stands in the place, seen now; every other bus is as it was (R6). -/
theorem Ev.setPlace_bus (e : Ev) (b : Nat) (p : Place) (j : Nat) :
    (e.setPlace b p).bus j = if b = j ∧ j < 256 then { e.bus b with place := p, lastSeen := e.now } else e.bus j :=
  Ev.setBus_bus _ _ _ _
@[simp] theorem Ev.setPlace_bus_other (e : Ev) (b : Nat) (p : Place) (j : Nat) (h : b ≠ j) : (e.setPlace b p).bus j = e.bus j :=
  Ev.setBus_bus_other _ _ _ _ h
@[simp] theorem Ev.setPlace_bus_same (e : Ev) (b : Nat) (p : Place) (h : b < 256) :
    (e.setPlace b p).bus b = { e.bus b with place := p, lastSeen := e.now } :=
  Ev.setBus_bus_same _ _ _ h

end Sys2Proof.Machine
end

