-- ==== Sys2Proof/Laws/Loops.lean ====
section
/-! SUPPORT. What a choice and a loop leave as it was: a field of an event that no branch and no turn changes. -/

namespace Sys2Proof.Machine

/-! ### A choice between two events, read at a field -/

@[simp] theorem Ev.ite_clock (c : Prop) [Decidable c] (a b : Ev) : (if c then a else b).clock = if c then a.clock else b.clock := by
  split <;> rfl
@[simp] theorem Ev.ite_params (c : Prop) [Decidable c] (a b : Ev) : (if c then a else b).params = if c then a.params else b.params := by
  split <;> rfl
@[simp] theorem Ev.ite_pending (c : Prop) [Decidable c] (a b : Ev) : (if c then a else b).pending = if c then a.pending else b.pending := by
  split <;> rfl
@[simp] theorem Ev.ite_serial (c : Prop) [Decidable c] (a b : Ev) : (if c then a else b).serial = if c then a.serial else b.serial := by
  split <;> rfl
@[simp] theorem Ev.ite_choice (c : Prop) [Decidable c] (a b : Ev) : (if c then a else b).choice = if c then a.choice else b.choice := by
  split <;> rfl
@[simp] theorem Ev.ite_holdList (c : Prop) [Decidable c] (a b : Ev) : (if c then a else b).holdList = if c then a.holdList else b.holdList := by
  split <;> rfl
@[simp] theorem Ev.ite_channels (c : Prop) [Decidable c] (a b : Ev) : (if c then a else b).channels = if c then a.channels else b.channels := by
  split <;> rfl
@[simp] theorem Ev.ite_nodes (c : Prop) [Decidable c] (a b : Ev) : (if c then a else b).nodes = if c then a.nodes else b.nodes := by
  split <;> rfl
@[simp] theorem Ev.ite_counters (c : Prop) [Decidable c] (a b : Ev) : (if c then a else b).counters = if c then a.counters else b.counters := by
  split <;> rfl
@[simp] theorem Ev.ite_gate (c : Prop) [Decidable c] (a b : Ev) : (if c then a else b).gate = if c then a.gate else b.gate := by
  split <;> rfl
@[simp] theorem Ev.ite_laneMap (c : Prop) [Decidable c] (a b : Ev) : (if c then a else b).laneMap = if c then a.laneMap else b.laneMap := by
  split <;> rfl
@[simp] theorem Ev.ite_fuel (c : Prop) [Decidable c] (a b : Ev) : (if c then a else b).fuel = if c then a.fuel else b.fuel := by
  split <;> rfl
@[simp] theorem Ev.ite_wash (c : Prop) [Decidable c] (a b : Ev) : (if c then a else b).wash = if c then a.wash else b.wash := by
  split <;> rfl
@[simp] theorem Ev.ite_pullOut (c : Prop) [Decidable c] (a b : Ev) : (if c then a else b).pullOut = if c then a.pullOut else b.pullOut := by
  split <;> rfl
@[simp] theorem Ev.ite_field (c : Prop) [Decidable c] (a b : Ev) : (if c then a else b).field = if c then a.field else b.field := by
  split <;> rfl
@[simp] theorem Ev.ite_commands (c : Prop) [Decidable c] (a b : Ev) : (if c then a else b).commands = if c then a.commands else b.commands := by
  split <;> rfl
@[simp] theorem Ev.ite_notices (c : Prop) [Decidable c] (a b : Ev) : (if c then a else b).notices = if c then a.notices else b.notices := by
  split <;> rfl
@[simp] theorem Ev.ite_office (c : Prop) [Decidable c] (a b : Ev) : (if c then a else b).office = if c then a.office else b.office := by
  split <;> rfl
@[simp] theorem Ev.ite_outs (c : Prop) [Decidable c] (a b : Ev) : (if c then a else b).outs = if c then a.outs else b.outs := by
  split <;> rfl
@[simp] theorem Ev.ite_rerunDue (c : Prop) [Decidable c] (a b : Ev) : (if c then a else b).rerunDue = if c then a.rerunDue else b.rerunDue := by
  split <;> rfl
@[simp] theorem Ev.ite_fuelDue (c : Prop) [Decidable c] (a b : Ev) : (if c then a else b).fuelDue = if c then a.fuelDue else b.fuelDue := by
  split <;> rfl
@[simp] theorem Ev.ite_washDue (c : Prop) [Decidable c] (a b : Ev) : (if c then a else b).washDue = if c then a.washDue else b.washDue := by
  split <;> rfl
@[simp] theorem Ev.ite_pullDue (c : Prop) [Decidable c] (a b : Ev) : (if c then a else b).pullDue = if c then a.pullDue else b.pullDue := by
  split <;> rfl
@[simp] theorem Ev.ite_heldBack (c : Prop) [Decidable c] (a b : Ev) : (if c then a else b).heldBack = if c then a.heldBack else b.heldBack := by
  split <;> rfl
@[simp] theorem Ev.ite_washBack (c : Prop) [Decidable c] (a b : Ev) : (if c then a else b).washBack = if c then a.washBack else b.washBack := by
  split <;> rfl
@[simp] theorem Ev.ite_washLanesBack (c : Prop) [Decidable c] (a b : Ev) : (if c then a else b).washLanesBack = if c then a.washLanesBack else b.washLanesBack := by
  split <;> rfl
@[simp] theorem Ev.ite_entered (c : Prop) [Decidable c] (a b : Ev) : (if c then a else b).entered = if c then a.entered else b.entered := by
  split <;> rfl
@[simp] theorem Ev.ite_releasedHere (c : Prop) [Decidable c] (a b : Ev) : (if c then a else b).releasedHere = if c then a.releasedHere else b.releasedHere := by
  split <;> rfl

/-! ### A loop over a list, read at a field that no turn changes -/

/-- A projection that no turn of a loop changes is the same after the loop. -/
theorem foldl_keeps {α β γ : Type} (π : β → γ) (g : β → α → β) (h : ∀ b a, π (g b a) = π b) (l : List α) (b : β) :
    π (l.foldl g b) = π b := by
  induction l generalizing b with
  | nil => rfl
  | cons a l ih => rw [List.foldl_cons, ih, h]

@[simp] theorem Ev.foldl_clock {α : Type} (g : Ev → α → Ev) (l : List α) (e : Ev) (h : ∀ e a, (g e a).clock = e.clock) :
    (l.foldl g e).clock = e.clock := foldl_keeps (fun e => e.clock) g h l e
@[simp] theorem Ev.foldl_params {α : Type} (g : Ev → α → Ev) (l : List α) (e : Ev) (h : ∀ e a, (g e a).params = e.params) :
    (l.foldl g e).params = e.params := foldl_keeps (fun e => e.params) g h l e
@[simp] theorem Ev.foldl_pending {α : Type} (g : Ev → α → Ev) (l : List α) (e : Ev) (h : ∀ e a, (g e a).pending = e.pending) :
    (l.foldl g e).pending = e.pending := foldl_keeps (fun e => e.pending) g h l e
@[simp] theorem Ev.foldl_serial {α : Type} (g : Ev → α → Ev) (l : List α) (e : Ev) (h : ∀ e a, (g e a).serial = e.serial) :
    (l.foldl g e).serial = e.serial := foldl_keeps (fun e => e.serial) g h l e
@[simp] theorem Ev.foldl_choice {α : Type} (g : Ev → α → Ev) (l : List α) (e : Ev) (h : ∀ e a, (g e a).choice = e.choice) :
    (l.foldl g e).choice = e.choice := foldl_keeps (fun e => e.choice) g h l e
@[simp] theorem Ev.foldl_holdList {α : Type} (g : Ev → α → Ev) (l : List α) (e : Ev) (h : ∀ e a, (g e a).holdList = e.holdList) :
    (l.foldl g e).holdList = e.holdList := foldl_keeps (fun e => e.holdList) g h l e
@[simp] theorem Ev.foldl_channels {α : Type} (g : Ev → α → Ev) (l : List α) (e : Ev) (h : ∀ e a, (g e a).channels = e.channels) :
    (l.foldl g e).channels = e.channels := foldl_keeps (fun e => e.channels) g h l e
@[simp] theorem Ev.foldl_nodes {α : Type} (g : Ev → α → Ev) (l : List α) (e : Ev) (h : ∀ e a, (g e a).nodes = e.nodes) :
    (l.foldl g e).nodes = e.nodes := foldl_keeps (fun e => e.nodes) g h l e
@[simp] theorem Ev.foldl_counters {α : Type} (g : Ev → α → Ev) (l : List α) (e : Ev) (h : ∀ e a, (g e a).counters = e.counters) :
    (l.foldl g e).counters = e.counters := foldl_keeps (fun e => e.counters) g h l e
@[simp] theorem Ev.foldl_gate {α : Type} (g : Ev → α → Ev) (l : List α) (e : Ev) (h : ∀ e a, (g e a).gate = e.gate) :
    (l.foldl g e).gate = e.gate := foldl_keeps (fun e => e.gate) g h l e
@[simp] theorem Ev.foldl_laneMap {α : Type} (g : Ev → α → Ev) (l : List α) (e : Ev) (h : ∀ e a, (g e a).laneMap = e.laneMap) :
    (l.foldl g e).laneMap = e.laneMap := foldl_keeps (fun e => e.laneMap) g h l e
@[simp] theorem Ev.foldl_fuel {α : Type} (g : Ev → α → Ev) (l : List α) (e : Ev) (h : ∀ e a, (g e a).fuel = e.fuel) :
    (l.foldl g e).fuel = e.fuel := foldl_keeps (fun e => e.fuel) g h l e
@[simp] theorem Ev.foldl_wash {α : Type} (g : Ev → α → Ev) (l : List α) (e : Ev) (h : ∀ e a, (g e a).wash = e.wash) :
    (l.foldl g e).wash = e.wash := foldl_keeps (fun e => e.wash) g h l e
@[simp] theorem Ev.foldl_pullOut {α : Type} (g : Ev → α → Ev) (l : List α) (e : Ev) (h : ∀ e a, (g e a).pullOut = e.pullOut) :
    (l.foldl g e).pullOut = e.pullOut := foldl_keeps (fun e => e.pullOut) g h l e
@[simp] theorem Ev.foldl_field {α : Type} (g : Ev → α → Ev) (l : List α) (e : Ev) (h : ∀ e a, (g e a).field = e.field) :
    (l.foldl g e).field = e.field := foldl_keeps (fun e => e.field) g h l e
@[simp] theorem Ev.foldl_commands {α : Type} (g : Ev → α → Ev) (l : List α) (e : Ev) (h : ∀ e a, (g e a).commands = e.commands) :
    (l.foldl g e).commands = e.commands := foldl_keeps (fun e => e.commands) g h l e
@[simp] theorem Ev.foldl_notices {α : Type} (g : Ev → α → Ev) (l : List α) (e : Ev) (h : ∀ e a, (g e a).notices = e.notices) :
    (l.foldl g e).notices = e.notices := foldl_keeps (fun e => e.notices) g h l e
@[simp] theorem Ev.foldl_office {α : Type} (g : Ev → α → Ev) (l : List α) (e : Ev) (h : ∀ e a, (g e a).office = e.office) :
    (l.foldl g e).office = e.office := foldl_keeps (fun e => e.office) g h l e
@[simp] theorem Ev.foldl_outs {α : Type} (g : Ev → α → Ev) (l : List α) (e : Ev) (h : ∀ e a, (g e a).outs = e.outs) :
    (l.foldl g e).outs = e.outs := foldl_keeps (fun e => e.outs) g h l e
@[simp] theorem Ev.foldl_rerunDue {α : Type} (g : Ev → α → Ev) (l : List α) (e : Ev) (h : ∀ e a, (g e a).rerunDue = e.rerunDue) :
    (l.foldl g e).rerunDue = e.rerunDue := foldl_keeps (fun e => e.rerunDue) g h l e
@[simp] theorem Ev.foldl_fuelDue {α : Type} (g : Ev → α → Ev) (l : List α) (e : Ev) (h : ∀ e a, (g e a).fuelDue = e.fuelDue) :
    (l.foldl g e).fuelDue = e.fuelDue := foldl_keeps (fun e => e.fuelDue) g h l e
@[simp] theorem Ev.foldl_washDue {α : Type} (g : Ev → α → Ev) (l : List α) (e : Ev) (h : ∀ e a, (g e a).washDue = e.washDue) :
    (l.foldl g e).washDue = e.washDue := foldl_keeps (fun e => e.washDue) g h l e
@[simp] theorem Ev.foldl_pullDue {α : Type} (g : Ev → α → Ev) (l : List α) (e : Ev) (h : ∀ e a, (g e a).pullDue = e.pullDue) :
    (l.foldl g e).pullDue = e.pullDue := foldl_keeps (fun e => e.pullDue) g h l e
@[simp] theorem Ev.foldl_heldBack {α : Type} (g : Ev → α → Ev) (l : List α) (e : Ev) (h : ∀ e a, (g e a).heldBack = e.heldBack) :
    (l.foldl g e).heldBack = e.heldBack := foldl_keeps (fun e => e.heldBack) g h l e
@[simp] theorem Ev.foldl_washBack {α : Type} (g : Ev → α → Ev) (l : List α) (e : Ev) (h : ∀ e a, (g e a).washBack = e.washBack) :
    (l.foldl g e).washBack = e.washBack := foldl_keeps (fun e => e.washBack) g h l e
@[simp] theorem Ev.foldl_washLanesBack {α : Type} (g : Ev → α → Ev) (l : List α) (e : Ev) (h : ∀ e a, (g e a).washLanesBack = e.washLanesBack) :
    (l.foldl g e).washLanesBack = e.washLanesBack := foldl_keeps (fun e => e.washLanesBack) g h l e
@[simp] theorem Ev.foldl_entered {α : Type} (g : Ev → α → Ev) (l : List α) (e : Ev) (h : ∀ e a, (g e a).entered = e.entered) :
    (l.foldl g e).entered = e.entered := foldl_keeps (fun e => e.entered) g h l e
@[simp] theorem Ev.foldl_releasedHere {α : Type} (g : Ev → α → Ev) (l : List α) (e : Ev) (h : ∀ e a, (g e a).releasedHere = e.releasedHere) :
    (l.foldl g e).releasedHere = e.releasedHere := foldl_keeps (fun e => e.releasedHere) g h l e
@[simp] theorem Ev.foldl_gate_classes {α : Type} (g : Ev → α → Ev) (l : List α) (e : Ev) (h : ∀ e a, (g e a).gate.classes = e.gate.classes) :
    (l.foldl g e).gate.classes = e.gate.classes := foldl_keeps (fun e => e.gate.classes) g h l e
@[simp] theorem Ev.foldl_gate_buses {α : Type} (g : Ev → α → Ev) (l : List α) (e : Ev) (h : ∀ e a, (g e a).gate.buses = e.gate.buses) :
    (l.foldl g e).gate.buses = e.gate.buses := foldl_keeps (fun e => e.gate.buses) g h l e
@[simp] theorem Ev.foldl_laneMap_lanes {α : Type} (g : Ev → α → Ev) (l : List α) (e : Ev) (h : ∀ e a, (g e a).laneMap.lanes = e.laneMap.lanes) :
    (l.foldl g e).laneMap.lanes = e.laneMap.lanes := foldl_keeps (fun e => e.laneMap.lanes) g h l e
@[simp] theorem Ev.foldl_laneMap_directions {α : Type} (g : Ev → α → Ev) (l : List α) (e : Ev) (h : ∀ e a, (g e a).laneMap.directions = e.laneMap.directions) :
    (l.foldl g e).laneMap.directions = e.laneMap.directions := foldl_keeps (fun e => e.laneMap.directions) g h l e
@[simp] theorem Ev.foldl_fuel_queue {α : Type} (g : Ev → α → Ev) (l : List α) (e : Ev) (h : ∀ e a, (g e a).fuel.queue = e.fuel.queue) :
    (l.foldl g e).fuel.queue = e.fuel.queue := foldl_keeps (fun e => e.fuel.queue) g h l e
@[simp] theorem Ev.foldl_fuel_dispensers {α : Type} (g : Ev → α → Ev) (l : List α) (e : Ev) (h : ∀ e a, (g e a).fuel.dispensers = e.fuel.dispensers) :
    (l.foldl g e).fuel.dispensers = e.fuel.dispensers := foldl_keeps (fun e => e.fuel.dispensers) g h l e
@[simp] theorem Ev.foldl_fuel_stock {α : Type} (g : Ev → α → Ev) (l : List α) (e : Ev) (h : ∀ e a, (g e a).fuel.stock = e.fuel.stock) :
    (l.foldl g e).fuel.stock = e.fuel.stock := foldl_keeps (fun e => e.fuel.stock) g h l e
@[simp] theorem Ev.foldl_fuel_committed {α : Type} (g : Ev → α → Ev) (l : List α) (e : Ev) (h : ∀ e a, (g e a).fuel.committed = e.fuel.committed) :
    (l.foldl g e).fuel.committed = e.fuel.committed := foldl_keeps (fun e => e.fuel.committed) g h l e
@[simp] theorem Ev.foldl_fuel_belowReserve {α : Type} (g : Ev → α → Ev) (l : List α) (e : Ev) (h : ∀ e a, (g e a).fuel.belowReserve = e.fuel.belowReserve) :
    (l.foldl g e).fuel.belowReserve = e.fuel.belowReserve := foldl_keeps (fun e => e.fuel.belowReserve) g h l e
@[simp] theorem Ev.foldl_wash_queue {α : Type} (g : Ev → α → Ev) (l : List α) (e : Ev) (h : ∀ e a, (g e a).wash.queue = e.wash.queue) :
    (l.foldl g e).wash.queue = e.wash.queue := foldl_keeps (fun e => e.wash.queue) g h l e
@[simp] theorem Ev.foldl_wash_lanes {α : Type} (g : Ev → α → Ev) (l : List α) (e : Ev) (h : ∀ e a, (g e a).wash.lanes = e.wash.lanes) :
    (l.foldl g e).wash.lanes = e.wash.lanes := foldl_keeps (fun e => e.wash.lanes) g h l e
@[simp] theorem Ev.foldl_wash_waived {α : Type} (g : Ev → α → Ev) (l : List α) (e : Ev) (h : ∀ e a, (g e a).wash.waived = e.wash.waived) :
    (l.foldl g e).wash.waived = e.wash.waived := foldl_keeps (fun e => e.wash.waived) g h l e
@[simp] theorem Ev.foldl_pullOut_duties {α : Type} (g : Ev → α → Ev) (l : List α) (e : Ev) (h : ∀ e a, (g e a).pullOut.duties = e.pullOut.duties) :
    (l.foldl g e).pullOut.duties = e.pullOut.duties := foldl_keeps (fun e => e.pullOut.duties) g h l e
@[simp] theorem Ev.foldl_pullOut_releases {α : Type} (g : Ev → α → Ev) (l : List α) (e : Ev) (h : ∀ e a, (g e a).pullOut.releases = e.pullOut.releases) :
    (l.foldl g e).pullOut.releases = e.pullOut.releases := foldl_keeps (fun e => e.pullOut.releases) g h l e
@[simp] theorem Ev.foldl_field_groupHash {α : Type} (g : Ev → α → Ev) (l : List α) (e : Ev) (h : ∀ e a, (g e a).field.groupHash = e.field.groupHash) :
    (l.foldl g e).field.groupHash = e.field.groupHash := foldl_keeps (fun e => e.field.groupHash) g h l e
@[simp] theorem Ev.foldl_field_inbox {α : Type} (g : Ev → α → Ev) (l : List α) (e : Ev) (h : ∀ e a, (g e a).field.inbox = e.field.inbox) :
    (l.foldl g e).field.inbox = e.field.inbox := foldl_keeps (fun e => e.field.inbox) g h l e
@[simp] theorem Ev.foldl_field_quietTimer {α : Type} (g : Ev → α → Ev) (l : List α) (e : Ev) (h : ∀ e a, (g e a).field.quietTimer = e.field.quietTimer) :
    (l.foldl g e).field.quietTimer = e.field.quietTimer := foldl_keeps (fun e => e.field.quietTimer) g h l e
@[simp] theorem Ev.foldl_commands_queue {α : Type} (g : Ev → α → Ev) (l : List α) (e : Ev) (h : ∀ e a, (g e a).commands.queue = e.commands.queue) :
    (l.foldl g e).commands.queue = e.commands.queue := foldl_keeps (fun e => e.commands.queue) g h l e
@[simp] theorem Ev.foldl_commands_tx {α : Type} (g : Ev → α → Ev) (l : List α) (e : Ev) (h : ∀ e a, (g e a).commands.tx = e.commands.tx) :
    (l.foldl g e).commands.tx = e.commands.tx := foldl_keeps (fun e => e.commands.tx) g h l e
@[simp] theorem Ev.foldl_notices_queue {α : Type} (g : Ev → α → Ev) (l : List α) (e : Ev) (h : ∀ e a, (g e a).notices.queue = e.notices.queue) :
    (l.foldl g e).notices.queue = e.notices.queue := foldl_keeps (fun e => e.notices.queue) g h l e
@[simp] theorem Ev.foldl_notices_dropped {α : Type} (g : Ev → α → Ev) (l : List α) (e : Ev) (h : ∀ e a, (g e a).notices.dropped = e.notices.dropped) :
    (l.foldl g e).notices.dropped = e.notices.dropped := foldl_keeps (fun e => e.notices.dropped) g h l e
@[simp] theorem Ev.foldl_office_orders {α : Type} (g : Ev → α → Ev) (l : List α) (e : Ev) (h : ∀ e a, (g e a).office.orders = e.office.orders) :
    (l.foldl g e).office.orders = e.office.orders := foldl_keeps (fun e => e.office.orders) g h l e
@[simp] theorem Ev.foldl_office_answers {α : Type} (g : Ev → α → Ev) (l : List α) (e : Ev) (h : ∀ e a, (g e a).office.answers = e.office.answers) :
    (l.foldl g e).office.answers = e.office.answers := foldl_keeps (fun e => e.office.answers) g h l e
@[simp] theorem Ev.foldl_office_tx {α : Type} (g : Ev → α → Ev) (l : List α) (e : Ev) (h : ∀ e a, (g e a).office.tx = e.office.tx) :
    (l.foldl g e).office.tx = e.office.tx := foldl_keeps (fun e => e.office.tx) g h l e
@[simp] theorem Ev.foldl_office_window {α : Type} (g : Ev → α → Ev) (l : List α) (e : Ev) (h : ∀ e a, (g e a).office.window = e.office.window) :
    (l.foldl g e).office.window = e.office.window := foldl_keeps (fun e => e.office.window) g h l e
@[simp] theorem Ev.foldl_office_mode {α : Type} (g : Ev → α → Ev) (l : List α) (e : Ev) (h : ∀ e a, (g e a).office.mode = e.office.mode) :
    (l.foldl g e).office.mode = e.office.mode := foldl_keeps (fun e => e.office.mode) g h l e
@[simp] theorem Ev.foldl_office_pendingMode {α : Type} (g : Ev → α → Ev) (l : List α) (e : Ev) (h : ∀ e a, (g e a).office.pendingMode = e.office.pendingMode) :
    (l.foldl g e).office.pendingMode = e.office.pendingMode := foldl_keeps (fun e => e.office.pendingMode) g h l e
@[simp] theorem Ev.foldl_office_dozeFrom {α : Type} (g : Ev → α → Ev) (l : List α) (e : Ev) (h : ∀ e a, (g e a).office.dozeFrom = e.office.dozeFrom) :
    (l.foldl g e).office.dozeFrom = e.office.dozeFrom := foldl_keeps (fun e => e.office.dozeFrom) g h l e
@[simp] theorem Ev.foldl_office_overdue {α : Type} (g : Ev → α → Ev) (l : List α) (e : Ev) (h : ∀ e a, (g e a).office.overdue = e.office.overdue) :
    (l.foldl g e).office.overdue = e.office.overdue := foldl_keeps (fun e => e.office.overdue) g h l e

end Sys2Proof.Machine
end

