-- ==== Sys2Proof/Laws/KeepsCommands.lean ====
section
/-! SUPPORT. What each operation of the command queue and of the indications leaves as it was. -/

namespace Sys2Proof.Machine

@[simp] theorem Ev.send_keeps (e : Ev) (n : Notice) :
    (e.send n).clock = e.clock ∧ (e.send n).params = e.params ∧ (e.send n).pending = e.pending ∧
    (e.send n).serial = e.serial ∧ (e.send n).choice = e.choice ∧ (e.send n).holdList = e.holdList ∧
    (e.send n).channels = e.channels ∧ (e.send n).nodes = e.nodes ∧ (e.send n).gate = e.gate ∧
    (e.send n).laneMap = e.laneMap ∧ (e.send n).fuel = e.fuel ∧ (e.send n).wash = e.wash ∧
    (e.send n).pullOut = e.pullOut ∧ (e.send n).field = e.field ∧ (e.send n).commands = e.commands ∧
    (e.send n).office = e.office ∧ (e.send n).outs = e.outs ∧ (e.send n).rerunDue = e.rerunDue ∧
    (e.send n).fuelDue = e.fuelDue ∧ (e.send n).washDue = e.washDue ∧ (e.send n).pullDue = e.pullDue ∧
    (e.send n).heldBack = e.heldBack ∧ (e.send n).washBack = e.washBack ∧
    (e.send n).washLanesBack = e.washLanesBack ∧ (e.send n).releasedHere = e.releasedHere := by
  simp [Ev.send]

@[simp] theorem Ev.nextSerial_keeps (e : Ev) :
    e.nextSerial.1 = e.serial ∧ e.nextSerial.2.serial = e.serial + 1 ∧
    e.nextSerial.2.clock = e.clock ∧ e.nextSerial.2.params = e.params ∧ e.nextSerial.2.pending = e.pending ∧
    e.nextSerial.2.choice = e.choice ∧ e.nextSerial.2.holdList = e.holdList ∧
    e.nextSerial.2.channels = e.channels ∧ e.nextSerial.2.nodes = e.nodes ∧ e.nextSerial.2.counters = e.counters ∧
    e.nextSerial.2.gate = e.gate ∧ e.nextSerial.2.laneMap = e.laneMap ∧ e.nextSerial.2.fuel = e.fuel ∧
    e.nextSerial.2.wash = e.wash ∧ e.nextSerial.2.pullOut = e.pullOut ∧ e.nextSerial.2.field = e.field ∧
    e.nextSerial.2.commands = e.commands ∧ e.nextSerial.2.notices = e.notices ∧ e.nextSerial.2.office = e.office ∧
    e.nextSerial.2.outs = e.outs ∧ e.nextSerial.2.rerunDue = e.rerunDue ∧ e.nextSerial.2.fuelDue = e.fuelDue ∧
    e.nextSerial.2.washDue = e.washDue ∧ e.nextSerial.2.pullDue = e.pullDue ∧
    e.nextSerial.2.heldBack = e.heldBack ∧ e.nextSerial.2.washBack = e.washBack ∧
    e.nextSerial.2.washLanesBack = e.washLanesBack ∧ e.nextSerial.2.releasedHere = e.releasedHere := by
  simp [Ev.nextSerial]

@[simp] theorem Ev.nextSerial_readers (e : Ev) :
    (∀ i, e.nextSerial.2.bus i = e.bus i) ∧
    (∀ i, e.nextSerial.2.cls i = e.cls i) ∧
    (∀ i, e.nextSerial.2.lane i = e.lane i) ∧
    (∀ i, e.nextSerial.2.duty i = e.duty i) ∧
    (∀ i, e.nextSerial.2.release i = e.release i) ∧
    (∀ i, e.nextSerial.2.dispenser i = e.dispenser i) ∧
    (∀ i, e.nextSerial.2.washLane i = e.washLane i) ∧
    (∀ i, e.nextSerial.2.channel i = e.channel i) ∧
    (∀ i, e.nextSerial.2.node i = e.node i) ∧
    e.nextSerial.2.now = e.now ∧
    e.nextSerial.2.mode = e.mode ∧
    e.nextSerial.2.changePending = e.changePending ∧
    e.nextSerial.2.scheduleWindow = e.scheduleWindow := by
  and_intros <;> first | rfl | exact fun _ => rfl

/-- The outcomes that ending an entry decides, one for each contribution in their order. -/
def CommandEntry.decided (x : CommandEntry) (r : Result3) : List Decided :=
  x.contributions.map fun c => { contribution := c, kind := x.kind, destination := x.destination, result := r }

/-- Ending several entries decides the outcomes of each in turn, and changes nothing else. -/
@[simp] theorem Ev.foldl_decideAll (r : Result3) (l : List CommandEntry) (e : Ev) :
    l.foldl (fun e x => e.decideAll x.kind x.destination r x.contributions) e
      = { e with outs := e.outs ++ l.flatMap fun x => x.decided r } := by
  induction l generalizing e with
  | nil => simp
  | cons x l ih => rw [List.foldl_cons, ih]; simp [Ev.decideAll, CommandEntry.decided]

@[simp] theorem Ev.deriveReserve_keeps (e : Ev) :
    e.deriveReserve.clock = e.clock ∧ e.deriveReserve.params = e.params ∧ e.deriveReserve.pending = e.pending ∧
    e.deriveReserve.serial = e.serial ∧ e.deriveReserve.choice = e.choice ∧
    e.deriveReserve.holdList = e.holdList ∧ e.deriveReserve.channels = e.channels ∧
    e.deriveReserve.nodes = e.nodes ∧ e.deriveReserve.gate = e.gate ∧ e.deriveReserve.laneMap = e.laneMap ∧
    e.deriveReserve.fuel.queue = e.fuel.queue ∧ e.deriveReserve.fuel.dispensers = e.fuel.dispensers ∧
    e.deriveReserve.fuel.stock = e.fuel.stock ∧ e.deriveReserve.fuel.committed = e.fuel.committed ∧
    e.deriveReserve.wash = e.wash ∧ e.deriveReserve.pullOut = e.pullOut ∧ e.deriveReserve.field = e.field ∧
    e.deriveReserve.commands = e.commands ∧ e.deriveReserve.office = e.office ∧ e.deriveReserve.outs = e.outs ∧
    e.deriveReserve.rerunDue = e.rerunDue ∧ e.deriveReserve.fuelDue = e.fuelDue ∧
    e.deriveReserve.washDue = e.washDue ∧ e.deriveReserve.pullDue = e.pullDue ∧
    e.deriveReserve.heldBack = e.heldBack ∧ e.deriveReserve.washBack = e.washBack ∧
    e.deriveReserve.washLanesBack = e.washLanesBack ∧ e.deriveReserve.releasedHere = e.releasedHere := by
  simp [Ev.deriveReserve]

@[simp] theorem Ev.comparePermissions_keeps (e : Ev) (before : State) :
    (e.comparePermissions before).clock = e.clock ∧ (e.comparePermissions before).params = e.params ∧
    (e.comparePermissions before).pending = e.pending ∧ (e.comparePermissions before).serial = e.serial ∧
    (e.comparePermissions before).choice = e.choice ∧ (e.comparePermissions before).holdList = e.holdList ∧
    (e.comparePermissions before).channels = e.channels ∧ (e.comparePermissions before).nodes = e.nodes ∧
    (e.comparePermissions before).counters = e.counters ∧ (e.comparePermissions before).gate = e.gate ∧
    (e.comparePermissions before).laneMap = e.laneMap ∧ (e.comparePermissions before).fuel = e.fuel ∧
    (e.comparePermissions before).wash = e.wash ∧ (e.comparePermissions before).pullOut = e.pullOut ∧
    (e.comparePermissions before).field = e.field ∧ (e.comparePermissions before).commands = e.commands ∧
    (e.comparePermissions before).notices = e.notices ∧ (e.comparePermissions before).office = e.office ∧
    (e.comparePermissions before).outs = e.outs ∧ (e.comparePermissions before).fuelDue = e.fuelDue ∧
    (e.comparePermissions before).washDue = e.washDue ∧ (e.comparePermissions before).heldBack = e.heldBack ∧
    (e.comparePermissions before).washBack = e.washBack ∧
    (e.comparePermissions before).washLanesBack = e.washLanesBack ∧
    (e.comparePermissions before).releasedHere = e.releasedHere := by
  simp [Ev.comparePermissions]

@[simp] theorem Ev.updateShadow_keeps (e : Ev) (destination : Nat) (kind : CommandKind) (mask : Word16) :
    (e.updateShadow destination kind mask).clock = e.clock ∧
    (e.updateShadow destination kind mask).params = e.params ∧
    (e.updateShadow destination kind mask).pending = e.pending ∧
    (e.updateShadow destination kind mask).serial = e.serial ∧
    (e.updateShadow destination kind mask).choice = e.choice ∧
    (e.updateShadow destination kind mask).holdList = e.holdList ∧
    (e.updateShadow destination kind mask).channels = e.channels ∧
    (e.updateShadow destination kind mask).counters = e.counters ∧
    (e.updateShadow destination kind mask).gate = e.gate ∧
    (e.updateShadow destination kind mask).laneMap = e.laneMap ∧
    (e.updateShadow destination kind mask).fuel = e.fuel ∧ (e.updateShadow destination kind mask).wash = e.wash ∧
    (e.updateShadow destination kind mask).pullOut = e.pullOut ∧
    (e.updateShadow destination kind mask).field = e.field ∧
    (e.updateShadow destination kind mask).commands = e.commands ∧
    (e.updateShadow destination kind mask).notices = e.notices ∧
    (e.updateShadow destination kind mask).office = e.office ∧
    (e.updateShadow destination kind mask).outs = e.outs ∧
    (e.updateShadow destination kind mask).rerunDue = e.rerunDue ∧
    (e.updateShadow destination kind mask).fuelDue = e.fuelDue ∧
    (e.updateShadow destination kind mask).washDue = e.washDue ∧
    (e.updateShadow destination kind mask).pullDue = e.pullDue ∧
    (e.updateShadow destination kind mask).heldBack = e.heldBack ∧
    (e.updateShadow destination kind mask).washBack = e.washBack ∧
    (e.updateShadow destination kind mask).washLanesBack = e.washLanesBack ∧
    (e.updateShadow destination kind mask).releasedHere = e.releasedHere := by
  unfold Ev.updateShadow; split <;> simp

@[simp] theorem Ev.clearShadows_keeps (e : Ev) :
    e.clearShadows.clock = e.clock ∧ e.clearShadows.params = e.params ∧ e.clearShadows.pending = e.pending ∧
    e.clearShadows.serial = e.serial ∧ e.clearShadows.choice = e.choice ∧ e.clearShadows.holdList = e.holdList ∧
    e.clearShadows.channels = e.channels ∧ e.clearShadows.counters = e.counters ∧ e.clearShadows.gate = e.gate ∧
    e.clearShadows.laneMap = e.laneMap ∧ e.clearShadows.fuel = e.fuel ∧ e.clearShadows.wash = e.wash ∧
    e.clearShadows.pullOut = e.pullOut ∧ e.clearShadows.field = e.field ∧ e.clearShadows.commands = e.commands ∧
    e.clearShadows.notices = e.notices ∧ e.clearShadows.office = e.office ∧ e.clearShadows.outs = e.outs ∧
    e.clearShadows.rerunDue = e.rerunDue ∧ e.clearShadows.fuelDue = e.fuelDue ∧
    e.clearShadows.washDue = e.washDue ∧ e.clearShadows.pullDue = e.pullDue ∧
    e.clearShadows.heldBack = e.heldBack ∧ e.clearShadows.washBack = e.washBack ∧
    e.clearShadows.washLanesBack = e.washLanesBack ∧ e.clearShadows.releasedHere = e.releasedHere := by
  simp [Ev.clearShadows]

@[simp] theorem Ev.failAtOnce_keeps (e : Ev) :
    e.failAtOnce.clock = e.clock ∧ e.failAtOnce.params = e.params ∧ e.failAtOnce.pending = e.pending ∧
    e.failAtOnce.serial = e.serial ∧ e.failAtOnce.choice = e.choice ∧ e.failAtOnce.holdList = e.holdList ∧
    e.failAtOnce.channels = e.channels ∧ e.failAtOnce.nodes = e.nodes ∧ e.failAtOnce.counters = e.counters ∧
    e.failAtOnce.gate = e.gate ∧ e.failAtOnce.laneMap = e.laneMap ∧ e.failAtOnce.fuel = e.fuel ∧
    e.failAtOnce.wash = e.wash ∧ e.failAtOnce.pullOut = e.pullOut ∧ e.failAtOnce.field = e.field ∧
    e.failAtOnce.commands.tx = e.commands.tx ∧ e.failAtOnce.notices = e.notices ∧ e.failAtOnce.office = e.office ∧
    e.failAtOnce.rerunDue = e.rerunDue ∧ e.failAtOnce.fuelDue = e.fuelDue ∧ e.failAtOnce.washDue = e.washDue ∧
    e.failAtOnce.pullDue = e.pullDue ∧ e.failAtOnce.heldBack = e.heldBack ∧ e.failAtOnce.washBack = e.washBack ∧
    e.failAtOnce.washLanesBack = e.washLanesBack ∧ e.failAtOnce.releasedHere = e.releasedHere := by
  simp [Ev.failAtOnce]

@[simp] theorem Ev.stripOpposite_keeps (e : Ev) (opposite : CommandKind) (destination : Nat) (mask : Word16) :
    (e.stripOpposite opposite destination mask).clock = e.clock ∧
    (e.stripOpposite opposite destination mask).params = e.params ∧
    (e.stripOpposite opposite destination mask).pending = e.pending ∧
    (e.stripOpposite opposite destination mask).serial = e.serial ∧
    (e.stripOpposite opposite destination mask).choice = e.choice ∧
    (e.stripOpposite opposite destination mask).holdList = e.holdList ∧
    (e.stripOpposite opposite destination mask).channels = e.channels ∧
    (e.stripOpposite opposite destination mask).nodes = e.nodes ∧
    (e.stripOpposite opposite destination mask).counters = e.counters ∧
    (e.stripOpposite opposite destination mask).gate = e.gate ∧
    (e.stripOpposite opposite destination mask).laneMap = e.laneMap ∧
    (e.stripOpposite opposite destination mask).fuel = e.fuel ∧
    (e.stripOpposite opposite destination mask).wash = e.wash ∧
    (e.stripOpposite opposite destination mask).pullOut = e.pullOut ∧
    (e.stripOpposite opposite destination mask).field = e.field ∧
    (e.stripOpposite opposite destination mask).commands.tx = e.commands.tx ∧
    (e.stripOpposite opposite destination mask).notices = e.notices ∧
    (e.stripOpposite opposite destination mask).office = e.office ∧
    (e.stripOpposite opposite destination mask).rerunDue = e.rerunDue ∧
    (e.stripOpposite opposite destination mask).fuelDue = e.fuelDue ∧
    (e.stripOpposite opposite destination mask).washDue = e.washDue ∧
    (e.stripOpposite opposite destination mask).pullDue = e.pullDue ∧
    (e.stripOpposite opposite destination mask).heldBack = e.heldBack ∧
    (e.stripOpposite opposite destination mask).washBack = e.washBack ∧
    (e.stripOpposite opposite destination mask).washLanesBack = e.washLanesBack ∧
    (e.stripOpposite opposite destination mask).releasedHere = e.releasedHere := by
  simp [Ev.stripOpposite]

@[simp] theorem Ev.append_keeps (e : Ev) (destination : Nat) (kind : CommandKind) (c : Contribution) :
    (e.append destination kind c).clock = e.clock ∧ (e.append destination kind c).params = e.params ∧
    (e.append destination kind c).pending = e.pending ∧ (e.append destination kind c).choice = e.choice ∧
    (e.append destination kind c).holdList = e.holdList ∧ (e.append destination kind c).channels = e.channels ∧
    (e.append destination kind c).nodes = e.nodes ∧ (e.append destination kind c).counters = e.counters ∧
    (e.append destination kind c).gate = e.gate ∧ (e.append destination kind c).laneMap = e.laneMap ∧
    (e.append destination kind c).fuel = e.fuel ∧ (e.append destination kind c).wash = e.wash ∧
    (e.append destination kind c).pullOut = e.pullOut ∧ (e.append destination kind c).field = e.field ∧
    (e.append destination kind c).commands.tx = e.commands.tx ∧
    (e.append destination kind c).notices = e.notices ∧ (e.append destination kind c).office = e.office ∧
    (e.append destination kind c).outs = e.outs ∧ (e.append destination kind c).rerunDue = e.rerunDue ∧
    (e.append destination kind c).fuelDue = e.fuelDue ∧ (e.append destination kind c).washDue = e.washDue ∧
    (e.append destination kind c).pullDue = e.pullDue ∧ (e.append destination kind c).heldBack = e.heldBack ∧
    (e.append destination kind c).washBack = e.washBack ∧
    (e.append destination kind c).washLanesBack = e.washLanesBack ∧
    (e.append destination kind c).releasedHere = e.releasedHere := by
  simp [Ev.append]

@[simp] theorem Ev.takeRoom_keeps (e : Ev) (destination : Nat) (kind : CommandKind) (c : Contribution) :
    (e.takeRoom destination kind c).clock = e.clock ∧ (e.takeRoom destination kind c).params = e.params ∧
    (e.takeRoom destination kind c).pending = e.pending ∧ (e.takeRoom destination kind c).choice = e.choice ∧
    (e.takeRoom destination kind c).holdList = e.holdList ∧
    (e.takeRoom destination kind c).channels = e.channels ∧ (e.takeRoom destination kind c).nodes = e.nodes ∧
    (e.takeRoom destination kind c).counters = e.counters ∧ (e.takeRoom destination kind c).gate = e.gate ∧
    (e.takeRoom destination kind c).laneMap = e.laneMap ∧ (e.takeRoom destination kind c).fuel = e.fuel ∧
    (e.takeRoom destination kind c).wash = e.wash ∧ (e.takeRoom destination kind c).pullOut = e.pullOut ∧
    (e.takeRoom destination kind c).field = e.field ∧
    (e.takeRoom destination kind c).commands.tx = e.commands.tx ∧
    (e.takeRoom destination kind c).notices = e.notices ∧ (e.takeRoom destination kind c).office = e.office ∧
    (e.takeRoom destination kind c).rerunDue = e.rerunDue ∧ (e.takeRoom destination kind c).fuelDue = e.fuelDue ∧
    (e.takeRoom destination kind c).washDue = e.washDue ∧ (e.takeRoom destination kind c).pullDue = e.pullDue ∧
    (e.takeRoom destination kind c).heldBack = e.heldBack ∧
    (e.takeRoom destination kind c).washBack = e.washBack ∧
    (e.takeRoom destination kind c).washLanesBack = e.washLanesBack ∧
    (e.takeRoom destination kind c).releasedHere = e.releasedHere := by
  unfold Ev.takeRoom; (repeat' split) <;> simp

@[simp] theorem Ev.takeQueued_keeps (e : Ev) (destination : Nat) (kind : CommandKind) (c : Contribution) :
    (e.takeQueued destination kind c).clock = e.clock ∧ (e.takeQueued destination kind c).params = e.params ∧
    (e.takeQueued destination kind c).pending = e.pending ∧ (e.takeQueued destination kind c).choice = e.choice ∧
    (e.takeQueued destination kind c).holdList = e.holdList ∧
    (e.takeQueued destination kind c).channels = e.channels ∧ (e.takeQueued destination kind c).nodes = e.nodes ∧
    (e.takeQueued destination kind c).counters = e.counters ∧ (e.takeQueued destination kind c).gate = e.gate ∧
    (e.takeQueued destination kind c).laneMap = e.laneMap ∧ (e.takeQueued destination kind c).fuel = e.fuel ∧
    (e.takeQueued destination kind c).wash = e.wash ∧ (e.takeQueued destination kind c).pullOut = e.pullOut ∧
    (e.takeQueued destination kind c).field = e.field ∧
    (e.takeQueued destination kind c).commands.tx = e.commands.tx ∧
    (e.takeQueued destination kind c).notices = e.notices ∧ (e.takeQueued destination kind c).office = e.office ∧
    (e.takeQueued destination kind c).rerunDue = e.rerunDue ∧
    (e.takeQueued destination kind c).fuelDue = e.fuelDue ∧
    (e.takeQueued destination kind c).washDue = e.washDue ∧
    (e.takeQueued destination kind c).pullDue = e.pullDue ∧
    (e.takeQueued destination kind c).heldBack = e.heldBack ∧
    (e.takeQueued destination kind c).washBack = e.washBack ∧
    (e.takeQueued destination kind c).washLanesBack = e.washLanesBack ∧
    (e.takeQueued destination kind c).releasedHere = e.releasedHere := by
  unfold Ev.takeQueued; dsimp only; (repeat' split) <;> simp

@[simp] theorem Ev.takeShadow_keeps (e : Ev) (destination : Nat) (kind : CommandKind) (c : Contribution) :
    (e.takeShadow destination kind c).clock = e.clock ∧ (e.takeShadow destination kind c).params = e.params ∧
    (e.takeShadow destination kind c).pending = e.pending ∧ (e.takeShadow destination kind c).serial = e.serial ∧
    (e.takeShadow destination kind c).choice = e.choice ∧
    (e.takeShadow destination kind c).holdList = e.holdList ∧
    (e.takeShadow destination kind c).channels = e.channels ∧ (e.takeShadow destination kind c).gate = e.gate ∧
    (e.takeShadow destination kind c).laneMap = e.laneMap ∧ (e.takeShadow destination kind c).fuel = e.fuel ∧
    (e.takeShadow destination kind c).wash = e.wash ∧ (e.takeShadow destination kind c).pullOut = e.pullOut ∧
    (e.takeShadow destination kind c).field = e.field ∧ (e.takeShadow destination kind c).commands = e.commands ∧
    (e.takeShadow destination kind c).office = e.office ∧
    (e.takeShadow destination kind c).rerunDue = e.rerunDue ∧
    (e.takeShadow destination kind c).fuelDue = e.fuelDue ∧
    (e.takeShadow destination kind c).washDue = e.washDue ∧
    (e.takeShadow destination kind c).pullDue = e.pullDue ∧
    (e.takeShadow destination kind c).heldBack = e.heldBack ∧
    (e.takeShadow destination kind c).washBack = e.washBack ∧
    (e.takeShadow destination kind c).washLanesBack = e.washLanesBack ∧
    (e.takeShadow destination kind c).releasedHere = e.releasedHere := by
  simp [Ev.takeShadow]

@[simp] theorem Ev.request_keeps (e : Ev) (destination : Nat) (kind : CommandKind) (c : Contribution) :
    (e.request destination kind c).clock = e.clock ∧ (e.request destination kind c).params = e.params ∧
    (e.request destination kind c).pending = e.pending ∧ (e.request destination kind c).choice = e.choice ∧
    (e.request destination kind c).holdList = e.holdList ∧ (e.request destination kind c).channels = e.channels ∧
    (e.request destination kind c).gate = e.gate ∧ (e.request destination kind c).laneMap = e.laneMap ∧
    (e.request destination kind c).fuel = e.fuel ∧ (e.request destination kind c).wash = e.wash ∧
    (e.request destination kind c).pullOut = e.pullOut ∧ (e.request destination kind c).field = e.field ∧
    (e.request destination kind c).commands.tx = e.commands.tx ∧
    (e.request destination kind c).office = e.office ∧ (e.request destination kind c).rerunDue = e.rerunDue ∧
    (e.request destination kind c).fuelDue = e.fuelDue ∧ (e.request destination kind c).washDue = e.washDue ∧
    (e.request destination kind c).pullDue = e.pullDue ∧ (e.request destination kind c).heldBack = e.heldBack ∧
    (e.request destination kind c).washBack = e.washBack ∧
    (e.request destination kind c).washLanesBack = e.washLanesBack ∧
    (e.request destination kind c).releasedHere = e.releasedHere := by
  unfold Ev.request; (repeat' split) <;> simp

@[simp] theorem Ev.requestAspect_keeps (e : Ev) (sig : Signal) (kind : CommandKind) (p : Purpose) :
    (e.requestAspect sig kind p).clock = e.clock ∧ (e.requestAspect sig kind p).params = e.params ∧
    (e.requestAspect sig kind p).pending = e.pending ∧ (e.requestAspect sig kind p).choice = e.choice ∧
    (e.requestAspect sig kind p).holdList = e.holdList ∧ (e.requestAspect sig kind p).channels = e.channels ∧
    (e.requestAspect sig kind p).gate = e.gate ∧ (e.requestAspect sig kind p).laneMap = e.laneMap ∧
    (e.requestAspect sig kind p).fuel = e.fuel ∧ (e.requestAspect sig kind p).wash = e.wash ∧
    (e.requestAspect sig kind p).pullOut = e.pullOut ∧ (e.requestAspect sig kind p).field = e.field ∧
    (e.requestAspect sig kind p).commands.tx = e.commands.tx ∧ (e.requestAspect sig kind p).office = e.office ∧
    (e.requestAspect sig kind p).rerunDue = e.rerunDue ∧ (e.requestAspect sig kind p).fuelDue = e.fuelDue ∧
    (e.requestAspect sig kind p).washDue = e.washDue ∧ (e.requestAspect sig kind p).pullDue = e.pullDue ∧
    (e.requestAspect sig kind p).heldBack = e.heldBack ∧ (e.requestAspect sig kind p).washBack = e.washBack ∧
    (e.requestAspect sig kind p).washLanesBack = e.washLanesBack ∧
    (e.requestAspect sig kind p).releasedHere = e.releasedHere := by
  simp [Ev.requestAspect]

@[simp] theorem Ev.requestClear_keeps (e : Ev) (sig : Signal) (p : Purpose) :
    (e.requestClear sig p).clock = e.clock ∧ (e.requestClear sig p).params = e.params ∧
    (e.requestClear sig p).pending = e.pending ∧ (e.requestClear sig p).choice = e.choice ∧
    (e.requestClear sig p).holdList = e.holdList ∧ (e.requestClear sig p).channels = e.channels ∧
    (e.requestClear sig p).gate = e.gate ∧ (e.requestClear sig p).laneMap = e.laneMap ∧
    (e.requestClear sig p).fuel = e.fuel ∧ (e.requestClear sig p).wash = e.wash ∧
    (e.requestClear sig p).pullOut = e.pullOut ∧ (e.requestClear sig p).field = e.field ∧
    (e.requestClear sig p).commands.tx = e.commands.tx ∧ (e.requestClear sig p).office = e.office ∧
    (e.requestClear sig p).rerunDue = e.rerunDue ∧ (e.requestClear sig p).fuelDue = e.fuelDue ∧
    (e.requestClear sig p).washDue = e.washDue ∧ (e.requestClear sig p).pullDue = e.pullDue ∧
    (e.requestClear sig p).heldBack = e.heldBack ∧ (e.requestClear sig p).washBack = e.washBack ∧
    (e.requestClear sig p).washLanesBack = e.washLanesBack ∧ (e.requestClear sig p).releasedHere = e.releasedHere := by
  simp [Ev.requestClear]

@[simp] theorem Ev.requestPlain_keeps (e : Ev) (destination : Nat) (kind : CommandKind) (p : Purpose) :
    (e.requestPlain destination kind p).clock = e.clock ∧ (e.requestPlain destination kind p).params = e.params ∧
    (e.requestPlain destination kind p).pending = e.pending ∧
    (e.requestPlain destination kind p).choice = e.choice ∧
    (e.requestPlain destination kind p).holdList = e.holdList ∧
    (e.requestPlain destination kind p).channels = e.channels ∧
    (e.requestPlain destination kind p).gate = e.gate ∧ (e.requestPlain destination kind p).laneMap = e.laneMap ∧
    (e.requestPlain destination kind p).fuel = e.fuel ∧ (e.requestPlain destination kind p).wash = e.wash ∧
    (e.requestPlain destination kind p).pullOut = e.pullOut ∧
    (e.requestPlain destination kind p).field = e.field ∧
    (e.requestPlain destination kind p).commands.tx = e.commands.tx ∧
    (e.requestPlain destination kind p).office = e.office ∧
    (e.requestPlain destination kind p).rerunDue = e.rerunDue ∧
    (e.requestPlain destination kind p).fuelDue = e.fuelDue ∧
    (e.requestPlain destination kind p).washDue = e.washDue ∧
    (e.requestPlain destination kind p).pullDue = e.pullDue ∧
    (e.requestPlain destination kind p).heldBack = e.heldBack ∧
    (e.requestPlain destination kind p).washBack = e.washBack ∧
    (e.requestPlain destination kind p).washLanesBack = e.washLanesBack ∧
    (e.requestPlain destination kind p).releasedHere = e.releasedHere := by
  simp [Ev.requestPlain]

@[simp] theorem Ev.allStop_keeps (e : Ev) :
    e.allStop.clock = e.clock ∧ e.allStop.params = e.params ∧ e.allStop.pending = e.pending ∧
    e.allStop.choice = e.choice ∧ e.allStop.holdList = e.holdList ∧ e.allStop.channels = e.channels ∧
    e.allStop.gate = e.gate ∧ e.allStop.laneMap = e.laneMap ∧ e.allStop.fuel = e.fuel ∧ e.allStop.wash = e.wash ∧
    e.allStop.pullOut = e.pullOut ∧ e.allStop.field = e.field ∧ e.allStop.commands.tx = e.commands.tx ∧
    e.allStop.office = e.office ∧ e.allStop.rerunDue = e.rerunDue ∧ e.allStop.fuelDue = e.fuelDue ∧
    e.allStop.washDue = e.washDue ∧ e.allStop.pullDue = e.pullDue ∧ e.allStop.heldBack = e.heldBack ∧
    e.allStop.washBack = e.washBack ∧ e.allStop.washLanesBack = e.washLanesBack ∧
    e.allStop.releasedHere = e.releasedHere := by
  simp [Ev.allStop]

@[simp] theorem Ev.tellOutOfCutOff_keeps (e : Ev) (n : Nat) :
    (e.tellOutOfCutOff n).clock = e.clock ∧ (e.tellOutOfCutOff n).params = e.params ∧
    (e.tellOutOfCutOff n).pending = e.pending ∧ (e.tellOutOfCutOff n).serial = e.serial ∧
    (e.tellOutOfCutOff n).choice = e.choice ∧ (e.tellOutOfCutOff n).holdList = e.holdList ∧
    (e.tellOutOfCutOff n).channels = e.channels ∧ (e.tellOutOfCutOff n).nodes = e.nodes ∧
    (e.tellOutOfCutOff n).counters = e.counters ∧ (e.tellOutOfCutOff n).gate = e.gate ∧
    (e.tellOutOfCutOff n).laneMap = e.laneMap ∧ (e.tellOutOfCutOff n).fuel = e.fuel ∧
    (e.tellOutOfCutOff n).wash = e.wash ∧ (e.tellOutOfCutOff n).pullOut = e.pullOut ∧
    (e.tellOutOfCutOff n).field = e.field ∧ (e.tellOutOfCutOff n).commands = e.commands ∧
    (e.tellOutOfCutOff n).notices = e.notices ∧ (e.tellOutOfCutOff n).office = e.office ∧
    (e.tellOutOfCutOff n).outs = e.outs ∧ (e.tellOutOfCutOff n).rerunDue = e.rerunDue ∧
    (e.tellOutOfCutOff n).pullDue = e.pullDue ∧ (e.tellOutOfCutOff n).heldBack = e.heldBack ∧
    (e.tellOutOfCutOff n).washBack = e.washBack ∧ (e.tellOutOfCutOff n).washLanesBack = e.washLanesBack ∧
    (e.tellOutOfCutOff n).releasedHere = e.releasedHere := by
  simp [Ev.tellOutOfCutOff]

@[simp] theorem Ev.setScore_keeps (e : Ev) (n score : Nat) :
    (e.setScore n score).clock = e.clock ∧ (e.setScore n score).params = e.params ∧
    (e.setScore n score).pending = e.pending ∧ (e.setScore n score).serial = e.serial ∧
    (e.setScore n score).choice = e.choice ∧ (e.setScore n score).holdList = e.holdList ∧
    (e.setScore n score).channels = e.channels ∧ (e.setScore n score).gate = e.gate ∧
    (e.setScore n score).laneMap = e.laneMap ∧ (e.setScore n score).fuel = e.fuel ∧
    (e.setScore n score).wash = e.wash ∧ (e.setScore n score).pullOut = e.pullOut ∧
    (e.setScore n score).field = e.field ∧ (e.setScore n score).commands = e.commands ∧
    (e.setScore n score).office = e.office ∧ (e.setScore n score).outs = e.outs ∧
    (e.setScore n score).heldBack = e.heldBack ∧ (e.setScore n score).washBack = e.washBack ∧
    (e.setScore n score).washLanesBack = e.washLanesBack ∧ (e.setScore n score).releasedHere = e.releasedHere := by
  simp [Ev.setScore]

@[simp] theorem Ev.restoreNode_keeps (e : Ev) (n : Nat) :
    (e.restoreNode n).clock = e.clock ∧ (e.restoreNode n).params = e.params ∧
    (e.restoreNode n).pending = e.pending ∧ (e.restoreNode n).serial = e.serial ∧
    (e.restoreNode n).choice = e.choice ∧ (e.restoreNode n).holdList = e.holdList ∧
    (e.restoreNode n).channels = e.channels ∧ (e.restoreNode n).gate = e.gate ∧
    (e.restoreNode n).laneMap = e.laneMap ∧ (e.restoreNode n).fuel = e.fuel ∧ (e.restoreNode n).wash = e.wash ∧
    (e.restoreNode n).pullOut = e.pullOut ∧ (e.restoreNode n).field = e.field ∧
    (e.restoreNode n).commands = e.commands ∧ (e.restoreNode n).office = e.office ∧
    (e.restoreNode n).outs = e.outs ∧ (e.restoreNode n).heldBack = e.heldBack ∧
    (e.restoreNode n).washBack = e.washBack ∧ (e.restoreNode n).washLanesBack = e.washLanesBack ∧
    (e.restoreNode n).releasedHere = e.releasedHere := by
  simp [Ev.restoreNode]

@[simp] theorem Ev.transmit_keeps (e : Ev) (x : CommandEntry) :
    (e.transmit x).clock = e.clock ∧ (e.transmit x).params = e.params ∧ (e.transmit x).pending = e.pending ∧
    (e.transmit x).serial = e.serial ∧ (e.transmit x).choice = e.choice ∧ (e.transmit x).holdList = e.holdList ∧
    (e.transmit x).channels = e.channels ∧ (e.transmit x).counters = e.counters ∧ (e.transmit x).gate = e.gate ∧
    (e.transmit x).laneMap = e.laneMap ∧ (e.transmit x).fuel = e.fuel ∧ (e.transmit x).wash = e.wash ∧
    (e.transmit x).pullOut = e.pullOut ∧ (e.transmit x).field = e.field ∧ (e.transmit x).notices = e.notices ∧
    (e.transmit x).office = e.office ∧ (e.transmit x).outs = e.outs ∧ (e.transmit x).rerunDue = e.rerunDue ∧
    (e.transmit x).fuelDue = e.fuelDue ∧ (e.transmit x).washDue = e.washDue ∧ (e.transmit x).pullDue = e.pullDue ∧
    (e.transmit x).heldBack = e.heldBack ∧ (e.transmit x).washBack = e.washBack ∧
    (e.transmit x).washLanesBack = e.washLanesBack ∧ (e.transmit x).releasedHere = e.releasedHere := by
  simp [Ev.transmit]

@[simp] theorem Ev.entryDone_keeps (e : Ev) (x : CommandEntry) :
    (e.entryDone x).clock = e.clock ∧ (e.entryDone x).params = e.params ∧ (e.entryDone x).pending = e.pending ∧
    (e.entryDone x).serial = e.serial ∧ (e.entryDone x).choice = e.choice ∧
    (e.entryDone x).holdList = e.holdList ∧ (e.entryDone x).channels = e.channels ∧
    (e.entryDone x).counters = e.counters ∧ (e.entryDone x).gate = e.gate ∧ (e.entryDone x).laneMap = e.laneMap ∧
    (e.entryDone x).fuel = e.fuel ∧ (e.entryDone x).wash = e.wash ∧ (e.entryDone x).pullOut = e.pullOut ∧
    (e.entryDone x).field = e.field ∧ (e.entryDone x).commands.tx = e.commands.tx ∧
    (e.entryDone x).notices = e.notices ∧ (e.entryDone x).office = e.office ∧
    (e.entryDone x).rerunDue = e.rerunDue ∧ (e.entryDone x).fuelDue = e.fuelDue ∧
    (e.entryDone x).washDue = e.washDue ∧ (e.entryDone x).pullDue = e.pullDue ∧
    (e.entryDone x).heldBack = e.heldBack ∧ (e.entryDone x).washBack = e.washBack ∧
    (e.entryDone x).washLanesBack = e.washLanesBack ∧ (e.entryDone x).releasedHere = e.releasedHere := by
  simp [Ev.entryDone]

@[simp] theorem Ev.attemptDone_keeps (e : Ev) (x : CommandEntry) :
    (e.attemptDone x).clock = e.clock ∧ (e.attemptDone x).params = e.params ∧
    (e.attemptDone x).pending = e.pending ∧ (e.attemptDone x).serial = e.serial ∧
    (e.attemptDone x).choice = e.choice ∧ (e.attemptDone x).holdList = e.holdList ∧
    (e.attemptDone x).channels = e.channels ∧ (e.attemptDone x).gate = e.gate ∧
    (e.attemptDone x).laneMap = e.laneMap ∧ (e.attemptDone x).fuel = e.fuel ∧ (e.attemptDone x).wash = e.wash ∧
    (e.attemptDone x).pullOut = e.pullOut ∧ (e.attemptDone x).field = e.field ∧
    (e.attemptDone x).commands.tx = e.commands.tx ∧ (e.attemptDone x).office = e.office ∧
    (e.attemptDone x).heldBack = e.heldBack ∧ (e.attemptDone x).washBack = e.washBack ∧
    (e.attemptDone x).washLanesBack = e.washLanesBack ∧ (e.attemptDone x).releasedHere = e.releasedHere := by
  simp [Ev.attemptDone]

@[simp] theorem Ev.attemptFailed_keeps (e : Ev) (x : CommandEntry) :
    (e.attemptFailed x).clock = e.clock ∧ (e.attemptFailed x).params = e.params ∧
    (e.attemptFailed x).pending = e.pending ∧ (e.attemptFailed x).serial = e.serial ∧
    (e.attemptFailed x).choice = e.choice ∧ (e.attemptFailed x).holdList = e.holdList ∧
    (e.attemptFailed x).channels = e.channels ∧ (e.attemptFailed x).gate = e.gate ∧
    (e.attemptFailed x).laneMap = e.laneMap ∧ (e.attemptFailed x).fuel = e.fuel ∧
    (e.attemptFailed x).wash = e.wash ∧ (e.attemptFailed x).pullOut = e.pullOut ∧
    (e.attemptFailed x).field = e.field ∧ (e.attemptFailed x).commands.tx = e.commands.tx ∧
    (e.attemptFailed x).office = e.office ∧ (e.attemptFailed x).heldBack = e.heldBack ∧
    (e.attemptFailed x).washBack = e.washBack ∧ (e.attemptFailed x).washLanesBack = e.washLanesBack ∧
    (e.attemptFailed x).releasedHere = e.releasedHere := by
  unfold Ev.attemptFailed; dsimp only; (repeat' split) <;> simp

@[simp] theorem Ev.takeAck_keeps (e : Ev) (n : Nat) (echoed : Byte) (ok : Bool) :
    (e.takeAck n echoed ok).clock = e.clock ∧ (e.takeAck n echoed ok).params = e.params ∧
    (e.takeAck n echoed ok).pending = e.pending ∧ (e.takeAck n echoed ok).serial = e.serial ∧
    (e.takeAck n echoed ok).choice = e.choice ∧ (e.takeAck n echoed ok).holdList = e.holdList ∧
    (e.takeAck n echoed ok).channels = e.channels ∧ (e.takeAck n echoed ok).gate = e.gate ∧
    (e.takeAck n echoed ok).laneMap = e.laneMap ∧ (e.takeAck n echoed ok).fuel = e.fuel ∧
    (e.takeAck n echoed ok).wash = e.wash ∧ (e.takeAck n echoed ok).pullOut = e.pullOut ∧
    (e.takeAck n echoed ok).field = e.field ∧ (e.takeAck n echoed ok).commands.tx = e.commands.tx ∧
    (e.takeAck n echoed ok).office = e.office ∧ (e.takeAck n echoed ok).heldBack = e.heldBack ∧
    (e.takeAck n echoed ok).washBack = e.washBack ∧ (e.takeAck n echoed ok).washLanesBack = e.washLanesBack ∧
    (e.takeAck n echoed ok).releasedHere = e.releasedHere := by
  unfold Ev.takeAck; (repeat' split) <;> simp

@[simp] theorem Ev.abortWaiting_keeps (e : Ev) :
    e.abortWaiting.clock = e.clock ∧ e.abortWaiting.params = e.params ∧ e.abortWaiting.pending = e.pending ∧
    e.abortWaiting.serial = e.serial ∧ e.abortWaiting.choice = e.choice ∧ e.abortWaiting.holdList = e.holdList ∧
    e.abortWaiting.channels = e.channels ∧ e.abortWaiting.nodes = e.nodes ∧ e.abortWaiting.counters = e.counters ∧
    e.abortWaiting.gate = e.gate ∧ e.abortWaiting.laneMap = e.laneMap ∧ e.abortWaiting.fuel = e.fuel ∧
    e.abortWaiting.wash = e.wash ∧ e.abortWaiting.pullOut = e.pullOut ∧ e.abortWaiting.field = e.field ∧
    e.abortWaiting.commands.tx = e.commands.tx ∧ e.abortWaiting.notices = e.notices ∧
    e.abortWaiting.office = e.office ∧ e.abortWaiting.rerunDue = e.rerunDue ∧ e.abortWaiting.fuelDue = e.fuelDue ∧
    e.abortWaiting.washDue = e.washDue ∧ e.abortWaiting.pullDue = e.pullDue ∧
    e.abortWaiting.heldBack = e.heldBack ∧ e.abortWaiting.washBack = e.washBack ∧
    e.abortWaiting.washLanesBack = e.washLanesBack ∧ e.abortWaiting.releasedHere = e.releasedHere := by
  simp [Ev.abortWaiting]

@[simp] theorem Ev.clearCommands_keeps (e : Ev) :
    e.clearCommands.commands.queue = [] ∧ e.clearCommands.clock = e.clock ∧ e.clearCommands.params = e.params ∧ e.clearCommands.pending = e.pending ∧
    e.clearCommands.serial = e.serial ∧ e.clearCommands.choice = e.choice ∧
    e.clearCommands.holdList = e.holdList ∧ e.clearCommands.channels = e.channels ∧
    e.clearCommands.counters = e.counters ∧ e.clearCommands.gate = e.gate ∧ e.clearCommands.laneMap = e.laneMap ∧
    e.clearCommands.fuel = e.fuel ∧ e.clearCommands.wash = e.wash ∧ e.clearCommands.pullOut = e.pullOut ∧
    e.clearCommands.field = e.field ∧ e.clearCommands.commands.tx = e.commands.tx ∧
    e.clearCommands.notices = e.notices ∧ e.clearCommands.office = e.office ∧ e.clearCommands.outs = e.outs ∧
    e.clearCommands.rerunDue = e.rerunDue ∧ e.clearCommands.fuelDue = e.fuelDue ∧
    e.clearCommands.washDue = e.washDue ∧ e.clearCommands.pullDue = e.pullDue ∧
    e.clearCommands.heldBack = e.heldBack ∧ e.clearCommands.washBack = e.washBack ∧
    e.clearCommands.washLanesBack = e.washLanesBack ∧ e.clearCommands.releasedHere = e.releasedHere := by
  simp [Ev.clearCommands, Ev.setCommands]

@[simp] theorem Ev.takeAgain_keeps (e : Ev) (x : CommandEntry) :
    (e.takeAgain x).clock = e.clock ∧ (e.takeAgain x).params = e.params ∧
    (e.takeAgain x).pending = e.pending ∧ (e.takeAgain x).serial = e.serial ∧
    (e.takeAgain x).choice = e.choice ∧
    (e.takeAgain x).holdList = e.holdList ∧
    (e.takeAgain x).channels = e.channels ∧ (e.takeAgain x).gate = e.gate ∧
    (e.takeAgain x).laneMap = e.laneMap ∧ (e.takeAgain x).fuel = e.fuel ∧
    (e.takeAgain x).wash = e.wash ∧ (e.takeAgain x).pullOut = e.pullOut ∧
    (e.takeAgain x).field = e.field ∧ (e.takeAgain x).commands = e.commands ∧
    (e.takeAgain x).office = e.office ∧
    (e.takeAgain x).rerunDue = e.rerunDue ∧
    (e.takeAgain x).fuelDue = e.fuelDue ∧
    (e.takeAgain x).washDue = e.washDue ∧
    (e.takeAgain x).pullDue = e.pullDue ∧
    (e.takeAgain x).heldBack = e.heldBack ∧
    (e.takeAgain x).washBack = e.washBack ∧
    (e.takeAgain x).washLanesBack = e.washLanesBack ∧
    (e.takeAgain x).releasedHere = e.releasedHere := by
  simp [Ev.takeAgain]

@[simp] theorem Ev.finishInShadow_keeps (e : Ev) :
    e.finishInShadow.clock = e.clock ∧ e.finishInShadow.params = e.params ∧
    e.finishInShadow.pending = e.pending ∧ e.finishInShadow.serial = e.serial ∧
    e.finishInShadow.choice = e.choice ∧
    e.finishInShadow.holdList = e.holdList ∧
    e.finishInShadow.channels = e.channels ∧ e.finishInShadow.gate = e.gate ∧
    e.finishInShadow.laneMap = e.laneMap ∧ e.finishInShadow.fuel = e.fuel ∧
    e.finishInShadow.wash = e.wash ∧ e.finishInShadow.pullOut = e.pullOut ∧
    e.finishInShadow.field = e.field ∧ e.finishInShadow.commands.queue = [] ∧ e.finishInShadow.commands.tx = e.commands.tx ∧
    e.finishInShadow.office = e.office ∧
    e.finishInShadow.rerunDue = e.rerunDue ∧
    e.finishInShadow.fuelDue = e.fuelDue ∧
    e.finishInShadow.washDue = e.washDue ∧
    e.finishInShadow.pullDue = e.pullDue ∧
    e.finishInShadow.heldBack = e.heldBack ∧
    e.finishInShadow.washBack = e.washBack ∧
    e.finishInShadow.washLanesBack = e.washLanesBack ∧
    e.finishInShadow.releasedHere = e.releasedHere := by
  simp [Ev.finishInShadow]

@[simp] theorem Ev.takeHealth_keeps (e : Ev) (n : Nat) (ready : Bool) :
    (e.takeHealth n ready).clock = e.clock ∧ (e.takeHealth n ready).params = e.params ∧
    (e.takeHealth n ready).pending = e.pending ∧ (e.takeHealth n ready).serial = e.serial ∧
    (e.takeHealth n ready).choice = e.choice ∧ (e.takeHealth n ready).holdList = e.holdList ∧
    (e.takeHealth n ready).channels = e.channels ∧ (e.takeHealth n ready).gate = e.gate ∧
    (e.takeHealth n ready).laneMap = e.laneMap ∧ (e.takeHealth n ready).fuel = e.fuel ∧
    (e.takeHealth n ready).wash = e.wash ∧ (e.takeHealth n ready).pullOut = e.pullOut ∧
    (e.takeHealth n ready).field = e.field ∧ (e.takeHealth n ready).commands = e.commands ∧
    (e.takeHealth n ready).office = e.office ∧ (e.takeHealth n ready).outs = e.outs ∧
    (e.takeHealth n ready).heldBack = e.heldBack ∧ (e.takeHealth n ready).washBack = e.washBack ∧
    (e.takeHealth n ready).washLanesBack = e.washLanesBack ∧ (e.takeHealth n ready).releasedHere = e.releasedHere := by
  simp [Ev.takeHealth]

end Sys2Proof.Machine
end

