-- ==== Sys2Proof/Laws/KeepsTurns.lean ====
section
/-! SUPPORT. What each operation of the bindings, the lane assigner and the wash scheduler leaves as it was. -/

namespace Sys2Proof.Machine

@[simp] theorem Ev.stopRelease_keeps (e : Ev) (l : Nat) (duty : Option Nat) :
    (e.stopRelease l duty).clock = e.clock ∧ (e.stopRelease l duty).params = e.params ∧
    (e.stopRelease l duty).pending = e.pending ∧ (e.stopRelease l duty).choice = e.choice ∧
    (e.stopRelease l duty).holdList = e.holdList ∧ (e.stopRelease l duty).channels = e.channels ∧
    (e.stopRelease l duty).gate = e.gate ∧ (e.stopRelease l duty).laneMap = e.laneMap ∧
    (e.stopRelease l duty).fuel = e.fuel ∧ (e.stopRelease l duty).wash = e.wash ∧
    (e.stopRelease l duty).pullOut.duties = e.pullOut.duties ∧ (e.stopRelease l duty).field = e.field ∧
    (e.stopRelease l duty).commands.tx = e.commands.tx ∧ (e.stopRelease l duty).office = e.office ∧
    (e.stopRelease l duty).rerunDue = e.rerunDue ∧ (e.stopRelease l duty).fuelDue = e.fuelDue ∧
    (e.stopRelease l duty).washDue = e.washDue ∧ (e.stopRelease l duty).pullDue = e.pullDue ∧
    (e.stopRelease l duty).heldBack = e.heldBack ∧ (e.stopRelease l duty).washBack = e.washBack ∧
    (e.stopRelease l duty).washLanesBack = e.washLanesBack ∧ (e.stopRelease l duty).releasedHere = e.releasedHere := by
  simp [Ev.stopRelease]

@[simp] theorem Ev.bind_keeps (e : Ev) (b d : Nat) :
    (e.bind b d).clock = e.clock ∧ (e.bind b d).params = e.params ∧ (e.bind b d).pending = e.pending ∧
    (e.bind b d).serial = e.serial ∧ (e.bind b d).choice = e.choice ∧ (e.bind b d).holdList = e.holdList ∧
    (e.bind b d).channels = e.channels ∧ (e.bind b d).nodes = e.nodes ∧ (e.bind b d).counters = e.counters ∧
    (e.bind b d).gate.classes = e.gate.classes ∧ (e.bind b d).laneMap = e.laneMap ∧ (e.bind b d).fuel = e.fuel ∧
    (e.bind b d).wash = e.wash ∧ (e.bind b d).pullOut.releases = e.pullOut.releases ∧
    (e.bind b d).field = e.field ∧ (e.bind b d).commands = e.commands ∧ (e.bind b d).notices = e.notices ∧
    (e.bind b d).office = e.office ∧ (e.bind b d).outs = e.outs ∧ (e.bind b d).rerunDue = e.rerunDue ∧
    (e.bind b d).fuelDue = e.fuelDue ∧ (e.bind b d).washDue = e.washDue ∧ (e.bind b d).pullDue = e.pullDue ∧
    (e.bind b d).heldBack = e.heldBack ∧ (e.bind b d).washBack = e.washBack ∧
    (e.bind b d).washLanesBack = e.washLanesBack ∧ (e.bind b d).releasedHere = e.releasedHere := by
  unfold Ev.bind; split <;> simp

@[simp] theorem Ev.depart_keeps (e : Ev) (d : Nat) (classified : DepartedAs) :
    (e.depart d classified).clock = e.clock ∧ (e.depart d classified).params = e.params ∧
    (e.depart d classified).pending = e.pending ∧ (e.depart d classified).choice = e.choice ∧
    (e.depart d classified).holdList = e.holdList ∧ (e.depart d classified).channels = e.channels ∧
    (e.depart d classified).gate = e.gate ∧ (e.depart d classified).laneMap = e.laneMap ∧
    (e.depart d classified).fuel = e.fuel ∧ (e.depart d classified).wash = e.wash ∧
    (e.depart d classified).field = e.field ∧ (e.depart d classified).commands.tx = e.commands.tx ∧
    (e.depart d classified).office = e.office ∧ (e.depart d classified).rerunDue = e.rerunDue ∧
    (e.depart d classified).fuelDue = e.fuelDue ∧ (e.depart d classified).washDue = e.washDue ∧
    (e.depart d classified).pullDue = e.pullDue ∧ (e.depart d classified).heldBack = e.heldBack ∧
    (e.depart d classified).washBack = e.washBack ∧ (e.depart d classified).washLanesBack = e.washLanesBack ∧
    (e.depart d classified).releasedHere = e.releasedHere := by
  unfold Ev.depart; dsimp only; (repeat' split) <;> simp

@[simp] theorem Ev.clearNames_keeps (e : Ev) (b d : Nat) :
    (e.clearNames b d).clock = e.clock ∧ (e.clearNames b d).params = e.params ∧
    (e.clearNames b d).pending = e.pending ∧ (e.clearNames b d).serial = e.serial ∧
    (e.clearNames b d).choice = e.choice ∧ (e.clearNames b d).holdList = e.holdList ∧
    (e.clearNames b d).channels = e.channels ∧ (e.clearNames b d).nodes = e.nodes ∧
    (e.clearNames b d).counters = e.counters ∧ (e.clearNames b d).gate.classes = e.gate.classes ∧
    (e.clearNames b d).laneMap = e.laneMap ∧ (e.clearNames b d).fuel = e.fuel ∧ (e.clearNames b d).wash = e.wash ∧
    (e.clearNames b d).pullOut.releases = e.pullOut.releases ∧ (e.clearNames b d).field = e.field ∧
    (e.clearNames b d).commands = e.commands ∧ (e.clearNames b d).notices = e.notices ∧
    (e.clearNames b d).office = e.office ∧ (e.clearNames b d).outs = e.outs ∧
    (e.clearNames b d).rerunDue = e.rerunDue ∧ (e.clearNames b d).fuelDue = e.fuelDue ∧
    (e.clearNames b d).washDue = e.washDue ∧ (e.clearNames b d).pullDue = e.pullDue ∧
    (e.clearNames b d).heldBack = e.heldBack ∧ (e.clearNames b d).washBack = e.washBack ∧
    (e.clearNames b d).washLanesBack = e.washLanesBack ∧ (e.clearNames b d).releasedHere = e.releasedHere := by
  simp [Ev.clearNames]

@[simp] theorem Ev.withdrawRelease_keeps (e : Ev) (d : Nat) :
    (e.withdrawRelease d).clock = e.clock ∧ (e.withdrawRelease d).params = e.params ∧
    (e.withdrawRelease d).pending = e.pending ∧ (e.withdrawRelease d).choice = e.choice ∧
    (e.withdrawRelease d).holdList = e.holdList ∧ (e.withdrawRelease d).channels = e.channels ∧
    (e.withdrawRelease d).gate = e.gate ∧ (e.withdrawRelease d).laneMap = e.laneMap ∧
    (e.withdrawRelease d).fuel = e.fuel ∧ (e.withdrawRelease d).wash = e.wash ∧
    (e.withdrawRelease d).field = e.field ∧ (e.withdrawRelease d).commands.tx = e.commands.tx ∧
    (e.withdrawRelease d).office = e.office ∧ (e.withdrawRelease d).rerunDue = e.rerunDue ∧
    (e.withdrawRelease d).fuelDue = e.fuelDue ∧ (e.withdrawRelease d).washDue = e.washDue ∧
    (e.withdrawRelease d).pullDue = e.pullDue ∧ (e.withdrawRelease d).heldBack = e.heldBack ∧
    (e.withdrawRelease d).washBack = e.washBack ∧ (e.withdrawRelease d).washLanesBack = e.washLanesBack ∧
    (e.withdrawRelease d).releasedHere = e.releasedHere := by
  unfold Ev.withdrawRelease; split <;> simp

@[simp] theorem Ev.unbind_keeps (e : Ev) (b : Nat) :
    (e.unbind b).clock = e.clock ∧ (e.unbind b).params = e.params ∧ (e.unbind b).pending = e.pending ∧
    (e.unbind b).choice = e.choice ∧ (e.unbind b).holdList = e.holdList ∧ (e.unbind b).channels = e.channels ∧
    (e.unbind b).gate.classes = e.gate.classes ∧ (e.unbind b).laneMap = e.laneMap ∧ (e.unbind b).fuel = e.fuel ∧
    (e.unbind b).wash = e.wash ∧ (e.unbind b).field = e.field ∧ (e.unbind b).commands.tx = e.commands.tx ∧
    (e.unbind b).office = e.office ∧ (e.unbind b).rerunDue = e.rerunDue ∧ (e.unbind b).fuelDue = e.fuelDue ∧
    (e.unbind b).washDue = e.washDue ∧ (e.unbind b).pullDue = e.pullDue ∧ (e.unbind b).heldBack = e.heldBack ∧
    (e.unbind b).washBack = e.washBack ∧ (e.unbind b).washLanesBack = e.washLanesBack ∧
    (e.unbind b).releasedHere = e.releasedHere := by
  unfold Ev.unbind; dsimp only; (repeat' split) <;> simp

@[simp] theorem Ev.departBus_keeps (e : Ev) (b : Nat) (classified : DepartedAs) :
    (e.departBus b classified).clock = e.clock ∧ (e.departBus b classified).params = e.params ∧
    (e.departBus b classified).pending = e.pending ∧ (e.departBus b classified).choice = e.choice ∧
    (e.departBus b classified).holdList = e.holdList ∧ (e.departBus b classified).channels = e.channels ∧
    (e.departBus b classified).gate = e.gate ∧ (e.departBus b classified).laneMap = e.laneMap ∧
    (e.departBus b classified).fuel = e.fuel ∧ (e.departBus b classified).wash = e.wash ∧
    (e.departBus b classified).field = e.field ∧ (e.departBus b classified).commands.tx = e.commands.tx ∧
    (e.departBus b classified).office = e.office ∧ (e.departBus b classified).rerunDue = e.rerunDue ∧
    (e.departBus b classified).fuelDue = e.fuelDue ∧ (e.departBus b classified).washDue = e.washDue ∧
    (e.departBus b classified).pullDue = e.pullDue ∧ (e.departBus b classified).heldBack = e.heldBack ∧
    (e.departBus b classified).washBack = e.washBack ∧
    (e.departBus b classified).washLanesBack = e.washLanesBack ∧
    (e.departBus b classified).releasedHere = e.releasedHere := by
  unfold Ev.departBus; split <;> simp

@[simp] theorem Ev.clearPins_keeps (e : Ev) (p : Nat → DutyRec → Bool) :
    (e.clearPins p).clock = e.clock ∧ (e.clearPins p).params = e.params ∧ (e.clearPins p).pending = e.pending ∧
    (e.clearPins p).serial = e.serial ∧ (e.clearPins p).choice = e.choice ∧
    (e.clearPins p).holdList = e.holdList ∧ (e.clearPins p).channels = e.channels ∧
    (e.clearPins p).nodes = e.nodes ∧ (e.clearPins p).counters = e.counters ∧ (e.clearPins p).gate = e.gate ∧
    (e.clearPins p).laneMap = e.laneMap ∧ (e.clearPins p).fuel = e.fuel ∧ (e.clearPins p).wash = e.wash ∧
    (e.clearPins p).pullOut.releases = e.pullOut.releases ∧ (e.clearPins p).field = e.field ∧
    (e.clearPins p).commands = e.commands ∧ (e.clearPins p).notices = e.notices ∧
    (e.clearPins p).office = e.office ∧ (e.clearPins p).outs = e.outs ∧ (e.clearPins p).rerunDue = e.rerunDue ∧
    (e.clearPins p).fuelDue = e.fuelDue ∧ (e.clearPins p).washDue = e.washDue ∧
    (e.clearPins p).pullDue = e.pullDue ∧ (e.clearPins p).heldBack = e.heldBack ∧
    (e.clearPins p).washBack = e.washBack ∧ (e.clearPins p).washLanesBack = e.washLanesBack ∧
    (e.clearPins p).releasedHere = e.releasedHere := by
  simp [Ev.clearPins]

@[simp] theorem Ev.rebindOne_keeps (e : Ev) (d : Nat) :
    (e.rebindOne d).clock = e.clock ∧ (e.rebindOne d).params = e.params ∧ (e.rebindOne d).pending = e.pending ∧
    (e.rebindOne d).choice = e.choice ∧ (e.rebindOne d).holdList = e.holdList ∧
    (e.rebindOne d).channels = e.channels ∧ (e.rebindOne d).gate.classes = e.gate.classes ∧
    (e.rebindOne d).laneMap = e.laneMap ∧ (e.rebindOne d).fuel = e.fuel ∧ (e.rebindOne d).wash = e.wash ∧
    (e.rebindOne d).field = e.field ∧ (e.rebindOne d).commands.tx = e.commands.tx ∧
    (e.rebindOne d).office = e.office ∧ (e.rebindOne d).rerunDue = e.rerunDue ∧
    (e.rebindOne d).fuelDue = e.fuelDue ∧ (e.rebindOne d).washDue = e.washDue ∧
    (e.rebindOne d).pullDue = e.pullDue ∧ (e.rebindOne d).heldBack = e.heldBack ∧
    (e.rebindOne d).washBack = e.washBack ∧ (e.rebindOne d).washLanesBack = e.washLanesBack ∧
    (e.rebindOne d).releasedHere = e.releasedHere := by
  unfold Ev.rebindOne; (repeat' split) <;> simp

@[simp] theorem Ev.rebind_keeps (e : Ev) :
    e.rebind.clock = e.clock ∧ e.rebind.params = e.params ∧ e.rebind.pending = e.pending ∧
    e.rebind.choice = e.choice ∧ e.rebind.holdList = e.holdList ∧ e.rebind.channels = e.channels ∧
    e.rebind.gate.classes = e.gate.classes ∧ e.rebind.laneMap = e.laneMap ∧ e.rebind.fuel = e.fuel ∧
    e.rebind.wash = e.wash ∧ e.rebind.field = e.field ∧ e.rebind.commands.tx = e.commands.tx ∧
    e.rebind.office = e.office ∧ e.rebind.rerunDue = e.rerunDue ∧ e.rebind.fuelDue = e.fuelDue ∧
    e.rebind.washDue = e.washDue ∧ e.rebind.pullDue = e.pullDue ∧ e.rebind.heldBack = e.heldBack ∧
    e.rebind.washBack = e.washBack ∧ e.rebind.washLanesBack = e.washLanesBack ∧
    e.rebind.releasedHere = e.releasedHere := by
  simp [Ev.rebind, Ev.rebindClass]

@[simp] theorem Ev.leaveDirection_keeps (e : Ev) (d : Direction) :
    (e.leaveDirection d).clock = e.clock ∧ (e.leaveDirection d).params = e.params ∧
    (e.leaveDirection d).pending = e.pending ∧ (e.leaveDirection d).choice = e.choice ∧
    (e.leaveDirection d).holdList = e.holdList ∧ (e.leaveDirection d).channels = e.channels ∧
    (e.leaveDirection d).gate = e.gate ∧ (e.leaveDirection d).laneMap.lanes = e.laneMap.lanes ∧
    (e.leaveDirection d).fuel = e.fuel ∧ (e.leaveDirection d).wash = e.wash ∧
    (e.leaveDirection d).pullOut = e.pullOut ∧ (e.leaveDirection d).field = e.field ∧
    (e.leaveDirection d).commands.tx = e.commands.tx ∧ (e.leaveDirection d).office = e.office ∧
    (e.leaveDirection d).fuelDue = e.fuelDue ∧ (e.leaveDirection d).washDue = e.washDue ∧
    (e.leaveDirection d).pullDue = e.pullDue ∧ (e.leaveDirection d).heldBack = e.heldBack ∧
    (e.leaveDirection d).washBack = e.washBack ∧ (e.leaveDirection d).washLanesBack = e.washLanesBack ∧
    (e.leaveDirection d).releasedHere = e.releasedHere := by
  unfold Ev.leaveDirection; dsimp only; (repeat' split) <;> simp

@[simp] theorem Ev.loseDirected_keeps (e : Ev) (d : Direction) :
    (e.loseDirected d).clock = e.clock ∧ (e.loseDirected d).params = e.params ∧
    (e.loseDirected d).pending = e.pending ∧ (e.loseDirected d).choice = e.choice ∧
    (e.loseDirected d).holdList = e.holdList ∧ (e.loseDirected d).channels = e.channels ∧
    (e.loseDirected d).gate.classes = e.gate.classes ∧ (e.loseDirected d).laneMap.lanes = e.laneMap.lanes ∧
    (e.loseDirected d).fuel = e.fuel ∧ (e.loseDirected d).wash = e.wash ∧
    (e.loseDirected d).pullOut = e.pullOut ∧ (e.loseDirected d).field = e.field ∧
    (e.loseDirected d).commands.tx = e.commands.tx ∧ (e.loseDirected d).office = e.office ∧
    (e.loseDirected d).fuelDue = e.fuelDue ∧ (e.loseDirected d).washDue = e.washDue ∧
    (e.loseDirected d).pullDue = e.pullDue ∧ (e.loseDirected d).heldBack = e.heldBack ∧
    (e.loseDirected d).washBack = e.washBack ∧ (e.loseDirected d).washLanesBack = e.washLanesBack ∧
    (e.loseDirected d).releasedHere = e.releasedHere := by
  simp [Ev.loseDirected]

/-- A direction's end by expiry or misroute turns its bus LOST (R58). -/
theorem Ev.loseDirected_bus (e : Ev) (d : Direction) (h : d.bus < 256) :
    (e.loseDirected d).bus d.bus = { e.bus d.bus with place := .lost, lastSeen := e.now } := by
  have hg : (e.leaveDirection d).bus d.bus = e.bus d.bus := by simp [State.bus]
  have hn : (e.leaveDirection d).now = e.now := by simp [State.now]
  simp [Ev.loseDirected, Ev.setPlace, hg, hn, h]

@[simp] theorem Ev.joinHold_keeps (e : Ev) (b : Nat) :
    (e.joinHold b).clock = e.clock ∧ (e.joinHold b).params = e.params ∧ (e.joinHold b).pending = e.pending ∧
    (e.joinHold b).serial = e.serial ∧ (e.joinHold b).choice = e.choice ∧ (e.joinHold b).channels = e.channels ∧
    (e.joinHold b).nodes = e.nodes ∧ (e.joinHold b).counters = e.counters ∧
    (e.joinHold b).gate.classes = e.gate.classes ∧ (e.joinHold b).laneMap = e.laneMap ∧
    (e.joinHold b).fuel = e.fuel ∧ (e.joinHold b).wash = e.wash ∧ (e.joinHold b).pullOut = e.pullOut ∧
    (e.joinHold b).field = e.field ∧ (e.joinHold b).commands = e.commands ∧ (e.joinHold b).notices = e.notices ∧
    (e.joinHold b).office = e.office ∧ (e.joinHold b).outs = e.outs ∧ (e.joinHold b).rerunDue = e.rerunDue ∧
    (e.joinHold b).fuelDue = e.fuelDue ∧ (e.joinHold b).washDue = e.washDue ∧ (e.joinHold b).pullDue = e.pullDue ∧
    (e.joinHold b).heldBack = e.heldBack ∧ (e.joinHold b).washBack = e.washBack ∧
    (e.joinHold b).washLanesBack = e.washLanesBack ∧ (e.joinHold b).releasedHere = e.releasedHere := by
  simp [Ev.joinHold]

@[simp] theorem Ev.leaveHold_keeps (e : Ev) (b : Nat) :
    (e.leaveHold b).clock = e.clock ∧ (e.leaveHold b).params = e.params ∧ (e.leaveHold b).pending = e.pending ∧
    (e.leaveHold b).serial = e.serial ∧ (e.leaveHold b).choice = e.choice ∧
    (e.leaveHold b).channels = e.channels ∧ (e.leaveHold b).nodes = e.nodes ∧
    (e.leaveHold b).counters = e.counters ∧ (e.leaveHold b).gate = e.gate ∧ (e.leaveHold b).laneMap = e.laneMap ∧
    (e.leaveHold b).fuel = e.fuel ∧ (e.leaveHold b).wash = e.wash ∧ (e.leaveHold b).pullOut = e.pullOut ∧
    (e.leaveHold b).field = e.field ∧ (e.leaveHold b).commands = e.commands ∧
    (e.leaveHold b).notices = e.notices ∧ (e.leaveHold b).office = e.office ∧ (e.leaveHold b).outs = e.outs ∧
    (e.leaveHold b).rerunDue = e.rerunDue ∧ (e.leaveHold b).fuelDue = e.fuelDue ∧
    (e.leaveHold b).washDue = e.washDue ∧ (e.leaveHold b).pullDue = e.pullDue ∧
    (e.leaveHold b).heldBack = e.heldBack ∧ (e.leaveHold b).washBack = e.washBack ∧
    (e.leaveHold b).washLanesBack = e.washLanesBack ∧ (e.leaveHold b).releasedHere = e.releasedHere := by
  simp [Ev.leaveHold]

@[simp] theorem Ev.bindProvisional_keeps (e : Ev) (b : Nat) :
    (e.bindProvisional b).clock = e.clock ∧ (e.bindProvisional b).params = e.params ∧
    (e.bindProvisional b).pending = e.pending ∧ (e.bindProvisional b).serial = e.serial ∧
    (e.bindProvisional b).choice = e.choice ∧ (e.bindProvisional b).holdList = e.holdList ∧
    (e.bindProvisional b).channels = e.channels ∧ (e.bindProvisional b).nodes = e.nodes ∧
    (e.bindProvisional b).counters = e.counters ∧ (e.bindProvisional b).gate.classes = e.gate.classes ∧
    (e.bindProvisional b).laneMap = e.laneMap ∧ (e.bindProvisional b).fuel = e.fuel ∧
    (e.bindProvisional b).wash = e.wash ∧ (e.bindProvisional b).pullOut.releases = e.pullOut.releases ∧
    (e.bindProvisional b).field = e.field ∧ (e.bindProvisional b).commands = e.commands ∧
    (e.bindProvisional b).notices = e.notices ∧ (e.bindProvisional b).office = e.office ∧
    (e.bindProvisional b).outs = e.outs ∧ (e.bindProvisional b).rerunDue = e.rerunDue ∧
    (e.bindProvisional b).fuelDue = e.fuelDue ∧ (e.bindProvisional b).washDue = e.washDue ∧
    (e.bindProvisional b).pullDue = e.pullDue ∧ (e.bindProvisional b).heldBack = e.heldBack ∧
    (e.bindProvisional b).washBack = e.washBack ∧ (e.bindProvisional b).washLanesBack = e.washLanesBack ∧
    (e.bindProvisional b).releasedHere = e.releasedHere := by
  unfold Ev.bindProvisional; (repeat' split) <;> simp

@[simp] theorem Ev.direct_keeps (e : Ev) (b l : Nat) :
    (e.direct b l).clock = e.clock ∧ (e.direct b l).params = e.params ∧ (e.direct b l).pending = e.pending ∧
    (e.direct b l).choice = e.choice ∧ (e.direct b l).channels = e.channels ∧
    (e.direct b l).gate.classes = e.gate.classes ∧ (e.direct b l).laneMap.lanes = e.laneMap.lanes ∧
    (e.direct b l).fuel = e.fuel ∧ (e.direct b l).wash = e.wash ∧ (e.direct b l).pullOut = e.pullOut ∧
    (e.direct b l).field = e.field ∧ (e.direct b l).commands.tx = e.commands.tx ∧
    (e.direct b l).office = e.office ∧ (e.direct b l).rerunDue = e.rerunDue ∧ (e.direct b l).fuelDue = e.fuelDue ∧
    (e.direct b l).washDue = e.washDue ∧ (e.direct b l).pullDue = e.pullDue ∧
    (e.direct b l).heldBack = e.heldBack ∧ (e.direct b l).washBack = e.washBack ∧
    (e.direct b l).washLanesBack = e.washLanesBack ∧ (e.direct b l).releasedHere = e.releasedHere := by
  simp [Ev.direct]

@[simp] theorem Ev.holdBus_keeps (e : Ev) (b : Nat) (r : HeldReason) :
    (e.holdBus b r).clock = e.clock ∧ (e.holdBus b r).params = e.params ∧ (e.holdBus b r).pending = e.pending ∧
    (e.holdBus b r).serial = e.serial ∧ (e.holdBus b r).choice = e.choice ∧
    (e.holdBus b r).channels = e.channels ∧ (e.holdBus b r).nodes = e.nodes ∧
    (e.holdBus b r).gate.classes = e.gate.classes ∧ (e.holdBus b r).laneMap = e.laneMap ∧
    (e.holdBus b r).fuel = e.fuel ∧ (e.holdBus b r).wash = e.wash ∧ (e.holdBus b r).pullOut = e.pullOut ∧
    (e.holdBus b r).field = e.field ∧ (e.holdBus b r).commands = e.commands ∧ (e.holdBus b r).office = e.office ∧
    (e.holdBus b r).outs = e.outs ∧ (e.holdBus b r).rerunDue = e.rerunDue ∧ (e.holdBus b r).fuelDue = e.fuelDue ∧
    (e.holdBus b r).washDue = e.washDue ∧ (e.holdBus b r).pullDue = e.pullDue ∧
    (e.holdBus b r).heldBack = e.heldBack ∧ (e.holdBus b r).washBack = e.washBack ∧
    (e.holdBus b r).washLanesBack = e.washLanesBack ∧ (e.holdBus b r).releasedHere = e.releasedHere := by
  unfold Ev.holdBus; split <;> simp

@[simp] theorem Ev.attempt_keeps (e : Ev) (b : Nat) :
    (e.attempt b).clock = e.clock ∧ (e.attempt b).params = e.params ∧ (e.attempt b).pending = e.pending ∧
    (e.attempt b).choice = e.choice ∧ (e.attempt b).channels = e.channels ∧
    (e.attempt b).gate.classes = e.gate.classes ∧ (e.attempt b).laneMap.lanes = e.laneMap.lanes ∧
    (e.attempt b).fuel = e.fuel ∧ (e.attempt b).wash = e.wash ∧
    (e.attempt b).pullOut.releases = e.pullOut.releases ∧ (e.attempt b).field = e.field ∧
    (e.attempt b).commands.tx = e.commands.tx ∧ (e.attempt b).office = e.office ∧
    (e.attempt b).rerunDue = e.rerunDue ∧ (e.attempt b).fuelDue = e.fuelDue ∧ (e.attempt b).washDue = e.washDue ∧
    (e.attempt b).pullDue = e.pullDue ∧ (e.attempt b).heldBack = e.heldBack ∧
    (e.attempt b).washBack = e.washBack ∧ (e.attempt b).washLanesBack = e.washLanesBack ∧
    (e.attempt b).releasedHere = e.releasedHere := by
  unfold Ev.attempt; dsimp only; (repeat' split) <;> simp

@[simp] theorem Ev.washSkip_keeps (e : Ev) (b : Nat) (r : SkipReason) :
    (e.washSkip b r).clock = e.clock ∧ (e.washSkip b r).params = e.params ∧ (e.washSkip b r).pending = e.pending ∧
    (e.washSkip b r).choice = e.choice ∧ (e.washSkip b r).channels = e.channels ∧
    (e.washSkip b r).gate.classes = e.gate.classes ∧ (e.washSkip b r).laneMap.lanes = e.laneMap.lanes ∧
    (e.washSkip b r).fuel = e.fuel ∧ (e.washSkip b r).wash = e.wash ∧
    (e.washSkip b r).pullOut.releases = e.pullOut.releases ∧ (e.washSkip b r).field = e.field ∧
    (e.washSkip b r).commands.tx = e.commands.tx ∧ (e.washSkip b r).office = e.office ∧
    (e.washSkip b r).rerunDue = e.rerunDue ∧ (e.washSkip b r).fuelDue = e.fuelDue ∧
    (e.washSkip b r).washDue = e.washDue ∧ (e.washSkip b r).pullDue = e.pullDue ∧
    (e.washSkip b r).heldBack = e.heldBack ∧ (e.washSkip b r).washBack = e.washBack ∧
    (e.washSkip b r).washLanesBack = e.washLanesBack ∧ (e.washSkip b r).releasedHere = e.releasedHere := by
  simp [Ev.washSkip]

@[simp] theorem Ev.passOverWash_keeps (e : Ev) (b : Nat) :
    (e.passOverWash b).clock = e.clock ∧ (e.passOverWash b).params = e.params ∧
    (e.passOverWash b).pending = e.pending ∧ (e.passOverWash b).choice = e.choice ∧
    (e.passOverWash b).channels = e.channels ∧ (e.passOverWash b).gate.classes = e.gate.classes ∧
    (e.passOverWash b).laneMap.lanes = e.laneMap.lanes ∧ (e.passOverWash b).fuel = e.fuel ∧
    (e.passOverWash b).wash = e.wash ∧ (e.passOverWash b).pullOut.releases = e.pullOut.releases ∧
    (e.passOverWash b).field = e.field ∧ (e.passOverWash b).commands.tx = e.commands.tx ∧
    (e.passOverWash b).office = e.office ∧ (e.passOverWash b).rerunDue = e.rerunDue ∧
    (e.passOverWash b).fuelDue = e.fuelDue ∧ (e.passOverWash b).washDue = e.washDue ∧
    (e.passOverWash b).pullDue = e.pullDue ∧ (e.passOverWash b).heldBack = e.heldBack ∧
    (e.passOverWash b).washBack = e.washBack ∧ (e.passOverWash b).washLanesBack = e.washLanesBack ∧
    (e.passOverWash b).releasedHere = e.releasedHere := by
  simp [Ev.passOverWash]

@[simp] theorem Ev.joinWash_keeps (e : Ev) (x : WashEntry) (head : Bool) :
    (e.joinWash x head).clock = e.clock ∧ (e.joinWash x head).params = e.params ∧
    (e.joinWash x head).pending = e.pending ∧ (e.joinWash x head).serial = e.serial ∧
    (e.joinWash x head).choice = e.choice ∧ (e.joinWash x head).holdList = e.holdList ∧
    (e.joinWash x head).channels = e.channels ∧ (e.joinWash x head).nodes = e.nodes ∧
    (e.joinWash x head).counters = e.counters ∧ (e.joinWash x head).gate.classes = e.gate.classes ∧
    (e.joinWash x head).laneMap = e.laneMap ∧ (e.joinWash x head).fuel = e.fuel ∧
    (e.joinWash x head).wash.lanes = e.wash.lanes ∧ (e.joinWash x head).wash.waived = e.wash.waived ∧
    (e.joinWash x head).pullOut = e.pullOut ∧ (e.joinWash x head).field = e.field ∧
    (e.joinWash x head).commands = e.commands ∧ (e.joinWash x head).notices = e.notices ∧
    (e.joinWash x head).office = e.office ∧ (e.joinWash x head).outs = e.outs ∧
    (e.joinWash x head).rerunDue = e.rerunDue ∧ (e.joinWash x head).fuelDue = e.fuelDue ∧
    (e.joinWash x head).washDue = e.washDue ∧ (e.joinWash x head).pullDue = e.pullDue ∧
    (e.joinWash x head).heldBack = e.heldBack ∧ (e.joinWash x head).washBack = e.washBack ∧
    (e.joinWash x head).washLanesBack = e.washLanesBack ∧ (e.joinWash x head).releasedHere = e.releasedHere := by
  simp [Ev.joinWash]

@[simp] theorem Ev.enqueueWash_keeps (e : Ev) (b : Nat) :
    (e.enqueueWash b).clock = e.clock ∧ (e.enqueueWash b).params = e.params ∧
    (e.enqueueWash b).pending = e.pending ∧ (e.enqueueWash b).choice = e.choice ∧
    (e.enqueueWash b).channels = e.channels ∧ (e.enqueueWash b).gate.classes = e.gate.classes ∧
    (e.enqueueWash b).laneMap.lanes = e.laneMap.lanes ∧ (e.enqueueWash b).fuel = e.fuel ∧
    (e.enqueueWash b).wash.lanes = e.wash.lanes ∧ (e.enqueueWash b).wash.waived = e.wash.waived ∧
    (e.enqueueWash b).pullOut.releases = e.pullOut.releases ∧ (e.enqueueWash b).field = e.field ∧
    (e.enqueueWash b).commands.tx = e.commands.tx ∧ (e.enqueueWash b).office = e.office ∧
    (e.enqueueWash b).rerunDue = e.rerunDue ∧ (e.enqueueWash b).fuelDue = e.fuelDue ∧
    (e.enqueueWash b).pullDue = e.pullDue ∧ (e.enqueueWash b).heldBack = e.heldBack ∧
    (e.enqueueWash b).washBack = e.washBack ∧ (e.enqueueWash b).washLanesBack = e.washLanesBack ∧
    (e.enqueueWash b).releasedHere = e.releasedHere := by
  unfold Ev.enqueueWash; split <;> simp

@[simp] theorem Ev.returnWash_keeps (e : Ev) (x : WashEntry) (head trigger : Bool) :
    (e.returnWash x head trigger).clock = e.clock ∧ (e.returnWash x head trigger).params = e.params ∧
    (e.returnWash x head trigger).pending = e.pending ∧ (e.returnWash x head trigger).choice = e.choice ∧
    (e.returnWash x head trigger).channels = e.channels ∧
    (e.returnWash x head trigger).gate.classes = e.gate.classes ∧
    (e.returnWash x head trigger).laneMap.lanes = e.laneMap.lanes ∧ (e.returnWash x head trigger).fuel = e.fuel ∧
    (e.returnWash x head trigger).wash.lanes = e.wash.lanes ∧
    (e.returnWash x head trigger).wash.waived = e.wash.waived ∧
    (e.returnWash x head trigger).pullOut.releases = e.pullOut.releases ∧
    (e.returnWash x head trigger).field = e.field ∧ (e.returnWash x head trigger).commands.tx = e.commands.tx ∧
    (e.returnWash x head trigger).office = e.office ∧ (e.returnWash x head trigger).rerunDue = e.rerunDue ∧
    (e.returnWash x head trigger).fuelDue = e.fuelDue ∧ (e.returnWash x head trigger).pullDue = e.pullDue ∧
    (e.returnWash x head trigger).heldBack = e.heldBack ∧ (e.returnWash x head trigger).washBack = e.washBack ∧
    (e.returnWash x head trigger).washLanesBack = e.washLanesBack ∧
    (e.returnWash x head trigger).releasedHere = e.releasedHere := by
  unfold Ev.returnWash; (repeat' split) <;> simp

@[simp] theorem Ev.washTest_keeps (e : Ev) (b : Nat) :
    (e.washTest b).clock = e.clock ∧ (e.washTest b).params = e.params ∧ (e.washTest b).pending = e.pending ∧
    (e.washTest b).choice = e.choice ∧ (e.washTest b).channels = e.channels ∧
    (e.washTest b).gate.classes = e.gate.classes ∧ (e.washTest b).laneMap.lanes = e.laneMap.lanes ∧
    (e.washTest b).fuel = e.fuel ∧ (e.washTest b).wash.lanes = e.wash.lanes ∧
    (e.washTest b).wash.waived = e.wash.waived ∧ (e.washTest b).pullOut.releases = e.pullOut.releases ∧
    (e.washTest b).field = e.field ∧ (e.washTest b).commands.tx = e.commands.tx ∧
    (e.washTest b).office = e.office ∧ (e.washTest b).rerunDue = e.rerunDue ∧ (e.washTest b).fuelDue = e.fuelDue ∧
    (e.washTest b).pullDue = e.pullDue ∧ (e.washTest b).heldBack = e.heldBack ∧
    (e.washTest b).washBack = e.washBack ∧ (e.washTest b).washLanesBack = e.washLanesBack ∧
    (e.washTest b).releasedHere = e.releasedHere := by
  unfold Ev.washTest; (repeat' split) <;> simp

@[simp] theorem Ev.washState_keeps (e : Ev) (w : Nat) (st : WashState) :
    (e.washState w st).clock = e.clock ∧ (e.washState w st).params = e.params ∧
    (e.washState w st).pending = e.pending ∧ (e.washState w st).serial = e.serial ∧
    (e.washState w st).choice = e.choice ∧ (e.washState w st).holdList = e.holdList ∧
    (e.washState w st).channels = e.channels ∧ (e.washState w st).nodes = e.nodes ∧
    (e.washState w st).counters = e.counters ∧ (e.washState w st).gate = e.gate ∧
    (e.washState w st).laneMap = e.laneMap ∧ (e.washState w st).fuel = e.fuel ∧
    (e.washState w st).wash.queue = e.wash.queue ∧ (e.washState w st).wash.waived = e.wash.waived ∧
    (e.washState w st).pullOut = e.pullOut ∧ (e.washState w st).field = e.field ∧
    (e.washState w st).commands = e.commands ∧ (e.washState w st).notices = e.notices ∧
    (e.washState w st).office = e.office ∧ (e.washState w st).outs = e.outs ∧
    (e.washState w st).rerunDue = e.rerunDue ∧ (e.washState w st).fuelDue = e.fuelDue ∧
    (e.washState w st).washDue = e.washDue ∧ (e.washState w st).pullDue = e.pullDue ∧
    (e.washState w st).heldBack = e.heldBack ∧ (e.washState w st).washBack = e.washBack ∧
    (e.washState w st).washLanesBack = e.washLanesBack ∧ (e.washState w st).releasedHere = e.releasedHere := by
  simp [Ev.washState]

@[simp] theorem Ev.setFaultScore_keeps (e : Ev) (w score : Nat) :
    (e.setFaultScore w score).clock = e.clock ∧ (e.setFaultScore w score).params = e.params ∧
    (e.setFaultScore w score).pending = e.pending ∧ (e.setFaultScore w score).serial = e.serial ∧
    (e.setFaultScore w score).choice = e.choice ∧ (e.setFaultScore w score).holdList = e.holdList ∧
    (e.setFaultScore w score).channels = e.channels ∧ (e.setFaultScore w score).nodes = e.nodes ∧
    (e.setFaultScore w score).gate = e.gate ∧ (e.setFaultScore w score).laneMap = e.laneMap ∧
    (e.setFaultScore w score).fuel = e.fuel ∧ (e.setFaultScore w score).wash.queue = e.wash.queue ∧
    (e.setFaultScore w score).wash.waived = e.wash.waived ∧ (e.setFaultScore w score).pullOut = e.pullOut ∧
    (e.setFaultScore w score).field = e.field ∧ (e.setFaultScore w score).commands = e.commands ∧
    (e.setFaultScore w score).office = e.office ∧ (e.setFaultScore w score).outs = e.outs ∧
    (e.setFaultScore w score).rerunDue = e.rerunDue ∧ (e.setFaultScore w score).fuelDue = e.fuelDue ∧
    (e.setFaultScore w score).washDue = e.washDue ∧ (e.setFaultScore w score).pullDue = e.pullDue ∧
    (e.setFaultScore w score).heldBack = e.heldBack ∧ (e.setFaultScore w score).washBack = e.washBack ∧
    (e.setFaultScore w score).washLanesBack = e.washLanesBack ∧
    (e.setFaultScore w score).releasedHere = e.releasedHere := by
  simp [Ev.setFaultScore]

@[simp] theorem Ev.closeOr_keeps (e : Ev) (w : Nat) (st : WashState) :
    (e.closeOr w st).clock = e.clock ∧ (e.closeOr w st).params = e.params ∧ (e.closeOr w st).pending = e.pending ∧
    (e.closeOr w st).serial = e.serial ∧ (e.closeOr w st).choice = e.choice ∧
    (e.closeOr w st).holdList = e.holdList ∧ (e.closeOr w st).channels = e.channels ∧
    (e.closeOr w st).nodes = e.nodes ∧ (e.closeOr w st).counters = e.counters ∧ (e.closeOr w st).gate = e.gate ∧
    (e.closeOr w st).laneMap = e.laneMap ∧ (e.closeOr w st).fuel = e.fuel ∧
    (e.closeOr w st).wash.queue = e.wash.queue ∧ (e.closeOr w st).wash.waived = e.wash.waived ∧
    (e.closeOr w st).pullOut = e.pullOut ∧ (e.closeOr w st).field = e.field ∧
    (e.closeOr w st).commands = e.commands ∧ (e.closeOr w st).notices = e.notices ∧
    (e.closeOr w st).office = e.office ∧ (e.closeOr w st).outs = e.outs ∧ (e.closeOr w st).rerunDue = e.rerunDue ∧
    (e.closeOr w st).fuelDue = e.fuelDue ∧ (e.closeOr w st).washDue = e.washDue ∧
    (e.closeOr w st).pullDue = e.pullDue ∧ (e.closeOr w st).heldBack = e.heldBack ∧
    (e.closeOr w st).washBack = e.washBack ∧ (e.closeOr w st).washLanesBack = e.washLanesBack ∧
    (e.closeOr w st).releasedHere = e.releasedHere := by
  unfold Ev.closeOr; split <;> simp

@[simp] theorem Ev.enterReady_keeps (e : Ev) (w : Nat) :
    (e.enterReady w).clock = e.clock ∧ (e.enterReady w).params = e.params ∧ (e.enterReady w).pending = e.pending ∧
    (e.enterReady w).serial = e.serial ∧ (e.enterReady w).choice = e.choice ∧
    (e.enterReady w).holdList = e.holdList ∧ (e.enterReady w).channels = e.channels ∧
    (e.enterReady w).nodes = e.nodes ∧ (e.enterReady w).counters = e.counters ∧ (e.enterReady w).gate = e.gate ∧
    (e.enterReady w).laneMap = e.laneMap ∧ (e.enterReady w).fuel = e.fuel ∧
    (e.enterReady w).wash.queue = e.wash.queue ∧ (e.enterReady w).wash.waived = e.wash.waived ∧
    (e.enterReady w).pullOut = e.pullOut ∧ (e.enterReady w).field = e.field ∧
    (e.enterReady w).commands = e.commands ∧ (e.enterReady w).notices = e.notices ∧
    (e.enterReady w).office = e.office ∧ (e.enterReady w).outs = e.outs ∧ (e.enterReady w).rerunDue = e.rerunDue ∧
    (e.enterReady w).fuelDue = e.fuelDue ∧ (e.enterReady w).pullDue = e.pullDue ∧
    (e.enterReady w).heldBack = e.heldBack ∧ (e.enterReady w).washBack = e.washBack ∧
    (e.enterReady w).washLanesBack = e.washLanesBack ∧ (e.enterReady w).releasedHere = e.releasedHere := by
  simp [Ev.enterReady]

@[simp] theorem Ev.enterClearingWash_keeps (e : Ev) (w pacing : Nat) :
    (e.enterClearingWash w pacing).clock = e.clock ∧ (e.enterClearingWash w pacing).params = e.params ∧
    (e.enterClearingWash w pacing).pending = e.pending ∧ (e.enterClearingWash w pacing).serial = e.serial ∧
    (e.enterClearingWash w pacing).choice = e.choice ∧ (e.enterClearingWash w pacing).holdList = e.holdList ∧
    (e.enterClearingWash w pacing).channels = e.channels ∧ (e.enterClearingWash w pacing).nodes = e.nodes ∧
    (e.enterClearingWash w pacing).counters = e.counters ∧ (e.enterClearingWash w pacing).gate = e.gate ∧
    (e.enterClearingWash w pacing).laneMap = e.laneMap ∧ (e.enterClearingWash w pacing).fuel = e.fuel ∧
    (e.enterClearingWash w pacing).wash.queue = e.wash.queue ∧
    (e.enterClearingWash w pacing).wash.waived = e.wash.waived ∧
    (e.enterClearingWash w pacing).pullOut = e.pullOut ∧ (e.enterClearingWash w pacing).field = e.field ∧
    (e.enterClearingWash w pacing).commands = e.commands ∧ (e.enterClearingWash w pacing).notices = e.notices ∧
    (e.enterClearingWash w pacing).office = e.office ∧ (e.enterClearingWash w pacing).outs = e.outs ∧
    (e.enterClearingWash w pacing).rerunDue = e.rerunDue ∧ (e.enterClearingWash w pacing).fuelDue = e.fuelDue ∧
    (e.enterClearingWash w pacing).washDue = e.washDue ∧ (e.enterClearingWash w pacing).pullDue = e.pullDue ∧
    (e.enterClearingWash w pacing).heldBack = e.heldBack ∧ (e.enterClearingWash w pacing).washBack = e.washBack ∧
    (e.enterClearingWash w pacing).washLanesBack = e.washLanesBack ∧
    (e.enterClearingWash w pacing).releasedHere = e.releasedHere := by
  simp [Ev.enterClearingWash]

@[simp] theorem Ev.emptyWash_keeps (e : Ev) (w : Nat) :
    (e.emptyWash w).clock = e.clock ∧ (e.emptyWash w).params = e.params ∧ (e.emptyWash w).pending = e.pending ∧
    (e.emptyWash w).serial = e.serial ∧ (e.emptyWash w).choice = e.choice ∧
    (e.emptyWash w).holdList = e.holdList ∧ (e.emptyWash w).channels = e.channels ∧
    (e.emptyWash w).nodes = e.nodes ∧ (e.emptyWash w).counters = e.counters ∧ (e.emptyWash w).gate = e.gate ∧
    (e.emptyWash w).laneMap = e.laneMap ∧ (e.emptyWash w).fuel = e.fuel ∧
    (e.emptyWash w).wash.queue = e.wash.queue ∧ (e.emptyWash w).wash.waived = e.wash.waived ∧
    (e.emptyWash w).pullOut = e.pullOut ∧ (e.emptyWash w).field = e.field ∧
    (e.emptyWash w).commands = e.commands ∧ (e.emptyWash w).notices = e.notices ∧
    (e.emptyWash w).office = e.office ∧ (e.emptyWash w).outs = e.outs ∧ (e.emptyWash w).rerunDue = e.rerunDue ∧
    (e.emptyWash w).fuelDue = e.fuelDue ∧ (e.emptyWash w).washDue = e.washDue ∧
    (e.emptyWash w).pullDue = e.pullDue ∧ (e.emptyWash w).heldBack = e.heldBack ∧
    (e.emptyWash w).washBack = e.washBack ∧ (e.emptyWash w).washLanesBack = e.washLanesBack ∧
    (e.emptyWash w).releasedHere = e.releasedHere := by
  simp [Ev.emptyWash]

@[simp] theorem Ev.callWash_keeps (e : Ev) (x : WashEntry) (w : Nat) :
    (e.callWash x w).clock = e.clock ∧ (e.callWash x w).params = e.params ∧ (e.callWash x w).pending = e.pending ∧
    (e.callWash x w).choice = e.choice ∧ (e.callWash x w).holdList = e.holdList ∧
    (e.callWash x w).channels = e.channels ∧ (e.callWash x w).gate.classes = e.gate.classes ∧
    (e.callWash x w).laneMap = e.laneMap ∧ (e.callWash x w).fuel = e.fuel ∧
    (e.callWash x w).wash.waived = e.wash.waived ∧ (e.callWash x w).pullOut = e.pullOut ∧
    (e.callWash x w).field = e.field ∧ (e.callWash x w).commands.tx = e.commands.tx ∧
    (e.callWash x w).office = e.office ∧ (e.callWash x w).rerunDue = e.rerunDue ∧
    (e.callWash x w).fuelDue = e.fuelDue ∧ (e.callWash x w).washDue = e.washDue ∧
    (e.callWash x w).pullDue = e.pullDue ∧ (e.callWash x w).heldBack = e.heldBack ∧
    (e.callWash x w).washBack = e.washBack ∧ (e.callWash x w).washLanesBack = e.washLanesBack ∧
    (e.callWash x w).releasedHere = e.releasedHere := by
  simp [Ev.callWash]

@[simp] theorem Ev.washSignalFailed_keeps (e : Ev) (w : Nat) :
    (e.washSignalFailed w).clock = e.clock ∧ (e.washSignalFailed w).params = e.params ∧
    (e.washSignalFailed w).pending = e.pending ∧ (e.washSignalFailed w).choice = e.choice ∧
    (e.washSignalFailed w).channels = e.channels ∧ (e.washSignalFailed w).gate.classes = e.gate.classes ∧
    (e.washSignalFailed w).laneMap.lanes = e.laneMap.lanes ∧ (e.washSignalFailed w).fuel = e.fuel ∧
    (e.washSignalFailed w).wash.waived = e.wash.waived ∧
    (e.washSignalFailed w).pullOut.releases = e.pullOut.releases ∧ (e.washSignalFailed w).field = e.field ∧
    (e.washSignalFailed w).commands.tx = e.commands.tx ∧ (e.washSignalFailed w).office = e.office ∧
    (e.washSignalFailed w).rerunDue = e.rerunDue ∧ (e.washSignalFailed w).fuelDue = e.fuelDue ∧
    (e.washSignalFailed w).pullDue = e.pullDue ∧ (e.washSignalFailed w).heldBack = e.heldBack ∧
    (e.washSignalFailed w).releasedHere = e.releasedHere := by
  unfold Ev.washSignalFailed; split <;> simp

@[simp] theorem Ev.washCallTimedOut_keeps (e : Ev) (w : Nat) :
    (e.washCallTimedOut w).clock = e.clock ∧ (e.washCallTimedOut w).params = e.params ∧
    (e.washCallTimedOut w).pending = e.pending ∧ (e.washCallTimedOut w).choice = e.choice ∧
    (e.washCallTimedOut w).channels = e.channels ∧ (e.washCallTimedOut w).gate.classes = e.gate.classes ∧
    (e.washCallTimedOut w).laneMap.lanes = e.laneMap.lanes ∧ (e.washCallTimedOut w).fuel = e.fuel ∧
    (e.washCallTimedOut w).wash.waived = e.wash.waived ∧
    (e.washCallTimedOut w).pullOut.releases = e.pullOut.releases ∧ (e.washCallTimedOut w).field = e.field ∧
    (e.washCallTimedOut w).commands.tx = e.commands.tx ∧ (e.washCallTimedOut w).office = e.office ∧
    (e.washCallTimedOut w).rerunDue = e.rerunDue ∧ (e.washCallTimedOut w).fuelDue = e.fuelDue ∧
    (e.washCallTimedOut w).pullDue = e.pullDue ∧ (e.washCallTimedOut w).heldBack = e.heldBack ∧
    (e.washCallTimedOut w).washBack = e.washBack ∧ (e.washCallTimedOut w).washLanesBack = e.washLanesBack ∧
    (e.washCallTimedOut w).releasedHere = e.releasedHere := by
  unfold Ev.washCallTimedOut; dsimp only; (repeat' split) <;> simp

@[simp] theorem Ev.washEntered_keeps (e : Ev) (w : Nat) :
    (e.washEntered w).clock = e.clock ∧ (e.washEntered w).params = e.params ∧
    (e.washEntered w).pending = e.pending ∧ (e.washEntered w).choice = e.choice ∧
    (e.washEntered w).holdList = e.holdList ∧ (e.washEntered w).channels = e.channels ∧
    (e.washEntered w).gate = e.gate ∧ (e.washEntered w).laneMap = e.laneMap ∧ (e.washEntered w).fuel = e.fuel ∧
    (e.washEntered w).wash.queue = e.wash.queue ∧ (e.washEntered w).wash.waived = e.wash.waived ∧
    (e.washEntered w).pullOut = e.pullOut ∧ (e.washEntered w).field = e.field ∧
    (e.washEntered w).commands.tx = e.commands.tx ∧ (e.washEntered w).office = e.office ∧
    (e.washEntered w).rerunDue = e.rerunDue ∧ (e.washEntered w).fuelDue = e.fuelDue ∧
    (e.washEntered w).washDue = e.washDue ∧ (e.washEntered w).pullDue = e.pullDue ∧
    (e.washEntered w).heldBack = e.heldBack ∧ (e.washEntered w).washBack = e.washBack ∧
    (e.washEntered w).washLanesBack = e.washLanesBack ∧ (e.washEntered w).releasedHere = e.releasedHere := by
  simp [Ev.washEntered]

@[simp] theorem Ev.washEnteredRestricted_keeps (e : Ev) (w : Nat) :
    (e.washEnteredRestricted w).clock = e.clock ∧ (e.washEnteredRestricted w).params = e.params ∧
    (e.washEnteredRestricted w).pending = e.pending ∧ (e.washEnteredRestricted w).choice = e.choice ∧
    (e.washEnteredRestricted w).channels = e.channels ∧
    (e.washEnteredRestricted w).gate.classes = e.gate.classes ∧
    (e.washEnteredRestricted w).laneMap.lanes = e.laneMap.lanes ∧ (e.washEnteredRestricted w).fuel = e.fuel ∧
    (e.washEnteredRestricted w).wash.queue = e.wash.queue ∧
    (e.washEnteredRestricted w).wash.waived = e.wash.waived ∧
    (e.washEnteredRestricted w).pullOut.releases = e.pullOut.releases ∧
    (e.washEnteredRestricted w).field = e.field ∧ (e.washEnteredRestricted w).commands.tx = e.commands.tx ∧
    (e.washEnteredRestricted w).office = e.office ∧ (e.washEnteredRestricted w).rerunDue = e.rerunDue ∧
    (e.washEnteredRestricted w).fuelDue = e.fuelDue ∧ (e.washEnteredRestricted w).washDue = e.washDue ∧
    (e.washEnteredRestricted w).pullDue = e.pullDue ∧ (e.washEnteredRestricted w).heldBack = e.heldBack ∧
    (e.washEnteredRestricted w).washBack = e.washBack ∧
    (e.washEnteredRestricted w).washLanesBack = e.washLanesBack ∧
    (e.washEnteredRestricted w).releasedHere = e.releasedHere := by
  unfold Ev.washEnteredRestricted; dsimp only; (repeat' split) <;> simp

@[simp] theorem Ev.washDone_keeps (e : Ev) (w : Nat) :
    (e.washDone w).clock = e.clock ∧ (e.washDone w).params = e.params ∧ (e.washDone w).pending = e.pending ∧
    (e.washDone w).choice = e.choice ∧ (e.washDone w).channels = e.channels ∧
    (e.washDone w).gate.classes = e.gate.classes ∧ (e.washDone w).laneMap.lanes = e.laneMap.lanes ∧
    (e.washDone w).fuel = e.fuel ∧ (e.washDone w).wash.queue = e.wash.queue ∧
    (e.washDone w).wash.waived = e.wash.waived ∧ (e.washDone w).pullOut.releases = e.pullOut.releases ∧
    (e.washDone w).field = e.field ∧ (e.washDone w).commands.tx = e.commands.tx ∧
    (e.washDone w).office = e.office ∧ (e.washDone w).rerunDue = e.rerunDue ∧ (e.washDone w).fuelDue = e.fuelDue ∧
    (e.washDone w).washDue = e.washDue ∧ (e.washDone w).pullDue = e.pullDue ∧
    (e.washDone w).heldBack = e.heldBack ∧ (e.washDone w).washBack = e.washBack ∧
    (e.washDone w).washLanesBack = e.washLanesBack ∧ (e.washDone w).releasedHere = e.releasedHere := by
  unfold Ev.washDone; dsimp only; (repeat' split) <;> simp

@[simp] theorem Ev.washAbort_keeps (e : Ev) (w : Nat) (reason : AbortReason) :
    (e.washAbort w reason).clock = e.clock ∧ (e.washAbort w reason).params = e.params ∧
    (e.washAbort w reason).pending = e.pending ∧ (e.washAbort w reason).choice = e.choice ∧
    (e.washAbort w reason).channels = e.channels ∧ (e.washAbort w reason).gate.classes = e.gate.classes ∧
    (e.washAbort w reason).laneMap.lanes = e.laneMap.lanes ∧ (e.washAbort w reason).fuel = e.fuel ∧
    (e.washAbort w reason).wash.waived = e.wash.waived ∧
    (e.washAbort w reason).pullOut.releases = e.pullOut.releases ∧ (e.washAbort w reason).field = e.field ∧
    (e.washAbort w reason).commands.tx = e.commands.tx ∧ (e.washAbort w reason).office = e.office ∧
    (e.washAbort w reason).rerunDue = e.rerunDue ∧ (e.washAbort w reason).fuelDue = e.fuelDue ∧
    (e.washAbort w reason).pullDue = e.pullDue ∧ (e.washAbort w reason).heldBack = e.heldBack ∧
    (e.washAbort w reason).washBack = e.washBack ∧ (e.washAbort w reason).washLanesBack = e.washLanesBack ∧
    (e.washAbort w reason).releasedHere = e.releasedHere := by
  unfold Ev.washAbort; dsimp only; (repeat' split) <;> simp

@[simp] theorem Ev.washReady_keeps (e : Ev) (w : Nat) :
    (e.washReady w).clock = e.clock ∧ (e.washReady w).params = e.params ∧ (e.washReady w).pending = e.pending ∧
    (e.washReady w).serial = e.serial ∧ (e.washReady w).choice = e.choice ∧
    (e.washReady w).holdList = e.holdList ∧ (e.washReady w).channels = e.channels ∧
    (e.washReady w).nodes = e.nodes ∧ (e.washReady w).gate = e.gate ∧ (e.washReady w).laneMap = e.laneMap ∧
    (e.washReady w).fuel = e.fuel ∧ (e.washReady w).wash.queue = e.wash.queue ∧
    (e.washReady w).wash.waived = e.wash.waived ∧ (e.washReady w).pullOut = e.pullOut ∧
    (e.washReady w).field = e.field ∧ (e.washReady w).commands = e.commands ∧ (e.washReady w).office = e.office ∧
    (e.washReady w).outs = e.outs ∧ (e.washReady w).rerunDue = e.rerunDue ∧ (e.washReady w).fuelDue = e.fuelDue ∧
    (e.washReady w).washDue = e.washDue ∧ (e.washReady w).pullDue = e.pullDue ∧
    (e.washReady w).heldBack = e.heldBack ∧ (e.washReady w).washBack = e.washBack ∧
    (e.washReady w).washLanesBack = e.washLanesBack ∧ (e.washReady w).releasedHere = e.releasedHere := by
  unfold Ev.washReady; split <;> simp

@[simp] theorem Ev.washIgnored_keeps (e : Ev) (w code : Nat) :
    (e.washIgnored w code).clock = e.clock ∧ (e.washIgnored w code).params = e.params ∧
    (e.washIgnored w code).pending = e.pending ∧ (e.washIgnored w code).serial = e.serial ∧
    (e.washIgnored w code).choice = e.choice ∧ (e.washIgnored w code).holdList = e.holdList ∧
    (e.washIgnored w code).channels = e.channels ∧ (e.washIgnored w code).nodes = e.nodes ∧
    (e.washIgnored w code).gate = e.gate ∧ (e.washIgnored w code).laneMap = e.laneMap ∧
    (e.washIgnored w code).fuel = e.fuel ∧ (e.washIgnored w code).wash = e.wash ∧
    (e.washIgnored w code).pullOut = e.pullOut ∧ (e.washIgnored w code).field = e.field ∧
    (e.washIgnored w code).commands = e.commands ∧ (e.washIgnored w code).office = e.office ∧
    (e.washIgnored w code).outs = e.outs ∧ (e.washIgnored w code).rerunDue = e.rerunDue ∧
    (e.washIgnored w code).fuelDue = e.fuelDue ∧ (e.washIgnored w code).washDue = e.washDue ∧
    (e.washIgnored w code).pullDue = e.pullDue ∧ (e.washIgnored w code).heldBack = e.heldBack ∧
    (e.washIgnored w code).washBack = e.washBack ∧ (e.washIgnored w code).washLanesBack = e.washLanesBack ∧
    (e.washIgnored w code).releasedHere = e.releasedHere := by
  simp [Ev.washIgnored]

@[simp] theorem Ev.eventEntered_keeps (e : Ev) (w : Nat) :
    (e.eventEntered w).clock = e.clock ∧ (e.eventEntered w).params = e.params ∧
    (e.eventEntered w).pending = e.pending ∧ (e.eventEntered w).choice = e.choice ∧
    (e.eventEntered w).channels = e.channels ∧ (e.eventEntered w).gate.classes = e.gate.classes ∧
    (e.eventEntered w).laneMap.lanes = e.laneMap.lanes ∧ (e.eventEntered w).fuel = e.fuel ∧
    (e.eventEntered w).wash.queue = e.wash.queue ∧ (e.eventEntered w).wash.waived = e.wash.waived ∧
    (e.eventEntered w).pullOut.releases = e.pullOut.releases ∧ (e.eventEntered w).field = e.field ∧
    (e.eventEntered w).commands.tx = e.commands.tx ∧ (e.eventEntered w).office = e.office ∧
    (e.eventEntered w).rerunDue = e.rerunDue ∧ (e.eventEntered w).fuelDue = e.fuelDue ∧
    (e.eventEntered w).washDue = e.washDue ∧ (e.eventEntered w).pullDue = e.pullDue ∧
    (e.eventEntered w).heldBack = e.heldBack ∧ (e.eventEntered w).washBack = e.washBack ∧
    (e.eventEntered w).washLanesBack = e.washLanesBack ∧ (e.eventEntered w).releasedHere = e.releasedHere := by
  unfold Ev.eventEntered; (repeat' split) <;> simp

@[simp] theorem Ev.eventDone_keeps (e : Ev) (w : Nat) :
    (e.eventDone w).clock = e.clock ∧ (e.eventDone w).params = e.params ∧ (e.eventDone w).pending = e.pending ∧
    (e.eventDone w).choice = e.choice ∧ (e.eventDone w).channels = e.channels ∧
    (e.eventDone w).gate.classes = e.gate.classes ∧ (e.eventDone w).laneMap.lanes = e.laneMap.lanes ∧
    (e.eventDone w).fuel = e.fuel ∧ (e.eventDone w).wash.queue = e.wash.queue ∧
    (e.eventDone w).wash.waived = e.wash.waived ∧ (e.eventDone w).pullOut.releases = e.pullOut.releases ∧
    (e.eventDone w).field = e.field ∧ (e.eventDone w).commands.tx = e.commands.tx ∧
    (e.eventDone w).office = e.office ∧ (e.eventDone w).rerunDue = e.rerunDue ∧
    (e.eventDone w).fuelDue = e.fuelDue ∧ (e.eventDone w).washDue = e.washDue ∧
    (e.eventDone w).pullDue = e.pullDue ∧ (e.eventDone w).heldBack = e.heldBack ∧
    (e.eventDone w).washBack = e.washBack ∧ (e.eventDone w).washLanesBack = e.washLanesBack ∧
    (e.eventDone w).releasedHere = e.releasedHere := by
  unfold Ev.eventDone; split <;> simp

@[simp] theorem Ev.eventAborted_keeps (e : Ev) (w reason : Nat) :
    (e.eventAborted w reason).clock = e.clock ∧ (e.eventAborted w reason).params = e.params ∧
    (e.eventAborted w reason).pending = e.pending ∧ (e.eventAborted w reason).choice = e.choice ∧
    (e.eventAborted w reason).channels = e.channels ∧ (e.eventAborted w reason).gate.classes = e.gate.classes ∧
    (e.eventAborted w reason).laneMap.lanes = e.laneMap.lanes ∧ (e.eventAborted w reason).fuel = e.fuel ∧
    (e.eventAborted w reason).wash.waived = e.wash.waived ∧
    (e.eventAborted w reason).pullOut.releases = e.pullOut.releases ∧ (e.eventAborted w reason).field = e.field ∧
    (e.eventAborted w reason).commands.tx = e.commands.tx ∧ (e.eventAborted w reason).office = e.office ∧
    (e.eventAborted w reason).rerunDue = e.rerunDue ∧ (e.eventAborted w reason).fuelDue = e.fuelDue ∧
    (e.eventAborted w reason).pullDue = e.pullDue ∧ (e.eventAborted w reason).heldBack = e.heldBack ∧
    (e.eventAborted w reason).washBack = e.washBack ∧ (e.eventAborted w reason).washLanesBack = e.washLanesBack ∧
    (e.eventAborted w reason).releasedHere = e.releasedHere := by
  unfold Ev.eventAborted; split <;> simp

@[simp] theorem Ev.eventReady_keeps (e : Ev) (w : Nat) :
    (e.eventReady w).clock = e.clock ∧ (e.eventReady w).params = e.params ∧ (e.eventReady w).pending = e.pending ∧
    (e.eventReady w).serial = e.serial ∧ (e.eventReady w).choice = e.choice ∧
    (e.eventReady w).holdList = e.holdList ∧ (e.eventReady w).channels = e.channels ∧
    (e.eventReady w).nodes = e.nodes ∧ (e.eventReady w).gate = e.gate ∧ (e.eventReady w).laneMap = e.laneMap ∧
    (e.eventReady w).fuel = e.fuel ∧ (e.eventReady w).wash.queue = e.wash.queue ∧
    (e.eventReady w).wash.waived = e.wash.waived ∧ (e.eventReady w).pullOut = e.pullOut ∧
    (e.eventReady w).field = e.field ∧ (e.eventReady w).commands = e.commands ∧
    (e.eventReady w).office = e.office ∧ (e.eventReady w).outs = e.outs ∧ (e.eventReady w).rerunDue = e.rerunDue ∧
    (e.eventReady w).fuelDue = e.fuelDue ∧ (e.eventReady w).washDue = e.washDue ∧
    (e.eventReady w).pullDue = e.pullDue ∧ (e.eventReady w).heldBack = e.heldBack ∧
    (e.eventReady w).washBack = e.washBack ∧ (e.eventReady w).washLanesBack = e.washLanesBack ∧
    (e.eventReady w).releasedHere = e.releasedHere := by
  unfold Ev.eventReady; split <;> simp

@[simp] theorem Ev.washCleared_keeps (e : Ev) (w : Nat) :
    (e.washCleared w).clock = e.clock ∧ (e.washCleared w).params = e.params ∧
    (e.washCleared w).pending = e.pending ∧ (e.washCleared w).serial = e.serial ∧
    (e.washCleared w).choice = e.choice ∧ (e.washCleared w).holdList = e.holdList ∧
    (e.washCleared w).channels = e.channels ∧ (e.washCleared w).nodes = e.nodes ∧
    (e.washCleared w).counters = e.counters ∧ (e.washCleared w).gate = e.gate ∧
    (e.washCleared w).laneMap = e.laneMap ∧ (e.washCleared w).fuel = e.fuel ∧
    (e.washCleared w).wash.queue = e.wash.queue ∧ (e.washCleared w).wash.waived = e.wash.waived ∧
    (e.washCleared w).pullOut = e.pullOut ∧ (e.washCleared w).field = e.field ∧
    (e.washCleared w).commands = e.commands ∧ (e.washCleared w).notices = e.notices ∧
    (e.washCleared w).office = e.office ∧ (e.washCleared w).outs = e.outs ∧
    (e.washCleared w).rerunDue = e.rerunDue ∧ (e.washCleared w).fuelDue = e.fuelDue ∧
    (e.washCleared w).pullDue = e.pullDue ∧ (e.washCleared w).heldBack = e.heldBack ∧
    (e.washCleared w).washBack = e.washBack ∧ (e.washCleared w).washLanesBack = e.washLanesBack ∧
    (e.washCleared w).releasedHere = e.releasedHere := by
  simp [Ev.washCleared]

@[simp] theorem Ev.takeOutOfWash_keeps (e : Ev) (w : Nat) :
    (e.takeOutOfWash w).clock = e.clock ∧ (e.takeOutOfWash w).params = e.params ∧
    (e.takeOutOfWash w).pending = e.pending ∧ (e.takeOutOfWash w).choice = e.choice ∧
    (e.takeOutOfWash w).holdList = e.holdList ∧ (e.takeOutOfWash w).channels = e.channels ∧
    (e.takeOutOfWash w).gate = e.gate ∧ (e.takeOutOfWash w).laneMap = e.laneMap ∧
    (e.takeOutOfWash w).fuel = e.fuel ∧ (e.takeOutOfWash w).wash.queue = e.wash.queue ∧
    (e.takeOutOfWash w).wash.waived = e.wash.waived ∧ (e.takeOutOfWash w).pullOut = e.pullOut ∧
    (e.takeOutOfWash w).field = e.field ∧ (e.takeOutOfWash w).commands.tx = e.commands.tx ∧
    (e.takeOutOfWash w).office = e.office ∧ (e.takeOutOfWash w).rerunDue = e.rerunDue ∧
    (e.takeOutOfWash w).fuelDue = e.fuelDue ∧ (e.takeOutOfWash w).pullDue = e.pullDue ∧
    (e.takeOutOfWash w).heldBack = e.heldBack ∧ (e.takeOutOfWash w).washBack = e.washBack ∧
    (e.takeOutOfWash w).washLanesBack = e.washLanesBack ∧ (e.takeOutOfWash w).releasedHere = e.releasedHere := by
  unfold Ev.takeOutOfWash; split <;> simp

@[simp] theorem Ev.startWaiver_keeps (e : Ev) (c : Nat) :
    (e.startWaiver c).clock = e.clock ∧ (e.startWaiver c).params = e.params ∧
    (e.startWaiver c).pending = e.pending ∧ (e.startWaiver c).choice = e.choice ∧
    (e.startWaiver c).channels = e.channels ∧ (e.startWaiver c).gate.classes = e.gate.classes ∧
    (e.startWaiver c).laneMap.lanes = e.laneMap.lanes ∧ (e.startWaiver c).fuel = e.fuel ∧
    (e.startWaiver c).wash.lanes = e.wash.lanes ∧ (e.startWaiver c).pullOut.releases = e.pullOut.releases ∧
    (e.startWaiver c).field = e.field ∧ (e.startWaiver c).commands.tx = e.commands.tx ∧
    (e.startWaiver c).office = e.office ∧ (e.startWaiver c).rerunDue = e.rerunDue ∧
    (e.startWaiver c).fuelDue = e.fuelDue ∧ (e.startWaiver c).washDue = e.washDue ∧
    (e.startWaiver c).pullDue = e.pullDue ∧ (e.startWaiver c).heldBack = e.heldBack ∧
    (e.startWaiver c).washBack = e.washBack ∧ (e.startWaiver c).washLanesBack = e.washLanesBack ∧
    (e.startWaiver c).releasedHere = e.releasedHere := by
  simp [Ev.startWaiver]

@[simp] theorem Ev.endWaiver_keeps (e : Ev) (c : Nat) :
    (e.endWaiver c).clock = e.clock ∧ (e.endWaiver c).params = e.params ∧ (e.endWaiver c).pending = e.pending ∧
    (e.endWaiver c).serial = e.serial ∧ (e.endWaiver c).choice = e.choice ∧
    (e.endWaiver c).holdList = e.holdList ∧ (e.endWaiver c).channels = e.channels ∧
    (e.endWaiver c).nodes = e.nodes ∧ (e.endWaiver c).gate = e.gate ∧ (e.endWaiver c).laneMap = e.laneMap ∧
    (e.endWaiver c).fuel = e.fuel ∧ (e.endWaiver c).wash.queue = e.wash.queue ∧
    (e.endWaiver c).wash.lanes = e.wash.lanes ∧ (e.endWaiver c).pullOut = e.pullOut ∧
    (e.endWaiver c).field = e.field ∧ (e.endWaiver c).commands = e.commands ∧ (e.endWaiver c).office = e.office ∧
    (e.endWaiver c).outs = e.outs ∧ (e.endWaiver c).rerunDue = e.rerunDue ∧ (e.endWaiver c).fuelDue = e.fuelDue ∧
    (e.endWaiver c).washDue = e.washDue ∧ (e.endWaiver c).pullDue = e.pullDue ∧
    (e.endWaiver c).heldBack = e.heldBack ∧ (e.endWaiver c).washBack = e.washBack ∧
    (e.endWaiver c).washLanesBack = e.washLanesBack ∧ (e.endWaiver c).releasedHere = e.releasedHere := by
  simp [Ev.endWaiver]

@[simp] theorem Ev.deriveWaiverOf_keeps (e : Ev) (c : Nat) :
    (e.deriveWaiverOf c).clock = e.clock ∧ (e.deriveWaiverOf c).params = e.params ∧
    (e.deriveWaiverOf c).pending = e.pending ∧ (e.deriveWaiverOf c).choice = e.choice ∧
    (e.deriveWaiverOf c).channels = e.channels ∧ (e.deriveWaiverOf c).gate.classes = e.gate.classes ∧
    (e.deriveWaiverOf c).laneMap.lanes = e.laneMap.lanes ∧ (e.deriveWaiverOf c).fuel = e.fuel ∧
    (e.deriveWaiverOf c).wash.lanes = e.wash.lanes ∧ (e.deriveWaiverOf c).pullOut.releases = e.pullOut.releases ∧
    (e.deriveWaiverOf c).field = e.field ∧ (e.deriveWaiverOf c).commands.tx = e.commands.tx ∧
    (e.deriveWaiverOf c).office = e.office ∧ (e.deriveWaiverOf c).rerunDue = e.rerunDue ∧
    (e.deriveWaiverOf c).fuelDue = e.fuelDue ∧ (e.deriveWaiverOf c).washDue = e.washDue ∧
    (e.deriveWaiverOf c).pullDue = e.pullDue ∧ (e.deriveWaiverOf c).heldBack = e.heldBack ∧
    (e.deriveWaiverOf c).washBack = e.washBack ∧ (e.deriveWaiverOf c).washLanesBack = e.washLanesBack ∧
    (e.deriveWaiverOf c).releasedHere = e.releasedHere := by
  unfold Ev.deriveWaiverOf; (repeat' split) <;> simp

@[simp] theorem Ev.deriveWaiver_keeps (e : Ev) :
    e.deriveWaiver.clock = e.clock ∧ e.deriveWaiver.params = e.params ∧ e.deriveWaiver.pending = e.pending ∧
    e.deriveWaiver.choice = e.choice ∧ e.deriveWaiver.channels = e.channels ∧
    e.deriveWaiver.gate.classes = e.gate.classes ∧ e.deriveWaiver.laneMap.lanes = e.laneMap.lanes ∧
    e.deriveWaiver.fuel = e.fuel ∧ e.deriveWaiver.wash.lanes = e.wash.lanes ∧
    e.deriveWaiver.pullOut.releases = e.pullOut.releases ∧ e.deriveWaiver.field = e.field ∧
    e.deriveWaiver.commands.tx = e.commands.tx ∧ e.deriveWaiver.office = e.office ∧
    e.deriveWaiver.rerunDue = e.rerunDue ∧ e.deriveWaiver.fuelDue = e.fuelDue ∧
    e.deriveWaiver.washDue = e.washDue ∧ e.deriveWaiver.pullDue = e.pullDue ∧
    e.deriveWaiver.heldBack = e.heldBack ∧ e.deriveWaiver.washBack = e.washBack ∧
    e.deriveWaiver.washLanesBack = e.washLanesBack ∧ e.deriveWaiver.releasedHere = e.releasedHere := by
  simp [Ev.deriveWaiver]

@[simp] theorem Ev.closeWash_keeps (e : Ev) (w : Nat) :
    (e.closeWash w).clock = e.clock ∧ (e.closeWash w).params = e.params ∧ (e.closeWash w).pending = e.pending ∧
    (e.closeWash w).serial = e.serial ∧ (e.closeWash w).choice = e.choice ∧
    (e.closeWash w).holdList = e.holdList ∧ (e.closeWash w).channels = e.channels ∧
    (e.closeWash w).nodes = e.nodes ∧ (e.closeWash w).counters = e.counters ∧ (e.closeWash w).gate = e.gate ∧
    (e.closeWash w).laneMap = e.laneMap ∧ (e.closeWash w).fuel = e.fuel ∧
    (e.closeWash w).wash.queue = e.wash.queue ∧ (e.closeWash w).wash.waived = e.wash.waived ∧
    (e.closeWash w).pullOut = e.pullOut ∧ (e.closeWash w).field = e.field ∧
    (e.closeWash w).commands = e.commands ∧ (e.closeWash w).notices = e.notices ∧
    (e.closeWash w).office = e.office ∧ (e.closeWash w).outs = e.outs ∧ (e.closeWash w).rerunDue = e.rerunDue ∧
    (e.closeWash w).fuelDue = e.fuelDue ∧ (e.closeWash w).washDue = e.washDue ∧
    (e.closeWash w).pullDue = e.pullDue ∧ (e.closeWash w).heldBack = e.heldBack ∧
    (e.closeWash w).washBack = e.washBack ∧ (e.closeWash w).washLanesBack = e.washLanesBack ∧
    (e.closeWash w).releasedHere = e.releasedHere := by
  unfold Ev.closeWash; split <;> simp

@[simp] theorem Ev.reopenWash_keeps (e : Ev) (w : Nat) :
    (e.reopenWash w).clock = e.clock ∧ (e.reopenWash w).params = e.params ∧ (e.reopenWash w).pending = e.pending ∧
    (e.reopenWash w).serial = e.serial ∧ (e.reopenWash w).choice = e.choice ∧
    (e.reopenWash w).holdList = e.holdList ∧ (e.reopenWash w).channels = e.channels ∧
    (e.reopenWash w).nodes = e.nodes ∧ (e.reopenWash w).gate = e.gate ∧ (e.reopenWash w).laneMap = e.laneMap ∧
    (e.reopenWash w).fuel = e.fuel ∧ (e.reopenWash w).wash.queue = e.wash.queue ∧
    (e.reopenWash w).wash.waived = e.wash.waived ∧ (e.reopenWash w).pullOut = e.pullOut ∧
    (e.reopenWash w).field = e.field ∧ (e.reopenWash w).commands = e.commands ∧
    (e.reopenWash w).office = e.office ∧ (e.reopenWash w).outs = e.outs ∧ (e.reopenWash w).rerunDue = e.rerunDue ∧
    (e.reopenWash w).fuelDue = e.fuelDue ∧ (e.reopenWash w).pullDue = e.pullDue ∧
    (e.reopenWash w).heldBack = e.heldBack ∧ (e.reopenWash w).washBack = e.washBack ∧
    (e.reopenWash w).washLanesBack = e.washLanesBack ∧ (e.reopenWash w).releasedHere = e.releasedHere := by
  unfold Ev.reopenWash; dsimp only; (repeat' split) <;> simp

@[simp] theorem Ev.settleWashLane_keeps (e : Ev) (w : Nat) :
    (e.settleWashLane w).clock = e.clock ∧ (e.settleWashLane w).params = e.params ∧
    (e.settleWashLane w).pending = e.pending ∧ (e.settleWashLane w).choice = e.choice ∧
    (e.settleWashLane w).channels = e.channels ∧ (e.settleWashLane w).gate.classes = e.gate.classes ∧
    (e.settleWashLane w).laneMap.lanes = e.laneMap.lanes ∧ (e.settleWashLane w).fuel = e.fuel ∧
    (e.settleWashLane w).wash.waived = e.wash.waived ∧
    (e.settleWashLane w).pullOut.releases = e.pullOut.releases ∧ (e.settleWashLane w).field = e.field ∧
    (e.settleWashLane w).commands.tx = e.commands.tx ∧ (e.settleWashLane w).office = e.office ∧
    (e.settleWashLane w).rerunDue = e.rerunDue ∧ (e.settleWashLane w).fuelDue = e.fuelDue ∧
    (e.settleWashLane w).pullDue = e.pullDue ∧ (e.settleWashLane w).heldBack = e.heldBack ∧
    (e.settleWashLane w).washBack = e.washBack ∧ (e.settleWashLane w).washLanesBack = e.washLanesBack ∧
    (e.settleWashLane w).releasedHere = e.releasedHere := by
  unfold Ev.settleWashLane; dsimp only; (repeat' split) <;> simp

@[simp] theorem Ev.settleWash_keeps (e : Ev) :
    e.settleWash.clock = e.clock ∧ e.settleWash.params = e.params ∧ e.settleWash.pending = e.pending ∧
    e.settleWash.choice = e.choice ∧ e.settleWash.channels = e.channels ∧
    e.settleWash.gate.classes = e.gate.classes ∧ e.settleWash.laneMap.lanes = e.laneMap.lanes ∧
    e.settleWash.fuel = e.fuel ∧ e.settleWash.wash.waived = e.wash.waived ∧
    e.settleWash.pullOut.releases = e.pullOut.releases ∧ e.settleWash.field = e.field ∧
    e.settleWash.commands.tx = e.commands.tx ∧ e.settleWash.office = e.office ∧
    e.settleWash.rerunDue = e.rerunDue ∧ e.settleWash.fuelDue = e.fuelDue ∧ e.settleWash.pullDue = e.pullDue ∧
    e.settleWash.heldBack = e.heldBack ∧ e.settleWash.washBack = e.washBack ∧
    e.settleWash.washLanesBack = e.washLanesBack ∧ e.settleWash.releasedHere = e.releasedHere := by
  simp [Ev.settleWash]

end Sys2Proof.Machine
end

