-- ==== Sys2Proof/Laws/KeepsFuel.lean ====
section
/-! SUPPORT. What each operation of the fuel scheduler leaves as it was. -/

namespace Sys2Proof.Machine

@[simp] theorem Ev.fuelSkip_keeps (e : Ev) (b priority : Nat) :
    (e.fuelSkip b priority).clock = e.clock ∧ (e.fuelSkip b priority).params = e.params ∧
    (e.fuelSkip b priority).pending = e.pending ∧ (e.fuelSkip b priority).choice = e.choice ∧
    (e.fuelSkip b priority).channels = e.channels ∧ (e.fuelSkip b priority).gate.classes = e.gate.classes ∧
    (e.fuelSkip b priority).laneMap.lanes = e.laneMap.lanes ∧ (e.fuelSkip b priority).fuel = e.fuel ∧
    (e.fuelSkip b priority).wash.lanes = e.wash.lanes ∧ (e.fuelSkip b priority).wash.waived = e.wash.waived ∧
    (e.fuelSkip b priority).pullOut.releases = e.pullOut.releases ∧ (e.fuelSkip b priority).field = e.field ∧
    (e.fuelSkip b priority).commands.tx = e.commands.tx ∧ (e.fuelSkip b priority).office = e.office ∧
    (e.fuelSkip b priority).rerunDue = e.rerunDue ∧ (e.fuelSkip b priority).fuelDue = e.fuelDue ∧
    (e.fuelSkip b priority).pullDue = e.pullDue ∧ (e.fuelSkip b priority).heldBack = e.heldBack ∧
    (e.fuelSkip b priority).washBack = e.washBack ∧ (e.fuelSkip b priority).washLanesBack = e.washLanesBack ∧
    (e.fuelSkip b priority).releasedHere = e.releasedHere := by
  simp [Ev.fuelSkip]

@[simp] theorem Ev.insertFuelEntry_keeps (e : Ev) (x : FuelEntry) :
    (e.insertFuelEntry x).clock = e.clock ∧ (e.insertFuelEntry x).params = e.params ∧
    (e.insertFuelEntry x).pending = e.pending ∧ (e.insertFuelEntry x).serial = e.serial ∧
    (e.insertFuelEntry x).choice = e.choice ∧ (e.insertFuelEntry x).holdList = e.holdList ∧
    (e.insertFuelEntry x).channels = e.channels ∧ (e.insertFuelEntry x).nodes = e.nodes ∧
    (e.insertFuelEntry x).counters = e.counters ∧ (e.insertFuelEntry x).gate.classes = e.gate.classes ∧
    (e.insertFuelEntry x).laneMap = e.laneMap ∧ (e.insertFuelEntry x).fuel.dispensers = e.fuel.dispensers ∧
    (e.insertFuelEntry x).fuel.stock = e.fuel.stock ∧ (e.insertFuelEntry x).fuel.committed = e.fuel.committed ∧
    (e.insertFuelEntry x).fuel.belowReserve = e.fuel.belowReserve ∧ (e.insertFuelEntry x).wash = e.wash ∧
    (e.insertFuelEntry x).pullOut = e.pullOut ∧ (e.insertFuelEntry x).field = e.field ∧
    (e.insertFuelEntry x).commands = e.commands ∧ (e.insertFuelEntry x).notices = e.notices ∧
    (e.insertFuelEntry x).office = e.office ∧ (e.insertFuelEntry x).outs = e.outs ∧
    (e.insertFuelEntry x).rerunDue = e.rerunDue ∧ (e.insertFuelEntry x).washDue = e.washDue ∧
    (e.insertFuelEntry x).pullDue = e.pullDue ∧ (e.insertFuelEntry x).heldBack = e.heldBack ∧
    (e.insertFuelEntry x).washBack = e.washBack ∧ (e.insertFuelEntry x).washLanesBack = e.washLanesBack ∧
    (e.insertFuelEntry x).releasedHere = e.releasedHere := by
  simp [Ev.insertFuelEntry]

@[simp] theorem Ev.joinFuel_keeps (e : Ev) (x : FuelEntry) :
    (e.joinFuel x).clock = e.clock ∧ (e.joinFuel x).params = e.params ∧ (e.joinFuel x).pending = e.pending ∧
    (e.joinFuel x).choice = e.choice ∧ (e.joinFuel x).channels = e.channels ∧
    (e.joinFuel x).gate.classes = e.gate.classes ∧ (e.joinFuel x).laneMap.lanes = e.laneMap.lanes ∧
    (e.joinFuel x).fuel.dispensers = e.fuel.dispensers ∧ (e.joinFuel x).fuel.stock = e.fuel.stock ∧
    (e.joinFuel x).fuel.committed = e.fuel.committed ∧ (e.joinFuel x).fuel.belowReserve = e.fuel.belowReserve ∧
    (e.joinFuel x).wash.lanes = e.wash.lanes ∧ (e.joinFuel x).wash.waived = e.wash.waived ∧
    (e.joinFuel x).pullOut.releases = e.pullOut.releases ∧ (e.joinFuel x).field = e.field ∧
    (e.joinFuel x).commands.tx = e.commands.tx ∧ (e.joinFuel x).office = e.office ∧
    (e.joinFuel x).rerunDue = e.rerunDue ∧ (e.joinFuel x).pullDue = e.pullDue ∧
    (e.joinFuel x).heldBack = e.heldBack ∧ (e.joinFuel x).washBack = e.washBack ∧
    (e.joinFuel x).washLanesBack = e.washLanesBack ∧ (e.joinFuel x).releasedHere = e.releasedHere := by
  unfold Ev.joinFuel; dsimp only; (repeat' split) <;> simp

@[simp] theorem Ev.enqueueFuel_keeps (e : Ev) (b : Nat) :
    (e.enqueueFuel b).clock = e.clock ∧ (e.enqueueFuel b).params = e.params ∧
    (e.enqueueFuel b).pending = e.pending ∧ (e.enqueueFuel b).choice = e.choice ∧
    (e.enqueueFuel b).channels = e.channels ∧ (e.enqueueFuel b).gate.classes = e.gate.classes ∧
    (e.enqueueFuel b).laneMap.lanes = e.laneMap.lanes ∧ (e.enqueueFuel b).fuel.dispensers = e.fuel.dispensers ∧
    (e.enqueueFuel b).fuel.stock = e.fuel.stock ∧ (e.enqueueFuel b).fuel.committed = e.fuel.committed ∧
    (e.enqueueFuel b).fuel.belowReserve = e.fuel.belowReserve ∧ (e.enqueueFuel b).wash.lanes = e.wash.lanes ∧
    (e.enqueueFuel b).wash.waived = e.wash.waived ∧ (e.enqueueFuel b).pullOut.releases = e.pullOut.releases ∧
    (e.enqueueFuel b).field = e.field ∧ (e.enqueueFuel b).commands.tx = e.commands.tx ∧
    (e.enqueueFuel b).office = e.office ∧ (e.enqueueFuel b).rerunDue = e.rerunDue ∧
    (e.enqueueFuel b).pullDue = e.pullDue ∧ (e.enqueueFuel b).heldBack = e.heldBack ∧
    (e.enqueueFuel b).washBack = e.washBack ∧ (e.enqueueFuel b).washLanesBack = e.washLanesBack ∧
    (e.enqueueFuel b).releasedHere = e.releasedHere := by
  simp [Ev.enqueueFuel]

@[simp] theorem Ev.returnFuel_keeps (e : Ev) (o : FuelOccupant) (front : Bool) :
    (e.returnFuel o front).clock = e.clock ∧ (e.returnFuel o front).params = e.params ∧
    (e.returnFuel o front).pending = e.pending ∧ (e.returnFuel o front).choice = e.choice ∧
    (e.returnFuel o front).channels = e.channels ∧ (e.returnFuel o front).gate.classes = e.gate.classes ∧
    (e.returnFuel o front).laneMap.lanes = e.laneMap.lanes ∧
    (e.returnFuel o front).fuel.dispensers = e.fuel.dispensers ∧
    (e.returnFuel o front).fuel.stock = e.fuel.stock ∧ (e.returnFuel o front).fuel.committed = e.fuel.committed ∧
    (e.returnFuel o front).fuel.belowReserve = e.fuel.belowReserve ∧
    (e.returnFuel o front).wash.lanes = e.wash.lanes ∧ (e.returnFuel o front).wash.waived = e.wash.waived ∧
    (e.returnFuel o front).pullOut.releases = e.pullOut.releases ∧ (e.returnFuel o front).field = e.field ∧
    (e.returnFuel o front).commands.tx = e.commands.tx ∧ (e.returnFuel o front).office = e.office ∧
    (e.returnFuel o front).rerunDue = e.rerunDue ∧ (e.returnFuel o front).pullDue = e.pullDue ∧
    (e.returnFuel o front).heldBack = e.heldBack ∧ (e.returnFuel o front).washBack = e.washBack ∧
    (e.returnFuel o front).washLanesBack = e.washLanesBack ∧ (e.returnFuel o front).releasedHere = e.releasedHere := by
  simp [Ev.returnFuel]

@[simp] theorem Ev.returnOccupant_keeps (e : Ev) (o : Option FuelOccupant) (front : Bool) :
    (e.returnOccupant o front).clock = e.clock ∧ (e.returnOccupant o front).params = e.params ∧
    (e.returnOccupant o front).pending = e.pending ∧ (e.returnOccupant o front).choice = e.choice ∧
    (e.returnOccupant o front).channels = e.channels ∧ (e.returnOccupant o front).gate.classes = e.gate.classes ∧
    (e.returnOccupant o front).laneMap.lanes = e.laneMap.lanes ∧
    (e.returnOccupant o front).fuel.dispensers = e.fuel.dispensers ∧
    (e.returnOccupant o front).fuel.stock = e.fuel.stock ∧
    (e.returnOccupant o front).fuel.committed = e.fuel.committed ∧
    (e.returnOccupant o front).fuel.belowReserve = e.fuel.belowReserve ∧
    (e.returnOccupant o front).wash.lanes = e.wash.lanes ∧
    (e.returnOccupant o front).wash.waived = e.wash.waived ∧
    (e.returnOccupant o front).pullOut.releases = e.pullOut.releases ∧
    (e.returnOccupant o front).field = e.field ∧ (e.returnOccupant o front).commands.tx = e.commands.tx ∧
    (e.returnOccupant o front).office = e.office ∧ (e.returnOccupant o front).rerunDue = e.rerunDue ∧
    (e.returnOccupant o front).pullDue = e.pullDue ∧ (e.returnOccupant o front).heldBack = e.heldBack ∧
    (e.returnOccupant o front).washBack = e.washBack ∧
    (e.returnOccupant o front).washLanesBack = e.washLanesBack ∧
    (e.returnOccupant o front).releasedHere = e.releasedHere := by
  unfold Ev.returnOccupant; split <;> simp

@[simp] theorem Ev.dispState_keeps (e : Ev) (d : Nat) (st : DispenserState) :
    (e.dispState d st).clock = e.clock ∧ (e.dispState d st).params = e.params ∧
    (e.dispState d st).pending = e.pending ∧ (e.dispState d st).serial = e.serial ∧
    (e.dispState d st).choice = e.choice ∧ (e.dispState d st).holdList = e.holdList ∧
    (e.dispState d st).channels = e.channels ∧ (e.dispState d st).nodes = e.nodes ∧
    (e.dispState d st).counters = e.counters ∧ (e.dispState d st).gate = e.gate ∧
    (e.dispState d st).laneMap = e.laneMap ∧ (e.dispState d st).fuel.queue = e.fuel.queue ∧
    (e.dispState d st).fuel.stock = e.fuel.stock ∧ (e.dispState d st).fuel.committed = e.fuel.committed ∧
    (e.dispState d st).fuel.belowReserve = e.fuel.belowReserve ∧ (e.dispState d st).wash = e.wash ∧
    (e.dispState d st).pullOut = e.pullOut ∧ (e.dispState d st).field = e.field ∧
    (e.dispState d st).commands = e.commands ∧ (e.dispState d st).notices = e.notices ∧
    (e.dispState d st).office = e.office ∧ (e.dispState d st).outs = e.outs ∧
    (e.dispState d st).rerunDue = e.rerunDue ∧ (e.dispState d st).fuelDue = e.fuelDue ∧
    (e.dispState d st).washDue = e.washDue ∧ (e.dispState d st).pullDue = e.pullDue ∧
    (e.dispState d st).heldBack = e.heldBack ∧ (e.dispState d st).washBack = e.washBack ∧
    (e.dispState d st).washLanesBack = e.washLanesBack ∧ (e.dispState d st).releasedHere = e.releasedHere := by
  simp [Ev.dispState]

@[simp] theorem Ev.enterFree_keeps (e : Ev) (d : Nat) :
    (e.enterFree d).clock = e.clock ∧ (e.enterFree d).params = e.params ∧ (e.enterFree d).pending = e.pending ∧
    (e.enterFree d).serial = e.serial ∧ (e.enterFree d).choice = e.choice ∧
    (e.enterFree d).holdList = e.holdList ∧ (e.enterFree d).channels = e.channels ∧
    (e.enterFree d).nodes = e.nodes ∧ (e.enterFree d).counters = e.counters ∧ (e.enterFree d).gate = e.gate ∧
    (e.enterFree d).laneMap = e.laneMap ∧ (e.enterFree d).fuel.queue = e.fuel.queue ∧
    (e.enterFree d).fuel.stock = e.fuel.stock ∧ (e.enterFree d).fuel.committed = e.fuel.committed ∧
    (e.enterFree d).fuel.belowReserve = e.fuel.belowReserve ∧ (e.enterFree d).wash = e.wash ∧
    (e.enterFree d).pullOut = e.pullOut ∧ (e.enterFree d).field = e.field ∧
    (e.enterFree d).commands = e.commands ∧ (e.enterFree d).notices = e.notices ∧
    (e.enterFree d).office = e.office ∧ (e.enterFree d).outs = e.outs ∧ (e.enterFree d).rerunDue = e.rerunDue ∧
    (e.enterFree d).washDue = e.washDue ∧ (e.enterFree d).pullDue = e.pullDue ∧
    (e.enterFree d).heldBack = e.heldBack ∧ (e.enterFree d).washBack = e.washBack ∧
    (e.enterFree d).washLanesBack = e.washLanesBack ∧ (e.enterFree d).releasedHere = e.releasedHere := by
  simp [Ev.enterFree]

@[simp] theorem Ev.enterClearing_keeps (e : Ev) (d : Nat) :
    (e.enterClearing d).clock = e.clock ∧ (e.enterClearing d).params = e.params ∧
    (e.enterClearing d).pending = e.pending ∧ (e.enterClearing d).serial = e.serial ∧
    (e.enterClearing d).choice = e.choice ∧ (e.enterClearing d).holdList = e.holdList ∧
    (e.enterClearing d).channels = e.channels ∧ (e.enterClearing d).nodes = e.nodes ∧
    (e.enterClearing d).counters = e.counters ∧ (e.enterClearing d).gate = e.gate ∧
    (e.enterClearing d).laneMap = e.laneMap ∧ (e.enterClearing d).fuel.queue = e.fuel.queue ∧
    (e.enterClearing d).fuel.stock = e.fuel.stock ∧ (e.enterClearing d).fuel.committed = e.fuel.committed ∧
    (e.enterClearing d).fuel.belowReserve = e.fuel.belowReserve ∧ (e.enterClearing d).wash = e.wash ∧
    (e.enterClearing d).pullOut = e.pullOut ∧ (e.enterClearing d).field = e.field ∧
    (e.enterClearing d).commands = e.commands ∧ (e.enterClearing d).notices = e.notices ∧
    (e.enterClearing d).office = e.office ∧ (e.enterClearing d).outs = e.outs ∧
    (e.enterClearing d).rerunDue = e.rerunDue ∧ (e.enterClearing d).washDue = e.washDue ∧
    (e.enterClearing d).pullDue = e.pullDue ∧ (e.enterClearing d).heldBack = e.heldBack ∧
    (e.enterClearing d).washBack = e.washBack ∧ (e.enterClearing d).washLanesBack = e.washLanesBack ∧
    (e.enterClearing d).releasedHere = e.releasedHere := by
  unfold Ev.enterClearing; dsimp only; (repeat' split) <;> simp

@[simp] theorem Ev.closeForFault_keeps (e : Ev) (d : Nat) :
    (e.closeForFault d).clock = e.clock ∧ (e.closeForFault d).params = e.params ∧
    (e.closeForFault d).pending = e.pending ∧ (e.closeForFault d).serial = e.serial ∧
    (e.closeForFault d).choice = e.choice ∧ (e.closeForFault d).holdList = e.holdList ∧
    (e.closeForFault d).channels = e.channels ∧ (e.closeForFault d).nodes = e.nodes ∧
    (e.closeForFault d).counters = e.counters ∧ (e.closeForFault d).gate = e.gate ∧
    (e.closeForFault d).laneMap = e.laneMap ∧ (e.closeForFault d).fuel.queue = e.fuel.queue ∧
    (e.closeForFault d).fuel.stock = e.fuel.stock ∧ (e.closeForFault d).fuel.committed = e.fuel.committed ∧
    (e.closeForFault d).fuel.belowReserve = e.fuel.belowReserve ∧ (e.closeForFault d).wash = e.wash ∧
    (e.closeForFault d).pullOut = e.pullOut ∧ (e.closeForFault d).field = e.field ∧
    (e.closeForFault d).commands = e.commands ∧ (e.closeForFault d).notices = e.notices ∧
    (e.closeForFault d).office = e.office ∧ (e.closeForFault d).outs = e.outs ∧
    (e.closeForFault d).rerunDue = e.rerunDue ∧ (e.closeForFault d).fuelDue = e.fuelDue ∧
    (e.closeForFault d).washDue = e.washDue ∧ (e.closeForFault d).pullDue = e.pullDue ∧
    (e.closeForFault d).heldBack = e.heldBack ∧ (e.closeForFault d).washBack = e.washBack ∧
    (e.closeForFault d).washLanesBack = e.washLanesBack ∧ (e.closeForFault d).releasedHere = e.releasedHere := by
  simp [Ev.closeForFault]

@[simp] theorem Ev.emptyDispenser_keeps (e : Ev) (d : Nat) :
    (e.emptyDispenser d).clock = e.clock ∧ (e.emptyDispenser d).params = e.params ∧
    (e.emptyDispenser d).pending = e.pending ∧ (e.emptyDispenser d).serial = e.serial ∧
    (e.emptyDispenser d).choice = e.choice ∧ (e.emptyDispenser d).holdList = e.holdList ∧
    (e.emptyDispenser d).channels = e.channels ∧ (e.emptyDispenser d).nodes = e.nodes ∧
    (e.emptyDispenser d).counters = e.counters ∧ (e.emptyDispenser d).gate = e.gate ∧
    (e.emptyDispenser d).laneMap = e.laneMap ∧ (e.emptyDispenser d).fuel.queue = e.fuel.queue ∧
    (e.emptyDispenser d).fuel.stock = e.fuel.stock ∧ (e.emptyDispenser d).fuel.committed = e.fuel.committed ∧
    (e.emptyDispenser d).fuel.belowReserve = e.fuel.belowReserve ∧ (e.emptyDispenser d).wash = e.wash ∧
    (e.emptyDispenser d).pullOut = e.pullOut ∧ (e.emptyDispenser d).field = e.field ∧
    (e.emptyDispenser d).commands = e.commands ∧ (e.emptyDispenser d).notices = e.notices ∧
    (e.emptyDispenser d).office = e.office ∧ (e.emptyDispenser d).outs = e.outs ∧
    (e.emptyDispenser d).rerunDue = e.rerunDue ∧ (e.emptyDispenser d).fuelDue = e.fuelDue ∧
    (e.emptyDispenser d).washDue = e.washDue ∧ (e.emptyDispenser d).pullDue = e.pullDue ∧
    (e.emptyDispenser d).heldBack = e.heldBack ∧ (e.emptyDispenser d).washBack = e.washBack ∧
    (e.emptyDispenser d).washLanesBack = e.washLanesBack ∧ (e.emptyDispenser d).releasedHere = e.releasedHere := by
  simp [Ev.emptyDispenser]

@[simp] theorem Ev.clearBay_keeps (e : Ev) (d : Nat) :
    (e.clearBay d).clock = e.clock ∧ (e.clearBay d).params = e.params ∧ (e.clearBay d).pending = e.pending ∧
    (e.clearBay d).choice = e.choice ∧ (e.clearBay d).holdList = e.holdList ∧
    (e.clearBay d).channels = e.channels ∧ (e.clearBay d).gate = e.gate ∧ (e.clearBay d).laneMap = e.laneMap ∧
    (e.clearBay d).fuel = e.fuel ∧ (e.clearBay d).wash = e.wash ∧ (e.clearBay d).pullOut = e.pullOut ∧
    (e.clearBay d).field = e.field ∧ (e.clearBay d).commands.tx = e.commands.tx ∧
    (e.clearBay d).office = e.office ∧ (e.clearBay d).rerunDue = e.rerunDue ∧ (e.clearBay d).fuelDue = e.fuelDue ∧
    (e.clearBay d).washDue = e.washDue ∧ (e.clearBay d).pullDue = e.pullDue ∧
    (e.clearBay d).heldBack = e.heldBack ∧ (e.clearBay d).washBack = e.washBack ∧
    (e.clearBay d).washLanesBack = e.washLanesBack ∧ (e.clearBay d).releasedHere = e.releasedHere := by
  simp [Ev.clearBay]

@[simp] theorem Ev.releaseGrant_keeps (e : Ev) (d : Nat) :
    (e.releaseGrant d).clock = e.clock ∧ (e.releaseGrant d).params = e.params ∧
    (e.releaseGrant d).pending = e.pending ∧ (e.releaseGrant d).serial = e.serial ∧
    (e.releaseGrant d).choice = e.choice ∧ (e.releaseGrant d).holdList = e.holdList ∧
    (e.releaseGrant d).channels = e.channels ∧ (e.releaseGrant d).nodes = e.nodes ∧
    (e.releaseGrant d).gate = e.gate ∧ (e.releaseGrant d).laneMap = e.laneMap ∧
    (e.releaseGrant d).fuel.queue = e.fuel.queue ∧ (e.releaseGrant d).fuel.stock = e.fuel.stock ∧
    (e.releaseGrant d).wash = e.wash ∧ (e.releaseGrant d).pullOut = e.pullOut ∧
    (e.releaseGrant d).field = e.field ∧ (e.releaseGrant d).commands = e.commands ∧
    (e.releaseGrant d).office = e.office ∧ (e.releaseGrant d).outs = e.outs ∧
    (e.releaseGrant d).rerunDue = e.rerunDue ∧ (e.releaseGrant d).fuelDue = e.fuelDue ∧
    (e.releaseGrant d).washDue = e.washDue ∧ (e.releaseGrant d).pullDue = e.pullDue ∧
    (e.releaseGrant d).heldBack = e.heldBack ∧ (e.releaseGrant d).washBack = e.washBack ∧
    (e.releaseGrant d).washLanesBack = e.washLanesBack ∧ (e.releaseGrant d).releasedHere = e.releasedHere := by
  unfold Ev.releaseGrant; split <;> simp

@[simp] theorem Ev.callFuel_keeps (e : Ev) (x : FuelEntry) (d : Nat) :
    (e.callFuel x d).clock = e.clock ∧ (e.callFuel x d).params = e.params ∧ (e.callFuel x d).pending = e.pending ∧
    (e.callFuel x d).choice = e.choice ∧ (e.callFuel x d).holdList = e.holdList ∧
    (e.callFuel x d).channels = e.channels ∧ (e.callFuel x d).gate.classes = e.gate.classes ∧
    (e.callFuel x d).laneMap = e.laneMap ∧ (e.callFuel x d).fuel.stock = e.fuel.stock ∧
    (e.callFuel x d).fuel.committed = e.fuel.committed ∧
    (e.callFuel x d).fuel.belowReserve = e.fuel.belowReserve ∧ (e.callFuel x d).wash = e.wash ∧
    (e.callFuel x d).pullOut = e.pullOut ∧ (e.callFuel x d).field = e.field ∧
    (e.callFuel x d).commands.tx = e.commands.tx ∧ (e.callFuel x d).office = e.office ∧
    (e.callFuel x d).rerunDue = e.rerunDue ∧ (e.callFuel x d).fuelDue = e.fuelDue ∧
    (e.callFuel x d).washDue = e.washDue ∧ (e.callFuel x d).pullDue = e.pullDue ∧
    (e.callFuel x d).heldBack = e.heldBack ∧ (e.callFuel x d).washBack = e.washBack ∧
    (e.callFuel x d).washLanesBack = e.washLanesBack ∧ (e.callFuel x d).releasedHere = e.releasedHere := by
  simp [Ev.callFuel]

@[simp] theorem Ev.lowerTurns_keeps (e : Ev) (d b : Nat) :
    (e.lowerTurns d b).clock = e.clock ∧ (e.lowerTurns d b).params = e.params ∧
    (e.lowerTurns d b).pending = e.pending ∧ (e.lowerTurns d b).serial = e.serial ∧
    (e.lowerTurns d b).choice = e.choice ∧ (e.lowerTurns d b).holdList = e.holdList ∧
    (e.lowerTurns d b).channels = e.channels ∧ (e.lowerTurns d b).nodes = e.nodes ∧
    (e.lowerTurns d b).counters = e.counters ∧ (e.lowerTurns d b).gate = e.gate ∧
    (e.lowerTurns d b).laneMap = e.laneMap ∧ (e.lowerTurns d b).fuel.dispensers = e.fuel.dispensers ∧
    (e.lowerTurns d b).fuel.stock = e.fuel.stock ∧ (e.lowerTurns d b).fuel.committed = e.fuel.committed ∧
    (e.lowerTurns d b).fuel.belowReserve = e.fuel.belowReserve ∧ (e.lowerTurns d b).wash = e.wash ∧
    (e.lowerTurns d b).pullOut = e.pullOut ∧ (e.lowerTurns d b).field = e.field ∧
    (e.lowerTurns d b).commands = e.commands ∧ (e.lowerTurns d b).notices = e.notices ∧
    (e.lowerTurns d b).office = e.office ∧ (e.lowerTurns d b).outs = e.outs ∧
    (e.lowerTurns d b).rerunDue = e.rerunDue ∧ (e.lowerTurns d b).fuelDue = e.fuelDue ∧
    (e.lowerTurns d b).washDue = e.washDue ∧ (e.lowerTurns d b).pullDue = e.pullDue ∧
    (e.lowerTurns d b).heldBack = e.heldBack ∧ (e.lowerTurns d b).washBack = e.washBack ∧
    (e.lowerTurns d b).washLanesBack = e.washLanesBack ∧ (e.lowerTurns d b).releasedHere = e.releasedHere := by
  unfold Ev.lowerTurns; split <;> simp

@[simp] theorem Ev.baySignalFailed_keeps (e : Ev) (d : Nat) :
    (e.baySignalFailed d).clock = e.clock ∧ (e.baySignalFailed d).params = e.params ∧
    (e.baySignalFailed d).pending = e.pending ∧ (e.baySignalFailed d).choice = e.choice ∧
    (e.baySignalFailed d).channels = e.channels ∧ (e.baySignalFailed d).gate.classes = e.gate.classes ∧
    (e.baySignalFailed d).laneMap.lanes = e.laneMap.lanes ∧ (e.baySignalFailed d).fuel.stock = e.fuel.stock ∧
    (e.baySignalFailed d).fuel.committed = e.fuel.committed ∧
    (e.baySignalFailed d).fuel.belowReserve = e.fuel.belowReserve ∧
    (e.baySignalFailed d).wash.lanes = e.wash.lanes ∧ (e.baySignalFailed d).wash.waived = e.wash.waived ∧
    (e.baySignalFailed d).pullOut.releases = e.pullOut.releases ∧ (e.baySignalFailed d).field = e.field ∧
    (e.baySignalFailed d).commands.tx = e.commands.tx ∧ (e.baySignalFailed d).office = e.office ∧
    (e.baySignalFailed d).rerunDue = e.rerunDue ∧ (e.baySignalFailed d).pullDue = e.pullDue ∧
    (e.baySignalFailed d).heldBack = e.heldBack ∧ (e.baySignalFailed d).washBack = e.washBack ∧
    (e.baySignalFailed d).washLanesBack = e.washLanesBack ∧ (e.baySignalFailed d).releasedHere = e.releasedHere := by
  simp [Ev.baySignalFailed]

@[simp] theorem Ev.dock_keeps (e : Ev) (d : Nat) :
    (e.dock d).clock = e.clock ∧ (e.dock d).params = e.params ∧ (e.dock d).pending = e.pending ∧
    (e.dock d).choice = e.choice ∧ (e.dock d).holdList = e.holdList ∧ (e.dock d).channels = e.channels ∧
    (e.dock d).gate = e.gate ∧ (e.dock d).laneMap = e.laneMap ∧ (e.dock d).fuel.queue = e.fuel.queue ∧
    (e.dock d).fuel.stock = e.fuel.stock ∧ (e.dock d).fuel.committed = e.fuel.committed ∧
    (e.dock d).fuel.belowReserve = e.fuel.belowReserve ∧ (e.dock d).wash = e.wash ∧
    (e.dock d).pullOut = e.pullOut ∧ (e.dock d).field = e.field ∧ (e.dock d).commands.tx = e.commands.tx ∧
    (e.dock d).office = e.office ∧ (e.dock d).rerunDue = e.rerunDue ∧ (e.dock d).fuelDue = e.fuelDue ∧
    (e.dock d).washDue = e.washDue ∧ (e.dock d).pullDue = e.pullDue ∧ (e.dock d).heldBack = e.heldBack ∧
    (e.dock d).washBack = e.washBack ∧ (e.dock d).washLanesBack = e.washLanesBack ∧
    (e.dock d).releasedHere = e.releasedHere := by
  simp [Ev.dock]

@[simp] theorem Ev.missedCall_keeps (e : Ev) (o : FuelOccupant) (d : Nat) :
    (e.missedCall o d).clock = e.clock ∧ (e.missedCall o d).params = e.params ∧
    (e.missedCall o d).pending = e.pending ∧ (e.missedCall o d).choice = e.choice ∧
    (e.missedCall o d).channels = e.channels ∧ (e.missedCall o d).gate.classes = e.gate.classes ∧
    (e.missedCall o d).laneMap.lanes = e.laneMap.lanes ∧ (e.missedCall o d).fuel.dispensers = e.fuel.dispensers ∧
    (e.missedCall o d).fuel.stock = e.fuel.stock ∧ (e.missedCall o d).fuel.committed = e.fuel.committed ∧
    (e.missedCall o d).fuel.belowReserve = e.fuel.belowReserve ∧ (e.missedCall o d).wash.lanes = e.wash.lanes ∧
    (e.missedCall o d).wash.waived = e.wash.waived ∧ (e.missedCall o d).pullOut.releases = e.pullOut.releases ∧
    (e.missedCall o d).field = e.field ∧ (e.missedCall o d).commands.tx = e.commands.tx ∧
    (e.missedCall o d).office = e.office ∧ (e.missedCall o d).rerunDue = e.rerunDue ∧
    (e.missedCall o d).pullDue = e.pullDue ∧ (e.missedCall o d).heldBack = e.heldBack ∧
    (e.missedCall o d).washBack = e.washBack ∧ (e.missedCall o d).washLanesBack = e.washLanesBack ∧
    (e.missedCall o d).releasedHere = e.releasedHere := by
  unfold Ev.missedCall; split <;> simp

@[simp] theorem Ev.callTimedOut_keeps (e : Ev) (d : Nat) :
    (e.callTimedOut d).clock = e.clock ∧ (e.callTimedOut d).params = e.params ∧
    (e.callTimedOut d).pending = e.pending ∧ (e.callTimedOut d).choice = e.choice ∧
    (e.callTimedOut d).channels = e.channels ∧ (e.callTimedOut d).gate.classes = e.gate.classes ∧
    (e.callTimedOut d).laneMap.lanes = e.laneMap.lanes ∧ (e.callTimedOut d).fuel.stock = e.fuel.stock ∧
    (e.callTimedOut d).fuel.committed = e.fuel.committed ∧
    (e.callTimedOut d).fuel.belowReserve = e.fuel.belowReserve ∧ (e.callTimedOut d).wash.lanes = e.wash.lanes ∧
    (e.callTimedOut d).wash.waived = e.wash.waived ∧ (e.callTimedOut d).pullOut.releases = e.pullOut.releases ∧
    (e.callTimedOut d).field = e.field ∧ (e.callTimedOut d).commands.tx = e.commands.tx ∧
    (e.callTimedOut d).office = e.office ∧ (e.callTimedOut d).rerunDue = e.rerunDue ∧
    (e.callTimedOut d).pullDue = e.pullDue ∧ (e.callTimedOut d).heldBack = e.heldBack ∧
    (e.callTimedOut d).washBack = e.washBack ∧ (e.callTimedOut d).washLanesBack = e.washLanesBack ∧
    (e.callTimedOut d).releasedHere = e.releasedHere := by
  unfold Ev.callTimedOut; dsimp only; (repeat' split) <;> simp

@[simp] theorem Ev.deferralEnds_keeps (e : Ev) (b : Nat) :
    (e.deferralEnds b).clock = e.clock ∧ (e.deferralEnds b).params = e.params ∧
    (e.deferralEnds b).pending = e.pending ∧ (e.deferralEnds b).serial = e.serial ∧
    (e.deferralEnds b).choice = e.choice ∧ (e.deferralEnds b).holdList = e.holdList ∧
    (e.deferralEnds b).channels = e.channels ∧ (e.deferralEnds b).nodes = e.nodes ∧
    (e.deferralEnds b).counters = e.counters ∧ (e.deferralEnds b).gate = e.gate ∧
    (e.deferralEnds b).laneMap = e.laneMap ∧ (e.deferralEnds b).fuel.dispensers = e.fuel.dispensers ∧
    (e.deferralEnds b).fuel.stock = e.fuel.stock ∧ (e.deferralEnds b).fuel.committed = e.fuel.committed ∧
    (e.deferralEnds b).fuel.belowReserve = e.fuel.belowReserve ∧ (e.deferralEnds b).wash = e.wash ∧
    (e.deferralEnds b).pullOut = e.pullOut ∧ (e.deferralEnds b).field = e.field ∧
    (e.deferralEnds b).commands = e.commands ∧ (e.deferralEnds b).notices = e.notices ∧
    (e.deferralEnds b).office = e.office ∧ (e.deferralEnds b).outs = e.outs ∧
    (e.deferralEnds b).rerunDue = e.rerunDue ∧ (e.deferralEnds b).washDue = e.washDue ∧
    (e.deferralEnds b).pullDue = e.pullDue ∧ (e.deferralEnds b).heldBack = e.heldBack ∧
    (e.deferralEnds b).washBack = e.washBack ∧ (e.deferralEnds b).washLanesBack = e.washLanesBack ∧
    (e.deferralEnds b).releasedHere = e.releasedHere := by
  simp [Ev.deferralEnds]

@[simp] theorem Ev.dockingTimedOut_keeps (e : Ev) (d : Nat) :
    (e.dockingTimedOut d).clock = e.clock ∧ (e.dockingTimedOut d).params = e.params ∧
    (e.dockingTimedOut d).pending = e.pending ∧ (e.dockingTimedOut d).choice = e.choice ∧
    (e.dockingTimedOut d).channels = e.channels ∧ (e.dockingTimedOut d).gate.classes = e.gate.classes ∧
    (e.dockingTimedOut d).laneMap.lanes = e.laneMap.lanes ∧ (e.dockingTimedOut d).fuel.queue = e.fuel.queue ∧
    (e.dockingTimedOut d).fuel.stock = e.fuel.stock ∧ (e.dockingTimedOut d).fuel.committed = e.fuel.committed ∧
    (e.dockingTimedOut d).fuel.belowReserve = e.fuel.belowReserve ∧
    (e.dockingTimedOut d).wash.lanes = e.wash.lanes ∧ (e.dockingTimedOut d).wash.waived = e.wash.waived ∧
    (e.dockingTimedOut d).pullOut.releases = e.pullOut.releases ∧ (e.dockingTimedOut d).field = e.field ∧
    (e.dockingTimedOut d).commands.tx = e.commands.tx ∧ (e.dockingTimedOut d).office = e.office ∧
    (e.dockingTimedOut d).rerunDue = e.rerunDue ∧ (e.dockingTimedOut d).pullDue = e.pullDue ∧
    (e.dockingTimedOut d).heldBack = e.heldBack ∧ (e.dockingTimedOut d).washBack = e.washBack ∧
    (e.dockingTimedOut d).washLanesBack = e.washLanesBack ∧ (e.dockingTimedOut d).releasedHere = e.releasedHere := by
  unfold Ev.dockingTimedOut; split <;> simp

@[simp] theorem Ev.refuseNozzle_keeps (e : Ev) (d : Nat) :
    (e.refuseNozzle d).clock = e.clock ∧ (e.refuseNozzle d).params = e.params ∧
    (e.refuseNozzle d).pending = e.pending ∧ (e.refuseNozzle d).choice = e.choice ∧
    (e.refuseNozzle d).holdList = e.holdList ∧ (e.refuseNozzle d).channels = e.channels ∧
    (e.refuseNozzle d).gate = e.gate ∧ (e.refuseNozzle d).laneMap = e.laneMap ∧ (e.refuseNozzle d).fuel = e.fuel ∧
    (e.refuseNozzle d).wash = e.wash ∧ (e.refuseNozzle d).pullOut = e.pullOut ∧
    (e.refuseNozzle d).field = e.field ∧ (e.refuseNozzle d).commands.tx = e.commands.tx ∧
    (e.refuseNozzle d).office = e.office ∧ (e.refuseNozzle d).rerunDue = e.rerunDue ∧
    (e.refuseNozzle d).fuelDue = e.fuelDue ∧ (e.refuseNozzle d).washDue = e.washDue ∧
    (e.refuseNozzle d).pullDue = e.pullDue ∧ (e.refuseNozzle d).heldBack = e.heldBack ∧
    (e.refuseNozzle d).washBack = e.washBack ∧ (e.refuseNozzle d).washLanesBack = e.washLanesBack ∧
    (e.refuseNozzle d).releasedHere = e.releasedHere := by
  simp [Ev.refuseNozzle]

@[simp] theorem Ev.grantFuel_keeps (e : Ev) (d litres : Nat) :
    (e.grantFuel d litres).clock = e.clock ∧ (e.grantFuel d litres).params = e.params ∧
    (e.grantFuel d litres).pending = e.pending ∧ (e.grantFuel d litres).choice = e.choice ∧
    (e.grantFuel d litres).holdList = e.holdList ∧ (e.grantFuel d litres).channels = e.channels ∧
    (e.grantFuel d litres).gate = e.gate ∧ (e.grantFuel d litres).laneMap = e.laneMap ∧
    (e.grantFuel d litres).fuel.queue = e.fuel.queue ∧ (e.grantFuel d litres).fuel.stock = e.fuel.stock ∧
    (e.grantFuel d litres).wash = e.wash ∧ (e.grantFuel d litres).pullOut = e.pullOut ∧
    (e.grantFuel d litres).field = e.field ∧ (e.grantFuel d litres).commands.tx = e.commands.tx ∧
    (e.grantFuel d litres).office = e.office ∧ (e.grantFuel d litres).rerunDue = e.rerunDue ∧
    (e.grantFuel d litres).fuelDue = e.fuelDue ∧ (e.grantFuel d litres).washDue = e.washDue ∧
    (e.grantFuel d litres).pullDue = e.pullDue ∧ (e.grantFuel d litres).heldBack = e.heldBack ∧
    (e.grantFuel d litres).washBack = e.washBack ∧ (e.grantFuel d litres).washLanesBack = e.washLanesBack ∧
    (e.grantFuel d litres).releasedHere = e.releasedHere := by
  simp [Ev.grantFuel]

@[simp] theorem Ev.denyFuel_keeps (e : Ev) (d : Nat) (o : FuelOccupant) :
    (e.denyFuel d o).clock = e.clock ∧ (e.denyFuel d o).params = e.params ∧ (e.denyFuel d o).pending = e.pending ∧
    (e.denyFuel d o).choice = e.choice ∧ (e.denyFuel d o).channels = e.channels ∧
    (e.denyFuel d o).gate.classes = e.gate.classes ∧ (e.denyFuel d o).laneMap.lanes = e.laneMap.lanes ∧
    (e.denyFuel d o).fuel.queue = e.fuel.queue ∧ (e.denyFuel d o).fuel.stock = e.fuel.stock ∧
    (e.denyFuel d o).fuel.committed = e.fuel.committed ∧
    (e.denyFuel d o).fuel.belowReserve = e.fuel.belowReserve ∧ (e.denyFuel d o).wash.lanes = e.wash.lanes ∧
    (e.denyFuel d o).wash.waived = e.wash.waived ∧ (e.denyFuel d o).pullOut.releases = e.pullOut.releases ∧
    (e.denyFuel d o).field = e.field ∧ (e.denyFuel d o).commands.tx = e.commands.tx ∧
    (e.denyFuel d o).office = e.office ∧ (e.denyFuel d o).rerunDue = e.rerunDue ∧
    (e.denyFuel d o).pullDue = e.pullDue ∧ (e.denyFuel d o).heldBack = e.heldBack ∧
    (e.denyFuel d o).washBack = e.washBack ∧ (e.denyFuel d o).washLanesBack = e.washLanesBack ∧
    (e.denyFuel d o).releasedHere = e.releasedHere := by
  simp [Ev.denyFuel]

@[simp] theorem Ev.requestGrant_keeps (e : Ev) (d : Nat) (o : FuelOccupant) :
    (e.requestGrant d o).clock = e.clock ∧ (e.requestGrant d o).params = e.params ∧
    (e.requestGrant d o).pending = e.pending ∧ (e.requestGrant d o).choice = e.choice ∧
    (e.requestGrant d o).channels = e.channels ∧ (e.requestGrant d o).gate.classes = e.gate.classes ∧
    (e.requestGrant d o).laneMap.lanes = e.laneMap.lanes ∧ (e.requestGrant d o).fuel.queue = e.fuel.queue ∧
    (e.requestGrant d o).fuel.stock = e.fuel.stock ∧ (e.requestGrant d o).wash.lanes = e.wash.lanes ∧
    (e.requestGrant d o).wash.waived = e.wash.waived ∧
    (e.requestGrant d o).pullOut.releases = e.pullOut.releases ∧ (e.requestGrant d o).field = e.field ∧
    (e.requestGrant d o).commands.tx = e.commands.tx ∧ (e.requestGrant d o).office = e.office ∧
    (e.requestGrant d o).rerunDue = e.rerunDue ∧ (e.requestGrant d o).pullDue = e.pullDue ∧
    (e.requestGrant d o).heldBack = e.heldBack ∧ (e.requestGrant d o).washBack = e.washBack ∧
    (e.requestGrant d o).washLanesBack = e.washLanesBack ∧ (e.requestGrant d o).releasedHere = e.releasedHere := by
  unfold Ev.requestGrant; (repeat' split) <;> simp

@[simp] theorem Ev.takeNozzle_keeps (e : Ev) (d tag : Nat) :
    (e.takeNozzle d tag).clock = e.clock ∧ (e.takeNozzle d tag).params = e.params ∧
    (e.takeNozzle d tag).pending = e.pending ∧ (e.takeNozzle d tag).choice = e.choice ∧
    (e.takeNozzle d tag).channels = e.channels ∧ (e.takeNozzle d tag).gate.classes = e.gate.classes ∧
    (e.takeNozzle d tag).laneMap.lanes = e.laneMap.lanes ∧ (e.takeNozzle d tag).fuel.queue = e.fuel.queue ∧
    (e.takeNozzle d tag).fuel.stock = e.fuel.stock ∧ (e.takeNozzle d tag).wash.lanes = e.wash.lanes ∧
    (e.takeNozzle d tag).wash.waived = e.wash.waived ∧
    (e.takeNozzle d tag).pullOut.releases = e.pullOut.releases ∧ (e.takeNozzle d tag).field = e.field ∧
    (e.takeNozzle d tag).commands.tx = e.commands.tx ∧ (e.takeNozzle d tag).office = e.office ∧
    (e.takeNozzle d tag).rerunDue = e.rerunDue ∧ (e.takeNozzle d tag).pullDue = e.pullDue ∧
    (e.takeNozzle d tag).heldBack = e.heldBack ∧ (e.takeNozzle d tag).washBack = e.washBack ∧
    (e.takeNozzle d tag).washLanesBack = e.washLanesBack ∧ (e.takeNozzle d tag).releasedHere = e.releasedHere := by
  unfold Ev.takeNozzle; dsimp only; (repeat' split) <;> simp

@[simp] theorem Ev.grantDone_keeps (e : Ev) (d : Nat) :
    (e.grantDone d).clock = e.clock ∧ (e.grantDone d).params = e.params ∧ (e.grantDone d).pending = e.pending ∧
    (e.grantDone d).serial = e.serial ∧ (e.grantDone d).choice = e.choice ∧
    (e.grantDone d).holdList = e.holdList ∧ (e.grantDone d).channels = e.channels ∧
    (e.grantDone d).nodes = e.nodes ∧ (e.grantDone d).counters = e.counters ∧ (e.grantDone d).gate = e.gate ∧
    (e.grantDone d).laneMap = e.laneMap ∧ (e.grantDone d).fuel.queue = e.fuel.queue ∧
    (e.grantDone d).fuel.stock = e.fuel.stock ∧ (e.grantDone d).fuel.committed = e.fuel.committed ∧
    (e.grantDone d).fuel.belowReserve = e.fuel.belowReserve ∧ (e.grantDone d).wash = e.wash ∧
    (e.grantDone d).pullOut = e.pullOut ∧ (e.grantDone d).field = e.field ∧
    (e.grantDone d).commands = e.commands ∧ (e.grantDone d).notices = e.notices ∧
    (e.grantDone d).office = e.office ∧ (e.grantDone d).outs = e.outs ∧ (e.grantDone d).rerunDue = e.rerunDue ∧
    (e.grantDone d).fuelDue = e.fuelDue ∧ (e.grantDone d).washDue = e.washDue ∧
    (e.grantDone d).pullDue = e.pullDue ∧ (e.grantDone d).heldBack = e.heldBack ∧
    (e.grantDone d).washBack = e.washBack ∧ (e.grantDone d).washLanesBack = e.washLanesBack ∧
    (e.grantDone d).releasedHere = e.releasedHere := by
  simp [Ev.grantDone]

@[simp] theorem Ev.grantFailed_keeps (e : Ev) (d : Nat) :
    (e.grantFailed d).clock = e.clock ∧ (e.grantFailed d).params = e.params ∧
    (e.grantFailed d).pending = e.pending ∧ (e.grantFailed d).choice = e.choice ∧
    (e.grantFailed d).channels = e.channels ∧ (e.grantFailed d).gate.classes = e.gate.classes ∧
    (e.grantFailed d).laneMap.lanes = e.laneMap.lanes ∧ (e.grantFailed d).fuel.stock = e.fuel.stock ∧
    (e.grantFailed d).wash.lanes = e.wash.lanes ∧ (e.grantFailed d).wash.waived = e.wash.waived ∧
    (e.grantFailed d).pullOut.releases = e.pullOut.releases ∧ (e.grantFailed d).field = e.field ∧
    (e.grantFailed d).commands.tx = e.commands.tx ∧ (e.grantFailed d).office = e.office ∧
    (e.grantFailed d).rerunDue = e.rerunDue ∧ (e.grantFailed d).pullDue = e.pullDue ∧
    (e.grantFailed d).heldBack = e.heldBack ∧ (e.grantFailed d).washBack = e.washBack ∧
    (e.grantFailed d).washLanesBack = e.washLanesBack ∧ (e.grantFailed d).releasedHere = e.releasedHere := by
  simp [Ev.grantFailed]

@[simp] theorem Ev.settleDelivery_keeps (e : Ev) (d g litres : Nat) (full : Bool) :
    (e.settleDelivery d g litres full).clock = e.clock ∧ (e.settleDelivery d g litres full).params = e.params ∧
    (e.settleDelivery d g litres full).pending = e.pending ∧
    (e.settleDelivery d g litres full).choice = e.choice ∧
    (e.settleDelivery d g litres full).channels = e.channels ∧
    (e.settleDelivery d g litres full).gate.classes = e.gate.classes ∧
    (e.settleDelivery d g litres full).laneMap.lanes = e.laneMap.lanes ∧
    (e.settleDelivery d g litres full).fuel.queue = e.fuel.queue ∧
    (e.settleDelivery d g litres full).wash.lanes = e.wash.lanes ∧
    (e.settleDelivery d g litres full).wash.waived = e.wash.waived ∧
    (e.settleDelivery d g litres full).pullOut.releases = e.pullOut.releases ∧
    (e.settleDelivery d g litres full).field = e.field ∧
    (e.settleDelivery d g litres full).commands.tx = e.commands.tx ∧
    (e.settleDelivery d g litres full).office = e.office ∧
    (e.settleDelivery d g litres full).rerunDue = e.rerunDue ∧
    (e.settleDelivery d g litres full).pullDue = e.pullDue ∧
    (e.settleDelivery d g litres full).heldBack = e.heldBack ∧
    (e.settleDelivery d g litres full).washBack = e.washBack ∧
    (e.settleDelivery d g litres full).washLanesBack = e.washLanesBack ∧
    (e.settleDelivery d g litres full).releasedHere = e.releasedHere := by
  unfold Ev.settleDelivery; dsimp only; (repeat' split) <;> simp

@[simp] theorem Ev.orphanDelivery_keeps (e : Ev) (d litres : Nat) :
    (e.orphanDelivery d litres).clock = e.clock ∧ (e.orphanDelivery d litres).params = e.params ∧
    (e.orphanDelivery d litres).pending = e.pending ∧ (e.orphanDelivery d litres).serial = e.serial ∧
    (e.orphanDelivery d litres).choice = e.choice ∧ (e.orphanDelivery d litres).holdList = e.holdList ∧
    (e.orphanDelivery d litres).channels = e.channels ∧ (e.orphanDelivery d litres).nodes = e.nodes ∧
    (e.orphanDelivery d litres).gate = e.gate ∧ (e.orphanDelivery d litres).laneMap = e.laneMap ∧
    (e.orphanDelivery d litres).fuel.queue = e.fuel.queue ∧
    (e.orphanDelivery d litres).fuel.dispensers = e.fuel.dispensers ∧
    (e.orphanDelivery d litres).fuel.committed = e.fuel.committed ∧ (e.orphanDelivery d litres).wash = e.wash ∧
    (e.orphanDelivery d litres).pullOut = e.pullOut ∧ (e.orphanDelivery d litres).field = e.field ∧
    (e.orphanDelivery d litres).commands = e.commands ∧ (e.orphanDelivery d litres).office = e.office ∧
    (e.orphanDelivery d litres).outs = e.outs ∧ (e.orphanDelivery d litres).rerunDue = e.rerunDue ∧
    (e.orphanDelivery d litres).fuelDue = e.fuelDue ∧ (e.orphanDelivery d litres).washDue = e.washDue ∧
    (e.orphanDelivery d litres).pullDue = e.pullDue ∧ (e.orphanDelivery d litres).heldBack = e.heldBack ∧
    (e.orphanDelivery d litres).washBack = e.washBack ∧
    (e.orphanDelivery d litres).washLanesBack = e.washLanesBack ∧
    (e.orphanDelivery d litres).releasedHere = e.releasedHere := by
  simp [Ev.orphanDelivery]

@[simp] theorem Ev.takeDelivery_keeps (e : Ev) (d litres : Nat) (full : Bool) :
    (e.takeDelivery d litres full).clock = e.clock ∧ (e.takeDelivery d litres full).params = e.params ∧
    (e.takeDelivery d litres full).pending = e.pending ∧ (e.takeDelivery d litres full).choice = e.choice ∧
    (e.takeDelivery d litres full).channels = e.channels ∧
    (e.takeDelivery d litres full).gate.classes = e.gate.classes ∧
    (e.takeDelivery d litres full).laneMap.lanes = e.laneMap.lanes ∧
    (e.takeDelivery d litres full).fuel.queue = e.fuel.queue ∧
    (e.takeDelivery d litres full).wash.lanes = e.wash.lanes ∧
    (e.takeDelivery d litres full).wash.waived = e.wash.waived ∧
    (e.takeDelivery d litres full).pullOut.releases = e.pullOut.releases ∧
    (e.takeDelivery d litres full).field = e.field ∧ (e.takeDelivery d litres full).commands.tx = e.commands.tx ∧
    (e.takeDelivery d litres full).office = e.office ∧ (e.takeDelivery d litres full).rerunDue = e.rerunDue ∧
    (e.takeDelivery d litres full).pullDue = e.pullDue ∧ (e.takeDelivery d litres full).heldBack = e.heldBack ∧
    (e.takeDelivery d litres full).washBack = e.washBack ∧
    (e.takeDelivery d litres full).washLanesBack = e.washLanesBack ∧
    (e.takeDelivery d litres full).releasedHere = e.releasedHere := by
  unfold Ev.takeDelivery; (repeat' split) <;> simp

@[simp] theorem Ev.bayOccupied_keeps (e : Ev) (d : Nat) :
    (e.bayOccupied d).clock = e.clock ∧ (e.bayOccupied d).params = e.params ∧
    (e.bayOccupied d).pending = e.pending ∧ (e.bayOccupied d).choice = e.choice ∧
    (e.bayOccupied d).holdList = e.holdList ∧ (e.bayOccupied d).channels = e.channels ∧
    (e.bayOccupied d).gate = e.gate ∧ (e.bayOccupied d).laneMap = e.laneMap ∧
    (e.bayOccupied d).fuel.queue = e.fuel.queue ∧ (e.bayOccupied d).fuel.stock = e.fuel.stock ∧
    (e.bayOccupied d).fuel.committed = e.fuel.committed ∧
    (e.bayOccupied d).fuel.belowReserve = e.fuel.belowReserve ∧ (e.bayOccupied d).wash = e.wash ∧
    (e.bayOccupied d).pullOut = e.pullOut ∧ (e.bayOccupied d).field = e.field ∧
    (e.bayOccupied d).commands.tx = e.commands.tx ∧ (e.bayOccupied d).office = e.office ∧
    (e.bayOccupied d).rerunDue = e.rerunDue ∧ (e.bayOccupied d).fuelDue = e.fuelDue ∧
    (e.bayOccupied d).washDue = e.washDue ∧ (e.bayOccupied d).pullDue = e.pullDue ∧
    (e.bayOccupied d).heldBack = e.heldBack ∧ (e.bayOccupied d).washBack = e.washBack ∧
    (e.bayOccupied d).washLanesBack = e.washLanesBack ∧ (e.bayOccupied d).releasedHere = e.releasedHere := by
  unfold Ev.bayOccupied; split <;> simp

@[simp] theorem Ev.bayVacant_keeps (e : Ev) (d : Nat) :
    (e.bayVacant d).clock = e.clock ∧ (e.bayVacant d).params = e.params ∧ (e.bayVacant d).pending = e.pending ∧
    (e.bayVacant d).choice = e.choice ∧ (e.bayVacant d).channels = e.channels ∧
    (e.bayVacant d).gate.classes = e.gate.classes ∧ (e.bayVacant d).laneMap.lanes = e.laneMap.lanes ∧
    (e.bayVacant d).fuel.queue = e.fuel.queue ∧ (e.bayVacant d).fuel.stock = e.fuel.stock ∧
    (e.bayVacant d).fuel.committed = e.fuel.committed ∧ (e.bayVacant d).fuel.belowReserve = e.fuel.belowReserve ∧
    (e.bayVacant d).wash.lanes = e.wash.lanes ∧ (e.bayVacant d).wash.waived = e.wash.waived ∧
    (e.bayVacant d).pullOut.releases = e.pullOut.releases ∧ (e.bayVacant d).field = e.field ∧
    (e.bayVacant d).commands.tx = e.commands.tx ∧ (e.bayVacant d).office = e.office ∧
    (e.bayVacant d).rerunDue = e.rerunDue ∧ (e.bayVacant d).pullDue = e.pullDue ∧
    (e.bayVacant d).heldBack = e.heldBack ∧ (e.bayVacant d).washBack = e.washBack ∧
    (e.bayVacant d).washLanesBack = e.washLanesBack ∧ (e.bayVacant d).releasedHere = e.releasedHere := by
  unfold Ev.bayVacant; (repeat' split) <;> simp

@[simp] theorem Ev.bayFaulted_keeps (e : Ev) (d : Nat) :
    (e.bayFaulted d).clock = e.clock ∧ (e.bayFaulted d).params = e.params ∧ (e.bayFaulted d).pending = e.pending ∧
    (e.bayFaulted d).choice = e.choice ∧ (e.bayFaulted d).channels = e.channels ∧
    (e.bayFaulted d).gate.classes = e.gate.classes ∧ (e.bayFaulted d).laneMap.lanes = e.laneMap.lanes ∧
    (e.bayFaulted d).fuel.stock = e.fuel.stock ∧ (e.bayFaulted d).fuel.committed = e.fuel.committed ∧
    (e.bayFaulted d).fuel.belowReserve = e.fuel.belowReserve ∧ (e.bayFaulted d).wash.lanes = e.wash.lanes ∧
    (e.bayFaulted d).wash.waived = e.wash.waived ∧ (e.bayFaulted d).pullOut.releases = e.pullOut.releases ∧
    (e.bayFaulted d).field = e.field ∧ (e.bayFaulted d).commands.tx = e.commands.tx ∧
    (e.bayFaulted d).office = e.office ∧ (e.bayFaulted d).rerunDue = e.rerunDue ∧
    (e.bayFaulted d).pullDue = e.pullDue ∧ (e.bayFaulted d).heldBack = e.heldBack ∧
    (e.bayFaulted d).washBack = e.washBack ∧ (e.bayFaulted d).washLanesBack = e.washLanesBack ∧
    (e.bayFaulted d).releasedHere = e.releasedHere := by
  unfold Ev.bayFaulted; split <;> simp

@[simp] theorem Ev.bayRecovered_keeps (e : Ev) (d : Nat) :
    (e.bayRecovered d).clock = e.clock ∧ (e.bayRecovered d).params = e.params ∧
    (e.bayRecovered d).pending = e.pending ∧ (e.bayRecovered d).serial = e.serial ∧
    (e.bayRecovered d).choice = e.choice ∧ (e.bayRecovered d).holdList = e.holdList ∧
    (e.bayRecovered d).channels = e.channels ∧ (e.bayRecovered d).nodes = e.nodes ∧
    (e.bayRecovered d).counters = e.counters ∧ (e.bayRecovered d).gate = e.gate ∧
    (e.bayRecovered d).laneMap = e.laneMap ∧ (e.bayRecovered d).fuel.queue = e.fuel.queue ∧
    (e.bayRecovered d).fuel.stock = e.fuel.stock ∧ (e.bayRecovered d).fuel.committed = e.fuel.committed ∧
    (e.bayRecovered d).fuel.belowReserve = e.fuel.belowReserve ∧ (e.bayRecovered d).wash = e.wash ∧
    (e.bayRecovered d).pullOut = e.pullOut ∧ (e.bayRecovered d).field = e.field ∧
    (e.bayRecovered d).commands = e.commands ∧ (e.bayRecovered d).notices = e.notices ∧
    (e.bayRecovered d).office = e.office ∧ (e.bayRecovered d).outs = e.outs ∧
    (e.bayRecovered d).rerunDue = e.rerunDue ∧ (e.bayRecovered d).washDue = e.washDue ∧
    (e.bayRecovered d).pullDue = e.pullDue ∧ (e.bayRecovered d).heldBack = e.heldBack ∧
    (e.bayRecovered d).washBack = e.washBack ∧ (e.bayRecovered d).washLanesBack = e.washLanesBack ∧
    (e.bayRecovered d).releasedHere = e.releasedHere := by
  unfold Ev.bayRecovered; split <;> simp

@[simp] theorem Ev.takeOutOfBay_keeps (e : Ev) (d : Nat) :
    (e.takeOutOfBay d).clock = e.clock ∧ (e.takeOutOfBay d).params = e.params ∧
    (e.takeOutOfBay d).pending = e.pending ∧ (e.takeOutOfBay d).choice = e.choice ∧
    (e.takeOutOfBay d).holdList = e.holdList ∧ (e.takeOutOfBay d).channels = e.channels ∧
    (e.takeOutOfBay d).gate = e.gate ∧ (e.takeOutOfBay d).laneMap = e.laneMap ∧
    (e.takeOutOfBay d).fuel.queue = e.fuel.queue ∧ (e.takeOutOfBay d).fuel.stock = e.fuel.stock ∧
    (e.takeOutOfBay d).fuel.committed = e.fuel.committed ∧
    (e.takeOutOfBay d).fuel.belowReserve = e.fuel.belowReserve ∧ (e.takeOutOfBay d).wash = e.wash ∧
    (e.takeOutOfBay d).pullOut = e.pullOut ∧ (e.takeOutOfBay d).field = e.field ∧
    (e.takeOutOfBay d).commands.tx = e.commands.tx ∧ (e.takeOutOfBay d).office = e.office ∧
    (e.takeOutOfBay d).rerunDue = e.rerunDue ∧ (e.takeOutOfBay d).washDue = e.washDue ∧
    (e.takeOutOfBay d).pullDue = e.pullDue ∧ (e.takeOutOfBay d).heldBack = e.heldBack ∧
    (e.takeOutOfBay d).washBack = e.washBack ∧ (e.takeOutOfBay d).washLanesBack = e.washLanesBack ∧
    (e.takeOutOfBay d).releasedHere = e.releasedHere := by
  unfold Ev.takeOutOfBay; dsimp only; (repeat' split) <;> simp

@[simp] theorem Ev.takeAlarm_keeps (e : Ev) (d reason : Nat) :
    (e.takeAlarm d reason).clock = e.clock ∧ (e.takeAlarm d reason).params = e.params ∧
    (e.takeAlarm d reason).pending = e.pending ∧ (e.takeAlarm d reason).choice = e.choice ∧
    (e.takeAlarm d reason).channels = e.channels ∧ (e.takeAlarm d reason).gate.classes = e.gate.classes ∧
    (e.takeAlarm d reason).laneMap.lanes = e.laneMap.lanes ∧ (e.takeAlarm d reason).fuel.stock = e.fuel.stock ∧
    (e.takeAlarm d reason).wash.lanes = e.wash.lanes ∧ (e.takeAlarm d reason).wash.waived = e.wash.waived ∧
    (e.takeAlarm d reason).pullOut.releases = e.pullOut.releases ∧ (e.takeAlarm d reason).field = e.field ∧
    (e.takeAlarm d reason).commands.tx = e.commands.tx ∧ (e.takeAlarm d reason).office = e.office ∧
    (e.takeAlarm d reason).rerunDue = e.rerunDue ∧ (e.takeAlarm d reason).pullDue = e.pullDue ∧
    (e.takeAlarm d reason).heldBack = e.heldBack ∧ (e.takeAlarm d reason).washBack = e.washBack ∧
    (e.takeAlarm d reason).washLanesBack = e.washLanesBack ∧ (e.takeAlarm d reason).releasedHere = e.releasedHere := by
  unfold Ev.takeAlarm; dsimp only; (repeat' split) <;> simp

@[simp] theorem Ev.dispenserHealth_keeps (e : Ev) (d : Nat) (ready : Bool) :
    (e.dispenserHealth d ready).clock = e.clock ∧ (e.dispenserHealth d ready).params = e.params ∧
    (e.dispenserHealth d ready).pending = e.pending ∧ (e.dispenserHealth d ready).serial = e.serial ∧
    (e.dispenserHealth d ready).choice = e.choice ∧ (e.dispenserHealth d ready).holdList = e.holdList ∧
    (e.dispenserHealth d ready).channels = e.channels ∧ (e.dispenserHealth d ready).nodes = e.nodes ∧
    (e.dispenserHealth d ready).counters = e.counters ∧ (e.dispenserHealth d ready).gate = e.gate ∧
    (e.dispenserHealth d ready).laneMap = e.laneMap ∧ (e.dispenserHealth d ready).fuel.queue = e.fuel.queue ∧
    (e.dispenserHealth d ready).fuel.stock = e.fuel.stock ∧
    (e.dispenserHealth d ready).fuel.committed = e.fuel.committed ∧
    (e.dispenserHealth d ready).fuel.belowReserve = e.fuel.belowReserve ∧
    (e.dispenserHealth d ready).wash = e.wash ∧ (e.dispenserHealth d ready).pullOut = e.pullOut ∧
    (e.dispenserHealth d ready).field = e.field ∧ (e.dispenserHealth d ready).commands = e.commands ∧
    (e.dispenserHealth d ready).notices = e.notices ∧ (e.dispenserHealth d ready).office = e.office ∧
    (e.dispenserHealth d ready).outs = e.outs ∧ (e.dispenserHealth d ready).rerunDue = e.rerunDue ∧
    (e.dispenserHealth d ready).washDue = e.washDue ∧ (e.dispenserHealth d ready).pullDue = e.pullDue ∧
    (e.dispenserHealth d ready).heldBack = e.heldBack ∧ (e.dispenserHealth d ready).washBack = e.washBack ∧
    (e.dispenserHealth d ready).washLanesBack = e.washLanesBack ∧
    (e.dispenserHealth d ready).releasedHere = e.releasedHere := by
  unfold Ev.dispenserHealth; split <;> simp

@[simp] theorem Ev.openDisp_keeps (e : Ev) (d : Nat) :
    (e.openDisp d).clock = e.clock ∧ (e.openDisp d).params = e.params ∧ (e.openDisp d).pending = e.pending ∧
    (e.openDisp d).serial = e.serial ∧ (e.openDisp d).choice = e.choice ∧ (e.openDisp d).holdList = e.holdList ∧
    (e.openDisp d).channels = e.channels ∧ (e.openDisp d).nodes = e.nodes ∧ (e.openDisp d).counters = e.counters ∧
    (e.openDisp d).gate = e.gate ∧ (e.openDisp d).laneMap = e.laneMap ∧ (e.openDisp d).fuel.queue = e.fuel.queue ∧
    (e.openDisp d).fuel.stock = e.fuel.stock ∧ (e.openDisp d).fuel.committed = e.fuel.committed ∧
    (e.openDisp d).fuel.belowReserve = e.fuel.belowReserve ∧ (e.openDisp d).wash = e.wash ∧
    (e.openDisp d).pullOut = e.pullOut ∧ (e.openDisp d).field = e.field ∧ (e.openDisp d).commands = e.commands ∧
    (e.openDisp d).notices = e.notices ∧ (e.openDisp d).office = e.office ∧ (e.openDisp d).outs = e.outs ∧
    (e.openDisp d).rerunDue = e.rerunDue ∧ (e.openDisp d).washDue = e.washDue ∧
    (e.openDisp d).pullDue = e.pullDue ∧ (e.openDisp d).heldBack = e.heldBack ∧
    (e.openDisp d).washBack = e.washBack ∧ (e.openDisp d).washLanesBack = e.washLanesBack ∧
    (e.openDisp d).releasedHere = e.releasedHere := by
  unfold Ev.openDisp; dsimp only; (repeat' split) <;> simp

@[simp] theorem Ev.closeDisp_keeps (e : Ev) (d : Nat) :
    (e.closeDisp d).clock = e.clock ∧ (e.closeDisp d).params = e.params ∧ (e.closeDisp d).pending = e.pending ∧
    (e.closeDisp d).choice = e.choice ∧ (e.closeDisp d).channels = e.channels ∧
    (e.closeDisp d).gate.classes = e.gate.classes ∧ (e.closeDisp d).laneMap.lanes = e.laneMap.lanes ∧
    (e.closeDisp d).fuel.stock = e.fuel.stock ∧ (e.closeDisp d).fuel.committed = e.fuel.committed ∧
    (e.closeDisp d).fuel.belowReserve = e.fuel.belowReserve ∧ (e.closeDisp d).wash.lanes = e.wash.lanes ∧
    (e.closeDisp d).wash.waived = e.wash.waived ∧ (e.closeDisp d).pullOut.releases = e.pullOut.releases ∧
    (e.closeDisp d).field = e.field ∧ (e.closeDisp d).commands.tx = e.commands.tx ∧
    (e.closeDisp d).office = e.office ∧ (e.closeDisp d).rerunDue = e.rerunDue ∧
    (e.closeDisp d).pullDue = e.pullDue ∧ (e.closeDisp d).heldBack = e.heldBack ∧
    (e.closeDisp d).washBack = e.washBack ∧ (e.closeDisp d).washLanesBack = e.washLanesBack ∧
    (e.closeDisp d).releasedHere = e.releasedHere := by
  unfold Ev.closeDisp; split <;> simp

@[simp] theorem Ev.settleDispenser_keeps (e : Ev) (d : Nat) :
    (e.settleDispenser d).clock = e.clock ∧ (e.settleDispenser d).params = e.params ∧
    (e.settleDispenser d).pending = e.pending ∧ (e.settleDispenser d).choice = e.choice ∧
    (e.settleDispenser d).channels = e.channels ∧ (e.settleDispenser d).gate.classes = e.gate.classes ∧
    (e.settleDispenser d).laneMap.lanes = e.laneMap.lanes ∧ (e.settleDispenser d).fuel.stock = e.fuel.stock ∧
    (e.settleDispenser d).fuel.committed = e.fuel.committed ∧
    (e.settleDispenser d).fuel.belowReserve = e.fuel.belowReserve ∧
    (e.settleDispenser d).wash.lanes = e.wash.lanes ∧ (e.settleDispenser d).wash.waived = e.wash.waived ∧
    (e.settleDispenser d).pullOut.releases = e.pullOut.releases ∧ (e.settleDispenser d).field = e.field ∧
    (e.settleDispenser d).commands.tx = e.commands.tx ∧ (e.settleDispenser d).office = e.office ∧
    (e.settleDispenser d).rerunDue = e.rerunDue ∧ (e.settleDispenser d).pullDue = e.pullDue ∧
    (e.settleDispenser d).heldBack = e.heldBack ∧ (e.settleDispenser d).washBack = e.washBack ∧
    (e.settleDispenser d).washLanesBack = e.washLanesBack ∧ (e.settleDispenser d).releasedHere = e.releasedHere := by
  unfold Ev.settleDispenser; dsimp only; (repeat' split) <;> simp

@[simp] theorem Ev.settleFuel_keeps (e : Ev) :
    e.settleFuel.clock = e.clock ∧ e.settleFuel.params = e.params ∧ e.settleFuel.pending = e.pending ∧
    e.settleFuel.choice = e.choice ∧ e.settleFuel.channels = e.channels ∧
    e.settleFuel.gate.classes = e.gate.classes ∧ e.settleFuel.laneMap.lanes = e.laneMap.lanes ∧
    e.settleFuel.fuel.stock = e.fuel.stock ∧ e.settleFuel.wash.lanes = e.wash.lanes ∧
    e.settleFuel.wash.waived = e.wash.waived ∧ e.settleFuel.pullOut.releases = e.pullOut.releases ∧
    e.settleFuel.field = e.field ∧ e.settleFuel.commands.tx = e.commands.tx ∧ e.settleFuel.office = e.office ∧
    e.settleFuel.rerunDue = e.rerunDue ∧ e.settleFuel.pullDue = e.pullDue ∧ e.settleFuel.heldBack = e.heldBack ∧
    e.settleFuel.washBack = e.washBack ∧ e.settleFuel.washLanesBack = e.washLanesBack ∧
    e.settleFuel.releasedHere = e.releasedHere := by
  simp [Ev.settleFuel]

end Sys2Proof.Machine
end

