-- ==== Sys2Proof/Laws/KeepsYard.lean ====
section
/-! SUPPORT. What each operation of the lane map and of the gate logic leaves as it was. -/

namespace Sys2Proof.Machine

@[simp] theorem Ev.markUncertain_keeps (e : Ev) (l : Nat) :
    (e.markUncertain l).clock = e.clock ∧ (e.markUncertain l).params = e.params ∧
    (e.markUncertain l).pending = e.pending ∧ (e.markUncertain l).serial = e.serial ∧
    (e.markUncertain l).choice = e.choice ∧ (e.markUncertain l).holdList = e.holdList ∧
    (e.markUncertain l).channels = e.channels ∧ (e.markUncertain l).nodes = e.nodes ∧
    (e.markUncertain l).gate = e.gate ∧ (e.markUncertain l).laneMap.directions = e.laneMap.directions ∧
    (e.markUncertain l).fuel = e.fuel ∧ (e.markUncertain l).wash = e.wash ∧
    (e.markUncertain l).pullOut = e.pullOut ∧ (e.markUncertain l).field = e.field ∧
    (e.markUncertain l).commands = e.commands ∧ (e.markUncertain l).office = e.office ∧
    (e.markUncertain l).outs = e.outs ∧ (e.markUncertain l).rerunDue = e.rerunDue ∧
    (e.markUncertain l).fuelDue = e.fuelDue ∧ (e.markUncertain l).washDue = e.washDue ∧
    (e.markUncertain l).pullDue = e.pullDue ∧ (e.markUncertain l).heldBack = e.heldBack ∧
    (e.markUncertain l).washBack = e.washBack ∧ (e.markUncertain l).washLanesBack = e.washLanesBack ∧
    (e.markUncertain l).releasedHere = e.releasedHere := by
  unfold Ev.markUncertain; split <;> simp

@[simp] theorem Ev.tellContents_keeps (e : Ev) (old new : List LaneEntry) :
    (e.tellContents old new).clock = e.clock ∧ (e.tellContents old new).params = e.params ∧
    (e.tellContents old new).pending = e.pending ∧ (e.tellContents old new).serial = e.serial ∧
    (e.tellContents old new).choice = e.choice ∧ (e.tellContents old new).holdList = e.holdList ∧
    (e.tellContents old new).channels = e.channels ∧ (e.tellContents old new).nodes = e.nodes ∧
    (e.tellContents old new).counters = e.counters ∧ (e.tellContents old new).gate = e.gate ∧
    (e.tellContents old new).laneMap = e.laneMap ∧ (e.tellContents old new).fuel = e.fuel ∧
    (e.tellContents old new).wash = e.wash ∧ (e.tellContents old new).pullOut = e.pullOut ∧
    (e.tellContents old new).field = e.field ∧ (e.tellContents old new).commands = e.commands ∧
    (e.tellContents old new).notices = e.notices ∧ (e.tellContents old new).office = e.office ∧
    (e.tellContents old new).outs = e.outs ∧ (e.tellContents old new).fuelDue = e.fuelDue ∧
    (e.tellContents old new).washDue = e.washDue ∧ (e.tellContents old new).heldBack = e.heldBack ∧
    (e.tellContents old new).washBack = e.washBack ∧ (e.tellContents old new).washLanesBack = e.washLanesBack ∧
    (e.tellContents old new).releasedHere = e.releasedHere := by
  unfold Ev.tellContents; dsimp only; (repeat' split) <;> simp

@[simp] theorem Ev.changeContents_keeps (e : Ev) (l : Nat) (new : List LaneEntry) :
    (e.changeContents l new).clock = e.clock ∧ (e.changeContents l new).params = e.params ∧
    (e.changeContents l new).pending = e.pending ∧ (e.changeContents l new).serial = e.serial ∧
    (e.changeContents l new).choice = e.choice ∧ (e.changeContents l new).holdList = e.holdList ∧
    (e.changeContents l new).channels = e.channels ∧ (e.changeContents l new).nodes = e.nodes ∧
    (e.changeContents l new).counters = e.counters ∧ (e.changeContents l new).gate = e.gate ∧
    (e.changeContents l new).laneMap.directions = e.laneMap.directions ∧ (e.changeContents l new).fuel = e.fuel ∧
    (e.changeContents l new).wash = e.wash ∧ (e.changeContents l new).pullOut = e.pullOut ∧
    (e.changeContents l new).field = e.field ∧ (e.changeContents l new).commands = e.commands ∧
    (e.changeContents l new).notices = e.notices ∧ (e.changeContents l new).office = e.office ∧
    (e.changeContents l new).outs = e.outs ∧ (e.changeContents l new).fuelDue = e.fuelDue ∧
    (e.changeContents l new).washDue = e.washDue ∧ (e.changeContents l new).heldBack = e.heldBack ∧
    (e.changeContents l new).washBack = e.washBack ∧ (e.changeContents l new).washLanesBack = e.washLanesBack ∧
    (e.changeContents l new).releasedHere = e.releasedHere := by
  simp [Ev.changeContents]

@[simp] theorem Ev.joinLane_keeps (e : Ev) (l : Nat) (x : LaneEntry) :
    (e.joinLane l x).clock = e.clock ∧ (e.joinLane l x).params = e.params ∧ (e.joinLane l x).pending = e.pending ∧
    (e.joinLane l x).serial = e.serial ∧ (e.joinLane l x).choice = e.choice ∧
    (e.joinLane l x).holdList = e.holdList ∧ (e.joinLane l x).channels = e.channels ∧
    (e.joinLane l x).nodes = e.nodes ∧ (e.joinLane l x).counters = e.counters ∧ (e.joinLane l x).gate = e.gate ∧
    (e.joinLane l x).laneMap.directions = e.laneMap.directions ∧ (e.joinLane l x).fuel = e.fuel ∧
    (e.joinLane l x).wash = e.wash ∧ (e.joinLane l x).pullOut = e.pullOut ∧ (e.joinLane l x).field = e.field ∧
    (e.joinLane l x).commands = e.commands ∧ (e.joinLane l x).notices = e.notices ∧
    (e.joinLane l x).office = e.office ∧ (e.joinLane l x).outs = e.outs ∧ (e.joinLane l x).fuelDue = e.fuelDue ∧
    (e.joinLane l x).washDue = e.washDue ∧ (e.joinLane l x).heldBack = e.heldBack ∧
    (e.joinLane l x).washBack = e.washBack ∧ (e.joinLane l x).washLanesBack = e.washLanesBack ∧
    (e.joinLane l x).releasedHere = e.releasedHere := by
  simp [Ev.joinLane]

@[simp] theorem Ev.park_keeps (e : Ev) (b l : Nat) :
    (e.park b l).clock = e.clock ∧ (e.park b l).params = e.params ∧ (e.park b l).pending = e.pending ∧
    (e.park b l).serial = e.serial ∧ (e.park b l).choice = e.choice ∧ (e.park b l).holdList = e.holdList ∧
    (e.park b l).channels = e.channels ∧ (e.park b l).nodes = e.nodes ∧ (e.park b l).counters = e.counters ∧
    (e.park b l).gate.classes = e.gate.classes ∧ (e.park b l).laneMap.directions = e.laneMap.directions ∧
    (e.park b l).fuel = e.fuel ∧ (e.park b l).wash = e.wash ∧ (e.park b l).pullOut = e.pullOut ∧
    (e.park b l).field = e.field ∧ (e.park b l).commands = e.commands ∧ (e.park b l).notices = e.notices ∧
    (e.park b l).office = e.office ∧ (e.park b l).outs = e.outs ∧ (e.park b l).fuelDue = e.fuelDue ∧
    (e.park b l).washDue = e.washDue ∧ (e.park b l).heldBack = e.heldBack ∧ (e.park b l).washBack = e.washBack ∧
    (e.park b l).washLanesBack = e.washLanesBack ∧ (e.park b l).releasedHere = e.releasedHere := by
  simp [Ev.park]

@[simp] theorem Ev.removeFromLane_keeps (e : Ev) (b l : Nat) :
    (e.removeFromLane b l).clock = e.clock ∧ (e.removeFromLane b l).params = e.params ∧
    (e.removeFromLane b l).pending = e.pending ∧ (e.removeFromLane b l).serial = e.serial ∧
    (e.removeFromLane b l).choice = e.choice ∧ (e.removeFromLane b l).holdList = e.holdList ∧
    (e.removeFromLane b l).channels = e.channels ∧ (e.removeFromLane b l).nodes = e.nodes ∧
    (e.removeFromLane b l).counters = e.counters ∧ (e.removeFromLane b l).gate = e.gate ∧
    (e.removeFromLane b l).laneMap.directions = e.laneMap.directions ∧ (e.removeFromLane b l).fuel = e.fuel ∧
    (e.removeFromLane b l).wash = e.wash ∧ (e.removeFromLane b l).pullOut = e.pullOut ∧
    (e.removeFromLane b l).field = e.field ∧ (e.removeFromLane b l).commands = e.commands ∧
    (e.removeFromLane b l).notices = e.notices ∧ (e.removeFromLane b l).office = e.office ∧
    (e.removeFromLane b l).outs = e.outs ∧ (e.removeFromLane b l).fuelDue = e.fuelDue ∧
    (e.removeFromLane b l).washDue = e.washDue ∧ (e.removeFromLane b l).heldBack = e.heldBack ∧
    (e.removeFromLane b l).washBack = e.washBack ∧ (e.removeFromLane b l).washLanesBack = e.washLanesBack ∧
    (e.removeFromLane b l).releasedHere = e.releasedHere := by
  simp [Ev.removeFromLane]

@[simp] theorem Ev.overfull_keeps (e : Ev) (l : Nat) (b intended : Option Nat) :
    (e.overfull l b intended).clock = e.clock ∧ (e.overfull l b intended).params = e.params ∧
    (e.overfull l b intended).pending = e.pending ∧ (e.overfull l b intended).serial = e.serial ∧
    (e.overfull l b intended).choice = e.choice ∧ (e.overfull l b intended).holdList = e.holdList ∧
    (e.overfull l b intended).channels = e.channels ∧ (e.overfull l b intended).nodes = e.nodes ∧
    (e.overfull l b intended).gate = e.gate ∧
    (e.overfull l b intended).laneMap.directions = e.laneMap.directions ∧
    (e.overfull l b intended).fuel = e.fuel ∧ (e.overfull l b intended).wash = e.wash ∧
    (e.overfull l b intended).pullOut = e.pullOut ∧ (e.overfull l b intended).field = e.field ∧
    (e.overfull l b intended).commands = e.commands ∧ (e.overfull l b intended).office = e.office ∧
    (e.overfull l b intended).outs = e.outs ∧ (e.overfull l b intended).rerunDue = e.rerunDue ∧
    (e.overfull l b intended).fuelDue = e.fuelDue ∧ (e.overfull l b intended).washDue = e.washDue ∧
    (e.overfull l b intended).pullDue = e.pullDue ∧ (e.overfull l b intended).heldBack = e.heldBack ∧
    (e.overfull l b intended).washBack = e.washBack ∧ (e.overfull l b intended).washLanesBack = e.washLanesBack ∧
    (e.overfull l b intended).releasedHere = e.releasedHere := by
  simp [Ev.overfull]

@[simp] theorem Ev.overfullBus_keeps (e : Ev) (l b : Nat) (intended : Option Nat) :
    (e.overfullBus l b intended).clock = e.clock ∧ (e.overfullBus l b intended).params = e.params ∧
    (e.overfullBus l b intended).pending = e.pending ∧ (e.overfullBus l b intended).serial = e.serial ∧
    (e.overfullBus l b intended).choice = e.choice ∧ (e.overfullBus l b intended).holdList = e.holdList ∧
    (e.overfullBus l b intended).channels = e.channels ∧ (e.overfullBus l b intended).nodes = e.nodes ∧
    (e.overfullBus l b intended).gate.classes = e.gate.classes ∧
    (e.overfullBus l b intended).laneMap.directions = e.laneMap.directions ∧
    (e.overfullBus l b intended).fuel = e.fuel ∧ (e.overfullBus l b intended).wash = e.wash ∧
    (e.overfullBus l b intended).pullOut = e.pullOut ∧ (e.overfullBus l b intended).field = e.field ∧
    (e.overfullBus l b intended).commands = e.commands ∧ (e.overfullBus l b intended).office = e.office ∧
    (e.overfullBus l b intended).outs = e.outs ∧ (e.overfullBus l b intended).rerunDue = e.rerunDue ∧
    (e.overfullBus l b intended).fuelDue = e.fuelDue ∧ (e.overfullBus l b intended).washDue = e.washDue ∧
    (e.overfullBus l b intended).pullDue = e.pullDue ∧ (e.overfullBus l b intended).heldBack = e.heldBack ∧
    (e.overfullBus l b intended).washBack = e.washBack ∧
    (e.overfullBus l b intended).washLanesBack = e.washLanesBack ∧
    (e.overfullBus l b intended).releasedHere = e.releasedHere := by
  simp [Ev.overfullBus]

@[simp] theorem Ev.matchedEntry_keeps (e : Ev) (l : Nat) (d : Direction) :
    (e.matchedEntry l d).clock = e.clock ∧ (e.matchedEntry l d).params = e.params ∧
    (e.matchedEntry l d).pending = e.pending ∧ (e.matchedEntry l d).choice = e.choice ∧
    (e.matchedEntry l d).holdList = e.holdList ∧ (e.matchedEntry l d).channels = e.channels ∧
    (e.matchedEntry l d).gate.classes = e.gate.classes ∧ (e.matchedEntry l d).fuel = e.fuel ∧
    (e.matchedEntry l d).wash = e.wash ∧ (e.matchedEntry l d).pullOut = e.pullOut ∧
    (e.matchedEntry l d).field = e.field ∧ (e.matchedEntry l d).commands.tx = e.commands.tx ∧
    (e.matchedEntry l d).office = e.office ∧ (e.matchedEntry l d).fuelDue = e.fuelDue ∧
    (e.matchedEntry l d).washDue = e.washDue ∧ (e.matchedEntry l d).heldBack = e.heldBack ∧
    (e.matchedEntry l d).washBack = e.washBack ∧ (e.matchedEntry l d).washLanesBack = e.washLanesBack ∧
    (e.matchedEntry l d).releasedHere = e.releasedHere := by
  unfold Ev.matchedEntry; dsimp only; (repeat' split) <;> simp

@[simp] theorem Ev.misroute_keeps (e : Ev) (l : Nat) (d : Direction) :
    (e.misroute l d).clock = e.clock ∧ (e.misroute l d).params = e.params ∧ (e.misroute l d).pending = e.pending ∧
    (e.misroute l d).choice = e.choice ∧ (e.misroute l d).holdList = e.holdList ∧
    (e.misroute l d).channels = e.channels ∧ (e.misroute l d).gate.classes = e.gate.classes ∧
    (e.misroute l d).fuel = e.fuel ∧ (e.misroute l d).wash = e.wash ∧ (e.misroute l d).pullOut = e.pullOut ∧
    (e.misroute l d).field = e.field ∧ (e.misroute l d).commands.tx = e.commands.tx ∧
    (e.misroute l d).office = e.office ∧ (e.misroute l d).fuelDue = e.fuelDue ∧
    (e.misroute l d).washDue = e.washDue ∧ (e.misroute l d).heldBack = e.heldBack ∧
    (e.misroute l d).washBack = e.washBack ∧ (e.misroute l d).washLanesBack = e.washLanesBack ∧
    (e.misroute l d).releasedHere = e.releasedHere := by
  unfold Ev.misroute; dsimp only; (repeat' split) <;> simp

@[simp] theorem Ev.unexpectedEntry_keeps (e : Ev) (l : Nat) :
    (e.unexpectedEntry l).clock = e.clock ∧ (e.unexpectedEntry l).params = e.params ∧
    (e.unexpectedEntry l).pending = e.pending ∧ (e.unexpectedEntry l).serial = e.serial ∧
    (e.unexpectedEntry l).choice = e.choice ∧ (e.unexpectedEntry l).holdList = e.holdList ∧
    (e.unexpectedEntry l).channels = e.channels ∧ (e.unexpectedEntry l).nodes = e.nodes ∧
    (e.unexpectedEntry l).gate = e.gate ∧ (e.unexpectedEntry l).laneMap.directions = e.laneMap.directions ∧
    (e.unexpectedEntry l).fuel = e.fuel ∧ (e.unexpectedEntry l).wash = e.wash ∧
    (e.unexpectedEntry l).pullOut = e.pullOut ∧ (e.unexpectedEntry l).field = e.field ∧
    (e.unexpectedEntry l).commands = e.commands ∧ (e.unexpectedEntry l).office = e.office ∧
    (e.unexpectedEntry l).outs = e.outs ∧ (e.unexpectedEntry l).fuelDue = e.fuelDue ∧
    (e.unexpectedEntry l).washDue = e.washDue ∧ (e.unexpectedEntry l).heldBack = e.heldBack ∧
    (e.unexpectedEntry l).washBack = e.washBack ∧ (e.unexpectedEntry l).washLanesBack = e.washLanesBack ∧
    (e.unexpectedEntry l).releasedHere = e.releasedHere := by
  unfold Ev.unexpectedEntry; dsimp only; (repeat' split) <;> simp

@[simp] theorem Ev.entryPassage_keeps (e : Ev) (l : Nat) :
    (e.entryPassage l).clock = e.clock ∧ (e.entryPassage l).params = e.params ∧
    (e.entryPassage l).pending = e.pending ∧ (e.entryPassage l).choice = e.choice ∧
    (e.entryPassage l).holdList = e.holdList ∧ (e.entryPassage l).channels = e.channels ∧
    (e.entryPassage l).gate.classes = e.gate.classes ∧ (e.entryPassage l).fuel = e.fuel ∧
    (e.entryPassage l).wash = e.wash ∧ (e.entryPassage l).pullOut = e.pullOut ∧
    (e.entryPassage l).field = e.field ∧ (e.entryPassage l).commands.tx = e.commands.tx ∧
    (e.entryPassage l).office = e.office ∧ (e.entryPassage l).fuelDue = e.fuelDue ∧
    (e.entryPassage l).washDue = e.washDue ∧ (e.entryPassage l).heldBack = e.heldBack ∧
    (e.entryPassage l).washBack = e.washBack ∧ (e.entryPassage l).washLanesBack = e.washLanesBack ∧
    (e.entryPassage l).releasedHere = e.releasedHere := by
  unfold Ev.entryPassage; (repeat' split) <;> simp

@[simp] theorem Ev.releasedExit_keeps (e : Ev) (l d b : Nat) :
    (e.releasedExit l d b).clock = e.clock ∧ (e.releasedExit l d b).params = e.params ∧
    (e.releasedExit l d b).pending = e.pending ∧ (e.releasedExit l d b).choice = e.choice ∧
    (e.releasedExit l d b).holdList = e.holdList ∧ (e.releasedExit l d b).channels = e.channels ∧
    (e.releasedExit l d b).gate.classes = e.gate.classes ∧
    (e.releasedExit l d b).laneMap.directions = e.laneMap.directions ∧ (e.releasedExit l d b).fuel = e.fuel ∧
    (e.releasedExit l d b).wash = e.wash ∧ (e.releasedExit l d b).field = e.field ∧
    (e.releasedExit l d b).commands.tx = e.commands.tx ∧ (e.releasedExit l d b).office = e.office ∧
    (e.releasedExit l d b).fuelDue = e.fuelDue ∧ (e.releasedExit l d b).washDue = e.washDue ∧
    (e.releasedExit l d b).heldBack = e.heldBack ∧ (e.releasedExit l d b).washBack = e.washBack ∧
    (e.releasedExit l d b).washLanesBack = e.washLanesBack ∧ (e.releasedExit l d b).releasedHere = e.releasedHere := by
  simp [Ev.releasedExit]

@[simp] theorem Ev.exitUnreleased_keeps (e : Ev) (l d : Nat) :
    (e.exitUnreleased l d).clock = e.clock ∧ (e.exitUnreleased l d).params = e.params ∧
    (e.exitUnreleased l d).pending = e.pending ∧ (e.exitUnreleased l d).choice = e.choice ∧
    (e.exitUnreleased l d).holdList = e.holdList ∧ (e.exitUnreleased l d).channels = e.channels ∧
    (e.exitUnreleased l d).gate = e.gate ∧ (e.exitUnreleased l d).laneMap = e.laneMap ∧
    (e.exitUnreleased l d).fuel = e.fuel ∧ (e.exitUnreleased l d).wash = e.wash ∧
    (e.exitUnreleased l d).field = e.field ∧ (e.exitUnreleased l d).commands.tx = e.commands.tx ∧
    (e.exitUnreleased l d).office = e.office ∧ (e.exitUnreleased l d).rerunDue = e.rerunDue ∧
    (e.exitUnreleased l d).fuelDue = e.fuelDue ∧ (e.exitUnreleased l d).washDue = e.washDue ∧
    (e.exitUnreleased l d).pullDue = e.pullDue ∧ (e.exitUnreleased l d).heldBack = e.heldBack ∧
    (e.exitUnreleased l d).washBack = e.washBack ∧ (e.exitUnreleased l d).washLanesBack = e.washLanesBack ∧
    (e.exitUnreleased l d).releasedHere = e.releasedHere := by
  unfold Ev.exitUnreleased; dsimp only; (repeat' split) <;> simp

@[simp] theorem Ev.removeExit_keeps (e : Ev) (l : Nat) :
    (e.removeExit l).clock = e.clock ∧ (e.removeExit l).params = e.params ∧ (e.removeExit l).pending = e.pending ∧
    (e.removeExit l).choice = e.choice ∧ (e.removeExit l).holdList = e.holdList ∧
    (e.removeExit l).channels = e.channels ∧ (e.removeExit l).gate.classes = e.gate.classes ∧
    (e.removeExit l).laneMap.directions = e.laneMap.directions ∧ (e.removeExit l).fuel = e.fuel ∧
    (e.removeExit l).wash = e.wash ∧ (e.removeExit l).field = e.field ∧
    (e.removeExit l).commands.tx = e.commands.tx ∧ (e.removeExit l).office = e.office ∧
    (e.removeExit l).fuelDue = e.fuelDue ∧ (e.removeExit l).washDue = e.washDue ∧
    (e.removeExit l).heldBack = e.heldBack ∧ (e.removeExit l).washBack = e.washBack ∧
    (e.removeExit l).washLanesBack = e.washLanesBack ∧ (e.removeExit l).releasedHere = e.releasedHere := by
  unfold Ev.removeExit; dsimp only; (repeat' split) <;> simp

@[simp] theorem Ev.unexpectedExit_keeps (e : Ev) (l : Nat) :
    (e.unexpectedExit l).clock = e.clock ∧ (e.unexpectedExit l).params = e.params ∧
    (e.unexpectedExit l).pending = e.pending ∧ (e.unexpectedExit l).choice = e.choice ∧
    (e.unexpectedExit l).holdList = e.holdList ∧ (e.unexpectedExit l).channels = e.channels ∧
    (e.unexpectedExit l).gate.classes = e.gate.classes ∧
    (e.unexpectedExit l).laneMap.directions = e.laneMap.directions ∧ (e.unexpectedExit l).fuel = e.fuel ∧
    (e.unexpectedExit l).wash = e.wash ∧ (e.unexpectedExit l).field = e.field ∧
    (e.unexpectedExit l).commands.tx = e.commands.tx ∧ (e.unexpectedExit l).office = e.office ∧
    (e.unexpectedExit l).fuelDue = e.fuelDue ∧ (e.unexpectedExit l).washDue = e.washDue ∧
    (e.unexpectedExit l).heldBack = e.heldBack ∧ (e.unexpectedExit l).washBack = e.washBack ∧
    (e.unexpectedExit l).washLanesBack = e.washLanesBack ∧ (e.unexpectedExit l).releasedHere = e.releasedHere := by
  unfold Ev.unexpectedExit; dsimp only; (repeat' split) <;> simp

@[simp] theorem Ev.exitPassage_keeps (e : Ev) (l : Nat) :
    (e.exitPassage l).clock = e.clock ∧ (e.exitPassage l).params = e.params ∧
    (e.exitPassage l).pending = e.pending ∧ (e.exitPassage l).choice = e.choice ∧
    (e.exitPassage l).holdList = e.holdList ∧ (e.exitPassage l).channels = e.channels ∧
    (e.exitPassage l).gate.classes = e.gate.classes ∧
    (e.exitPassage l).laneMap.directions = e.laneMap.directions ∧ (e.exitPassage l).fuel = e.fuel ∧
    (e.exitPassage l).wash = e.wash ∧ (e.exitPassage l).field = e.field ∧
    (e.exitPassage l).commands.tx = e.commands.tx ∧ (e.exitPassage l).office = e.office ∧
    (e.exitPassage l).fuelDue = e.fuelDue ∧ (e.exitPassage l).washDue = e.washDue ∧
    (e.exitPassage l).heldBack = e.heldBack ∧ (e.exitPassage l).washBack = e.washBack ∧
    (e.exitPassage l).washLanesBack = e.washLanesBack ∧ (e.exitPassage l).releasedHere = e.releasedHere := by
  unfold Ev.exitPassage; (repeat' split) <;> simp

@[simp] theorem Ev.mouthPassage_keeps (e : Ev) (l : Nat) :
    (e.mouthPassage l).clock = e.clock ∧ (e.mouthPassage l).params = e.params ∧
    (e.mouthPassage l).pending = e.pending ∧ (e.mouthPassage l).choice = e.choice ∧
    (e.mouthPassage l).holdList = e.holdList ∧ (e.mouthPassage l).channels = e.channels ∧
    (e.mouthPassage l).gate.classes = e.gate.classes ∧ (e.mouthPassage l).fuel = e.fuel ∧
    (e.mouthPassage l).wash = e.wash ∧ (e.mouthPassage l).field = e.field ∧
    (e.mouthPassage l).commands.tx = e.commands.tx ∧ (e.mouthPassage l).office = e.office ∧
    (e.mouthPassage l).fuelDue = e.fuelDue ∧ (e.mouthPassage l).washDue = e.washDue ∧
    (e.mouthPassage l).heldBack = e.heldBack ∧ (e.mouthPassage l).washBack = e.washBack ∧
    (e.mouthPassage l).washLanesBack = e.washLanesBack ∧ (e.mouthPassage l).releasedHere = e.releasedHere := by
  unfold Ev.mouthPassage; (repeat' split) <;> simp

@[simp] theorem Ev.passage_keeps (e : Ev) (c : Nat) :
    (e.passage c).clock = e.clock ∧ (e.passage c).params = e.params ∧ (e.passage c).pending = e.pending ∧
    (e.passage c).choice = e.choice ∧ (e.passage c).holdList = e.holdList ∧ (e.passage c).channels = e.channels ∧
    (e.passage c).gate.classes = e.gate.classes ∧ (e.passage c).fuel = e.fuel ∧ (e.passage c).wash = e.wash ∧
    (e.passage c).field = e.field ∧ (e.passage c).commands.tx = e.commands.tx ∧ (e.passage c).office = e.office ∧
    (e.passage c).fuelDue = e.fuelDue ∧ (e.passage c).washDue = e.washDue ∧ (e.passage c).heldBack = e.heldBack ∧
    (e.passage c).washBack = e.washBack ∧ (e.passage c).washLanesBack = e.washLanesBack ∧
    (e.passage c).releasedHere = e.releasedHere := by
  unfold Ev.passage; (repeat' split) <;> simp

@[simp] theorem Ev.route_keeps (e : Ev) (b : Nat) :
    (e.route b).clock = e.clock ∧ (e.route b).params = e.params ∧ (e.route b).pending = e.pending ∧
    (e.route b).choice = e.choice ∧ (e.route b).channels = e.channels ∧
    (e.route b).gate.classes = e.gate.classes ∧ (e.route b).laneMap.lanes = e.laneMap.lanes ∧
    (e.route b).fuel.dispensers = e.fuel.dispensers ∧ (e.route b).fuel.stock = e.fuel.stock ∧
    (e.route b).fuel.committed = e.fuel.committed ∧ (e.route b).fuel.belowReserve = e.fuel.belowReserve ∧
    (e.route b).wash.lanes = e.wash.lanes ∧ (e.route b).wash.waived = e.wash.waived ∧
    (e.route b).pullOut.releases = e.pullOut.releases ∧ (e.route b).field = e.field ∧
    (e.route b).commands.tx = e.commands.tx ∧ (e.route b).office = e.office ∧ (e.route b).rerunDue = e.rerunDue ∧
    (e.route b).pullDue = e.pullDue ∧ (e.route b).heldBack = e.heldBack ∧ (e.route b).washBack = e.washBack ∧
    (e.route b).washLanesBack = e.washLanesBack ∧ (e.route b).releasedHere = e.releasedHere := by
  unfold Ev.route; split <;> simp

@[simp] theorem Ev.arrive_keeps (e : Ev) (b : Nat) (level : Option Nat) :
    (e.arrive b level).clock = e.clock ∧ (e.arrive b level).params = e.params ∧
    (e.arrive b level).pending = e.pending ∧ (e.arrive b level).choice = e.choice ∧
    (e.arrive b level).channels = e.channels ∧ (e.arrive b level).gate.classes = e.gate.classes ∧
    (e.arrive b level).laneMap.lanes = e.laneMap.lanes ∧ (e.arrive b level).fuel.dispensers = e.fuel.dispensers ∧
    (e.arrive b level).fuel.stock = e.fuel.stock ∧ (e.arrive b level).fuel.committed = e.fuel.committed ∧
    (e.arrive b level).fuel.belowReserve = e.fuel.belowReserve ∧ (e.arrive b level).wash.lanes = e.wash.lanes ∧
    (e.arrive b level).wash.waived = e.wash.waived ∧ (e.arrive b level).pullOut.releases = e.pullOut.releases ∧
    (e.arrive b level).field = e.field ∧ (e.arrive b level).commands.tx = e.commands.tx ∧
    (e.arrive b level).office = e.office ∧ (e.arrive b level).rerunDue = e.rerunDue ∧
    (e.arrive b level).pullDue = e.pullDue ∧ (e.arrive b level).heldBack = e.heldBack ∧
    (e.arrive b level).washBack = e.washBack ∧ (e.arrive b level).washLanesBack = e.washLanesBack ∧
    (e.arrive b level).releasedHere = e.releasedHere := by
  simp [Ev.arrive]

@[simp] theorem Ev.takeOut_keeps (e : Ev) (b : Nat) :
    (e.takeOut b).clock = e.clock ∧ (e.takeOut b).params = e.params ∧ (e.takeOut b).pending = e.pending ∧
    (e.takeOut b).choice = e.choice ∧ (e.takeOut b).channels = e.channels ∧ (e.takeOut b).gate = e.gate ∧
    (e.takeOut b).fuel.stock = e.fuel.stock ∧ (e.takeOut b).fuel.committed = e.fuel.committed ∧
    (e.takeOut b).fuel.belowReserve = e.fuel.belowReserve ∧ (e.takeOut b).wash.waived = e.wash.waived ∧
    (e.takeOut b).pullOut = e.pullOut ∧ (e.takeOut b).field = e.field ∧
    (e.takeOut b).commands.tx = e.commands.tx ∧ (e.takeOut b).office = e.office ∧
    (e.takeOut b).heldBack = e.heldBack ∧ (e.takeOut b).washBack = e.washBack ∧
    (e.takeOut b).washLanesBack = e.washLanesBack ∧ (e.takeOut b).releasedHere = e.releasedHere := by
  unfold Ev.takeOut; (repeat' split) <;> simp

@[simp] theorem Ev.reappear_keeps (e : Ev) (b : Nat) (level : Option Nat) :
    (e.reappear b level).clock = e.clock ∧ (e.reappear b level).params = e.params ∧
    (e.reappear b level).pending = e.pending ∧ (e.reappear b level).choice = e.choice ∧
    (e.reappear b level).channels = e.channels ∧ (e.reappear b level).gate.classes = e.gate.classes ∧
    (e.reappear b level).fuel.stock = e.fuel.stock ∧ (e.reappear b level).fuel.committed = e.fuel.committed ∧
    (e.reappear b level).fuel.belowReserve = e.fuel.belowReserve ∧
    (e.reappear b level).wash.waived = e.wash.waived ∧ (e.reappear b level).field = e.field ∧
    (e.reappear b level).commands.tx = e.commands.tx ∧ (e.reappear b level).office = e.office ∧
    (e.reappear b level).heldBack = e.heldBack ∧ (e.reappear b level).washBack = e.washBack ∧
    (e.reappear b level).washLanesBack = e.washLanesBack ∧ (e.reappear b level).releasedHere = e.releasedHere := by
  unfold Ev.reappear; dsimp only; (repeat' split) <;> simp

@[simp] theorem Ev.gateIn_keeps (e : Ev) (b : Nat) (level : Option Nat) :
    (e.gateIn b level).clock = e.clock ∧ (e.gateIn b level).params = e.params ∧
    (e.gateIn b level).pending = e.pending ∧ (e.gateIn b level).choice = e.choice ∧
    (e.gateIn b level).channels = e.channels ∧ (e.gateIn b level).gate.classes = e.gate.classes ∧
    (e.gateIn b level).fuel.stock = e.fuel.stock ∧ (e.gateIn b level).fuel.committed = e.fuel.committed ∧
    (e.gateIn b level).fuel.belowReserve = e.fuel.belowReserve ∧ (e.gateIn b level).wash.waived = e.wash.waived ∧
    (e.gateIn b level).field = e.field ∧ (e.gateIn b level).commands.tx = e.commands.tx ∧
    (e.gateIn b level).office = e.office ∧ (e.gateIn b level).heldBack = e.heldBack ∧
    (e.gateIn b level).washBack = e.washBack ∧ (e.gateIn b level).washLanesBack = e.washLanesBack ∧
    (e.gateIn b level).releasedHere = e.releasedHere := by
  unfold Ev.gateIn; split <;> simp

@[simp] theorem Ev.departByRead_keeps (e : Ev) (b : Nat) :
    (e.departByRead b).clock = e.clock ∧ (e.departByRead b).params = e.params ∧
    (e.departByRead b).pending = e.pending ∧ (e.departByRead b).choice = e.choice ∧
    (e.departByRead b).holdList = e.holdList ∧ (e.departByRead b).channels = e.channels ∧
    (e.departByRead b).gate = e.gate ∧ (e.departByRead b).laneMap = e.laneMap ∧ (e.departByRead b).fuel = e.fuel ∧
    (e.departByRead b).wash = e.wash ∧ (e.departByRead b).field = e.field ∧
    (e.departByRead b).commands.tx = e.commands.tx ∧ (e.departByRead b).office = e.office ∧
    (e.departByRead b).rerunDue = e.rerunDue ∧ (e.departByRead b).fuelDue = e.fuelDue ∧
    (e.departByRead b).washDue = e.washDue ∧ (e.departByRead b).pullDue = e.pullDue ∧
    (e.departByRead b).heldBack = e.heldBack ∧ (e.departByRead b).washBack = e.washBack ∧
    (e.departByRead b).washLanesBack = e.washLanesBack ∧ (e.departByRead b).releasedHere = e.releasedHere := by
  unfold Ev.departByRead; split <;> simp

@[simp] theorem Ev.gateOutLeaving_keeps (e : Ev) (b : Nat) :
    (e.gateOutLeaving b).clock = e.clock ∧ (e.gateOutLeaving b).params = e.params ∧
    (e.gateOutLeaving b).pending = e.pending ∧ (e.gateOutLeaving b).choice = e.choice ∧
    (e.gateOutLeaving b).holdList = e.holdList ∧ (e.gateOutLeaving b).channels = e.channels ∧
    (e.gateOutLeaving b).gate.classes = e.gate.classes ∧ (e.gateOutLeaving b).laneMap = e.laneMap ∧
    (e.gateOutLeaving b).fuel = e.fuel ∧ (e.gateOutLeaving b).wash = e.wash ∧
    (e.gateOutLeaving b).field = e.field ∧ (e.gateOutLeaving b).commands.tx = e.commands.tx ∧
    (e.gateOutLeaving b).office = e.office ∧ (e.gateOutLeaving b).rerunDue = e.rerunDue ∧
    (e.gateOutLeaving b).fuelDue = e.fuelDue ∧ (e.gateOutLeaving b).washDue = e.washDue ∧
    (e.gateOutLeaving b).pullDue = e.pullDue ∧ (e.gateOutLeaving b).heldBack = e.heldBack ∧
    (e.gateOutLeaving b).washBack = e.washBack ∧ (e.gateOutLeaving b).washLanesBack = e.washLanesBack ∧
    (e.gateOutLeaving b).releasedHere = e.releasedHere := by
  simp [Ev.gateOutLeaving]

@[simp] theorem Ev.departParked_keeps (e : Ev) (b : Nat) :
    (e.departParked b).clock = e.clock ∧ (e.departParked b).params = e.params ∧
    (e.departParked b).pending = e.pending ∧ (e.departParked b).choice = e.choice ∧
    (e.departParked b).holdList = e.holdList ∧ (e.departParked b).channels = e.channels ∧
    (e.departParked b).gate = e.gate ∧ (e.departParked b).laneMap = e.laneMap ∧ (e.departParked b).fuel = e.fuel ∧
    (e.departParked b).wash = e.wash ∧ (e.departParked b).field = e.field ∧
    (e.departParked b).commands.tx = e.commands.tx ∧ (e.departParked b).office = e.office ∧
    (e.departParked b).rerunDue = e.rerunDue ∧ (e.departParked b).fuelDue = e.fuelDue ∧
    (e.departParked b).washDue = e.washDue ∧ (e.departParked b).pullDue = e.pullDue ∧
    (e.departParked b).heldBack = e.heldBack ∧ (e.departParked b).washBack = e.washBack ∧
    (e.departParked b).washLanesBack = e.washLanesBack ∧ (e.departParked b).releasedHere = e.releasedHere := by
  unfold Ev.departParked; split <;> simp

@[simp] theorem Ev.gateOutParked_keeps (e : Ev) (b l : Nat) :
    (e.gateOutParked b l).clock = e.clock ∧ (e.gateOutParked b l).params = e.params ∧
    (e.gateOutParked b l).pending = e.pending ∧ (e.gateOutParked b l).choice = e.choice ∧
    (e.gateOutParked b l).holdList = e.holdList ∧ (e.gateOutParked b l).channels = e.channels ∧
    (e.gateOutParked b l).gate.classes = e.gate.classes ∧
    (e.gateOutParked b l).laneMap.directions = e.laneMap.directions ∧ (e.gateOutParked b l).fuel = e.fuel ∧
    (e.gateOutParked b l).wash = e.wash ∧ (e.gateOutParked b l).field = e.field ∧
    (e.gateOutParked b l).commands.tx = e.commands.tx ∧ (e.gateOutParked b l).office = e.office ∧
    (e.gateOutParked b l).fuelDue = e.fuelDue ∧ (e.gateOutParked b l).washDue = e.washDue ∧
    (e.gateOutParked b l).heldBack = e.heldBack ∧ (e.gateOutParked b l).washBack = e.washBack ∧
    (e.gateOutParked b l).washLanesBack = e.washLanesBack ∧ (e.gateOutParked b l).releasedHere = e.releasedHere := by
  unfold Ev.gateOutParked; dsimp only; (repeat' split) <;> simp

@[simp] theorem Ev.gateOutOther_keeps (e : Ev) (b : Nat) :
    (e.gateOutOther b).clock = e.clock ∧ (e.gateOutOther b).params = e.params ∧
    (e.gateOutOther b).pending = e.pending ∧ (e.gateOutOther b).choice = e.choice ∧
    (e.gateOutOther b).channels = e.channels ∧ (e.gateOutOther b).gate.classes = e.gate.classes ∧
    (e.gateOutOther b).fuel.stock = e.fuel.stock ∧ (e.gateOutOther b).fuel.committed = e.fuel.committed ∧
    (e.gateOutOther b).fuel.belowReserve = e.fuel.belowReserve ∧ (e.gateOutOther b).wash.waived = e.wash.waived ∧
    (e.gateOutOther b).field = e.field ∧ (e.gateOutOther b).commands.tx = e.commands.tx ∧
    (e.gateOutOther b).office = e.office ∧ (e.gateOutOther b).heldBack = e.heldBack ∧
    (e.gateOutOther b).washBack = e.washBack ∧ (e.gateOutOther b).washLanesBack = e.washLanesBack ∧
    (e.gateOutOther b).releasedHere = e.releasedHere := by
  simp [Ev.gateOutOther]

@[simp] theorem Ev.gateOutOut_keeps (e : Ev) (b : Nat) :
    (e.gateOutOut b).clock = e.clock ∧ (e.gateOutOut b).params = e.params ∧ (e.gateOutOut b).pending = e.pending ∧
    (e.gateOutOut b).serial = e.serial ∧ (e.gateOutOut b).choice = e.choice ∧
    (e.gateOutOut b).holdList = e.holdList ∧ (e.gateOutOut b).channels = e.channels ∧
    (e.gateOutOut b).nodes = e.nodes ∧ (e.gateOutOut b).gate.classes = e.gate.classes ∧
    (e.gateOutOut b).laneMap = e.laneMap ∧ (e.gateOutOut b).fuel = e.fuel ∧ (e.gateOutOut b).wash = e.wash ∧
    (e.gateOutOut b).pullOut = e.pullOut ∧ (e.gateOutOut b).field = e.field ∧
    (e.gateOutOut b).commands = e.commands ∧ (e.gateOutOut b).office = e.office ∧ (e.gateOutOut b).outs = e.outs ∧
    (e.gateOutOut b).rerunDue = e.rerunDue ∧ (e.gateOutOut b).fuelDue = e.fuelDue ∧
    (e.gateOutOut b).washDue = e.washDue ∧ (e.gateOutOut b).pullDue = e.pullDue ∧
    (e.gateOutOut b).heldBack = e.heldBack ∧ (e.gateOutOut b).washBack = e.washBack ∧
    (e.gateOutOut b).washLanesBack = e.washLanesBack ∧ (e.gateOutOut b).releasedHere = e.releasedHere := by
  simp [Ev.gateOutOut]

@[simp] theorem Ev.gateOut_keeps (e : Ev) (b : Nat) :
    (e.gateOut b).clock = e.clock ∧ (e.gateOut b).params = e.params ∧ (e.gateOut b).pending = e.pending ∧
    (e.gateOut b).choice = e.choice ∧ (e.gateOut b).channels = e.channels ∧
    (e.gateOut b).gate.classes = e.gate.classes ∧ (e.gateOut b).fuel.stock = e.fuel.stock ∧
    (e.gateOut b).fuel.committed = e.fuel.committed ∧ (e.gateOut b).fuel.belowReserve = e.fuel.belowReserve ∧
    (e.gateOut b).wash.waived = e.wash.waived ∧ (e.gateOut b).field = e.field ∧
    (e.gateOut b).commands.tx = e.commands.tx ∧ (e.gateOut b).office = e.office ∧
    (e.gateOut b).heldBack = e.heldBack ∧ (e.gateOut b).washBack = e.washBack ∧
    (e.gateOut b).washLanesBack = e.washLanesBack ∧ (e.gateOut b).releasedHere = e.releasedHere := by
  unfold Ev.gateOut; split <;> simp

@[simp] theorem Ev.stranger_keeps (e : Ev) (reader code : Nat) :
    (e.stranger reader code).clock = e.clock ∧ (e.stranger reader code).params = e.params ∧
    (e.stranger reader code).pending = e.pending ∧ (e.stranger reader code).serial = e.serial ∧
    (e.stranger reader code).choice = e.choice ∧ (e.stranger reader code).holdList = e.holdList ∧
    (e.stranger reader code).channels = e.channels ∧ (e.stranger reader code).nodes = e.nodes ∧
    (e.stranger reader code).gate = e.gate ∧ (e.stranger reader code).laneMap = e.laneMap ∧
    (e.stranger reader code).fuel = e.fuel ∧ (e.stranger reader code).wash = e.wash ∧
    (e.stranger reader code).pullOut = e.pullOut ∧ (e.stranger reader code).field = e.field ∧
    (e.stranger reader code).commands = e.commands ∧ (e.stranger reader code).office = e.office ∧
    (e.stranger reader code).outs = e.outs ∧ (e.stranger reader code).rerunDue = e.rerunDue ∧
    (e.stranger reader code).fuelDue = e.fuelDue ∧ (e.stranger reader code).washDue = e.washDue ∧
    (e.stranger reader code).pullDue = e.pullDue ∧ (e.stranger reader code).heldBack = e.heldBack ∧
    (e.stranger reader code).washBack = e.washBack ∧ (e.stranger reader code).washLanesBack = e.washLanesBack ∧
    (e.stranger reader code).releasedHere = e.releasedHere := by
  simp [Ev.stranger]

@[simp] theorem Ev.takeTag_keeps (e : Ev) (source : Nat) (role : Role) (code : Nat) (level : Option Nat) :
    (e.takeTag source role code level).clock = e.clock ∧ (e.takeTag source role code level).params = e.params ∧
    (e.takeTag source role code level).pending = e.pending ∧
    (e.takeTag source role code level).choice = e.choice ∧
    (e.takeTag source role code level).channels = e.channels ∧
    (e.takeTag source role code level).gate.classes = e.gate.classes ∧
    (e.takeTag source role code level).fuel.stock = e.fuel.stock ∧
    (e.takeTag source role code level).fuel.committed = e.fuel.committed ∧
    (e.takeTag source role code level).fuel.belowReserve = e.fuel.belowReserve ∧
    (e.takeTag source role code level).wash.waived = e.wash.waived ∧
    (e.takeTag source role code level).field = e.field ∧
    (e.takeTag source role code level).commands.tx = e.commands.tx ∧
    (e.takeTag source role code level).office = e.office ∧
    (e.takeTag source role code level).heldBack = e.heldBack ∧
    (e.takeTag source role code level).washBack = e.washBack ∧
    (e.takeTag source role code level).washLanesBack = e.washLanesBack ∧
    (e.takeTag source role code level).releasedHere = e.releasedHere := by
  unfold Ev.takeTag; (repeat' split) <;> simp

@[simp] theorem Ev.leavingExpires_keeps (e : Ev) (b : Nat) :
    (e.leavingExpires b).clock = e.clock ∧ (e.leavingExpires b).params = e.params ∧
    (e.leavingExpires b).pending = e.pending ∧ (e.leavingExpires b).choice = e.choice ∧
    (e.leavingExpires b).holdList = e.holdList ∧ (e.leavingExpires b).channels = e.channels ∧
    (e.leavingExpires b).gate.classes = e.gate.classes ∧ (e.leavingExpires b).laneMap = e.laneMap ∧
    (e.leavingExpires b).fuel = e.fuel ∧ (e.leavingExpires b).wash = e.wash ∧
    (e.leavingExpires b).field = e.field ∧ (e.leavingExpires b).commands.tx = e.commands.tx ∧
    (e.leavingExpires b).office = e.office ∧ (e.leavingExpires b).rerunDue = e.rerunDue ∧
    (e.leavingExpires b).fuelDue = e.fuelDue ∧ (e.leavingExpires b).washDue = e.washDue ∧
    (e.leavingExpires b).pullDue = e.pullDue ∧ (e.leavingExpires b).heldBack = e.heldBack ∧
    (e.leavingExpires b).washBack = e.washBack ∧ (e.leavingExpires b).washLanesBack = e.washLanesBack ∧
    (e.leavingExpires b).releasedHere = e.releasedHere := by
  simp [Ev.leavingExpires]

@[simp] theorem Ev.dayStart_keeps (e : Ev) :
    e.dayStart.clock = e.clock ∧ e.dayStart.params = e.params ∧ e.dayStart.pending = e.pending ∧
    e.dayStart.serial = e.serial ∧ e.dayStart.choice = e.choice ∧ e.dayStart.holdList = e.holdList ∧
    e.dayStart.channels = e.channels ∧ e.dayStart.nodes = e.nodes ∧ e.dayStart.counters = e.counters ∧
    e.dayStart.gate.classes = e.gate.classes ∧ e.dayStart.laneMap = e.laneMap ∧ e.dayStart.fuel = e.fuel ∧
    e.dayStart.wash = e.wash ∧ e.dayStart.pullOut.releases = e.pullOut.releases ∧ e.dayStart.field = e.field ∧
    e.dayStart.commands = e.commands ∧ e.dayStart.notices = e.notices ∧ e.dayStart.office = e.office ∧
    e.dayStart.outs = e.outs ∧ e.dayStart.rerunDue = e.rerunDue ∧ e.dayStart.fuelDue = e.fuelDue ∧
    e.dayStart.washDue = e.washDue ∧ e.dayStart.pullDue = e.pullDue ∧ e.dayStart.heldBack = e.heldBack ∧
    e.dayStart.washBack = e.washBack ∧ e.dayStart.washLanesBack = e.washLanesBack ∧
    e.dayStart.releasedHere = e.releasedHere := by
  simp [Ev.dayStart]

end Sys2Proof.Machine
end

