-- ==== Sys2Proof/Laws/KeepsOutcomes.lean ====
section
/-! SUPPORT. What the outcomes delivered in an event leave as it was. -/

namespace Sys2Proof.Machine

@[simp] theorem Ev.directionOutcome_keeps (e : Ev) (ticket : Nat) (r : Result3) :
    (e.directionOutcome ticket r).clock = e.clock ∧ (e.directionOutcome ticket r).params = e.params ∧
    (e.directionOutcome ticket r).pending = e.pending ∧ (e.directionOutcome ticket r).choice = e.choice ∧
    (e.directionOutcome ticket r).channels = e.channels ∧
    (e.directionOutcome ticket r).gate.classes = e.gate.classes ∧
    (e.directionOutcome ticket r).laneMap.lanes = e.laneMap.lanes ∧ (e.directionOutcome ticket r).fuel = e.fuel ∧
    (e.directionOutcome ticket r).wash = e.wash ∧ (e.directionOutcome ticket r).pullOut = e.pullOut ∧
    (e.directionOutcome ticket r).field = e.field ∧ (e.directionOutcome ticket r).commands.tx = e.commands.tx ∧
    (e.directionOutcome ticket r).office = e.office ∧ (e.directionOutcome ticket r).fuelDue = e.fuelDue ∧
    (e.directionOutcome ticket r).washDue = e.washDue ∧ (e.directionOutcome ticket r).pullDue = e.pullDue ∧
    (e.directionOutcome ticket r).washBack = e.washBack ∧
    (e.directionOutcome ticket r).washLanesBack = e.washLanesBack ∧
    (e.directionOutcome ticket r).releasedHere = e.releasedHere := by
  unfold Ev.directionOutcome; dsimp only; (repeat' split) <;> simp

@[simp] theorem Ev.bayCallOutcome_keeps (e : Ev) (d ticket : Nat) (r : Result3) :
    (e.bayCallOutcome d ticket r).clock = e.clock ∧ (e.bayCallOutcome d ticket r).params = e.params ∧
    (e.bayCallOutcome d ticket r).pending = e.pending ∧ (e.bayCallOutcome d ticket r).choice = e.choice ∧
    (e.bayCallOutcome d ticket r).channels = e.channels ∧
    (e.bayCallOutcome d ticket r).gate.classes = e.gate.classes ∧
    (e.bayCallOutcome d ticket r).laneMap.lanes = e.laneMap.lanes ∧
    (e.bayCallOutcome d ticket r).fuel.stock = e.fuel.stock ∧
    (e.bayCallOutcome d ticket r).fuel.committed = e.fuel.committed ∧
    (e.bayCallOutcome d ticket r).fuel.belowReserve = e.fuel.belowReserve ∧
    (e.bayCallOutcome d ticket r).wash.lanes = e.wash.lanes ∧
    (e.bayCallOutcome d ticket r).wash.waived = e.wash.waived ∧
    (e.bayCallOutcome d ticket r).pullOut.releases = e.pullOut.releases ∧
    (e.bayCallOutcome d ticket r).field = e.field ∧ (e.bayCallOutcome d ticket r).commands.tx = e.commands.tx ∧
    (e.bayCallOutcome d ticket r).office = e.office ∧ (e.bayCallOutcome d ticket r).rerunDue = e.rerunDue ∧
    (e.bayCallOutcome d ticket r).pullDue = e.pullDue ∧ (e.bayCallOutcome d ticket r).heldBack = e.heldBack ∧
    (e.bayCallOutcome d ticket r).washBack = e.washBack ∧
    (e.bayCallOutcome d ticket r).washLanesBack = e.washLanesBack ∧
    (e.bayCallOutcome d ticket r).releasedHere = e.releasedHere := by
  unfold Ev.bayCallOutcome; split <;> simp

@[simp] theorem Ev.grantOutcome_keeps (e : Ev) (d ticket : Nat) (r : Result3) :
    (e.grantOutcome d ticket r).clock = e.clock ∧ (e.grantOutcome d ticket r).params = e.params ∧
    (e.grantOutcome d ticket r).pending = e.pending ∧ (e.grantOutcome d ticket r).choice = e.choice ∧
    (e.grantOutcome d ticket r).channels = e.channels ∧
    (e.grantOutcome d ticket r).gate.classes = e.gate.classes ∧
    (e.grantOutcome d ticket r).laneMap.lanes = e.laneMap.lanes ∧
    (e.grantOutcome d ticket r).fuel.stock = e.fuel.stock ∧
    (e.grantOutcome d ticket r).wash.lanes = e.wash.lanes ∧
    (e.grantOutcome d ticket r).wash.waived = e.wash.waived ∧
    (e.grantOutcome d ticket r).pullOut.releases = e.pullOut.releases ∧
    (e.grantOutcome d ticket r).field = e.field ∧ (e.grantOutcome d ticket r).commands.tx = e.commands.tx ∧
    (e.grantOutcome d ticket r).office = e.office ∧ (e.grantOutcome d ticket r).rerunDue = e.rerunDue ∧
    (e.grantOutcome d ticket r).pullDue = e.pullDue ∧ (e.grantOutcome d ticket r).heldBack = e.heldBack ∧
    (e.grantOutcome d ticket r).washBack = e.washBack ∧
    (e.grantOutcome d ticket r).washLanesBack = e.washLanesBack ∧
    (e.grantOutcome d ticket r).releasedHere = e.releasedHere := by
  unfold Ev.grantOutcome; (repeat' split) <;> simp

@[simp] theorem Ev.washCallOutcome_keeps (e : Ev) (w ticket : Nat) (r : Result3) :
    (e.washCallOutcome w ticket r).clock = e.clock ∧ (e.washCallOutcome w ticket r).params = e.params ∧
    (e.washCallOutcome w ticket r).pending = e.pending ∧ (e.washCallOutcome w ticket r).choice = e.choice ∧
    (e.washCallOutcome w ticket r).channels = e.channels ∧
    (e.washCallOutcome w ticket r).gate.classes = e.gate.classes ∧
    (e.washCallOutcome w ticket r).laneMap.lanes = e.laneMap.lanes ∧
    (e.washCallOutcome w ticket r).fuel = e.fuel ∧ (e.washCallOutcome w ticket r).wash.waived = e.wash.waived ∧
    (e.washCallOutcome w ticket r).pullOut.releases = e.pullOut.releases ∧
    (e.washCallOutcome w ticket r).field = e.field ∧ (e.washCallOutcome w ticket r).commands.tx = e.commands.tx ∧
    (e.washCallOutcome w ticket r).office = e.office ∧ (e.washCallOutcome w ticket r).rerunDue = e.rerunDue ∧
    (e.washCallOutcome w ticket r).fuelDue = e.fuelDue ∧ (e.washCallOutcome w ticket r).pullDue = e.pullDue ∧
    (e.washCallOutcome w ticket r).heldBack = e.heldBack ∧
    (e.washCallOutcome w ticket r).releasedHere = e.releasedHere := by
  unfold Ev.washCallOutcome; split <;> simp

@[simp] theorem Ev.washGoOutcome_keeps (e : Ev) (w ticket : Nat) (r : Result3) :
    (e.washGoOutcome w ticket r).clock = e.clock ∧ (e.washGoOutcome w ticket r).params = e.params ∧
    (e.washGoOutcome w ticket r).pending = e.pending ∧ (e.washGoOutcome w ticket r).choice = e.choice ∧
    (e.washGoOutcome w ticket r).channels = e.channels ∧
    (e.washGoOutcome w ticket r).gate.classes = e.gate.classes ∧
    (e.washGoOutcome w ticket r).laneMap.lanes = e.laneMap.lanes ∧ (e.washGoOutcome w ticket r).fuel = e.fuel ∧
    (e.washGoOutcome w ticket r).wash.waived = e.wash.waived ∧
    (e.washGoOutcome w ticket r).pullOut.releases = e.pullOut.releases ∧
    (e.washGoOutcome w ticket r).field = e.field ∧ (e.washGoOutcome w ticket r).commands.tx = e.commands.tx ∧
    (e.washGoOutcome w ticket r).office = e.office ∧ (e.washGoOutcome w ticket r).rerunDue = e.rerunDue ∧
    (e.washGoOutcome w ticket r).fuelDue = e.fuelDue ∧ (e.washGoOutcome w ticket r).pullDue = e.pullDue ∧
    (e.washGoOutcome w ticket r).heldBack = e.heldBack ∧ (e.washGoOutcome w ticket r).washBack = e.washBack ∧
    (e.washGoOutcome w ticket r).washLanesBack = e.washLanesBack ∧
    (e.washGoOutcome w ticket r).releasedHere = e.releasedHere := by
  unfold Ev.washGoOutcome; split <;> simp

@[simp] theorem Ev.proceedDone_keeps (e : Ev) (l d : Nat) (r : ReleaseRec) :
    (e.proceedDone l d r).clock = e.clock ∧ (e.proceedDone l d r).params = e.params ∧
    (e.proceedDone l d r).pending = e.pending ∧ (e.proceedDone l d r).serial = e.serial ∧
    (e.proceedDone l d r).choice = e.choice ∧ (e.proceedDone l d r).holdList = e.holdList ∧
    (e.proceedDone l d r).channels = e.channels ∧ (e.proceedDone l d r).nodes = e.nodes ∧
    (e.proceedDone l d r).gate = e.gate ∧ (e.proceedDone l d r).laneMap = e.laneMap ∧
    (e.proceedDone l d r).fuel = e.fuel ∧ (e.proceedDone l d r).wash = e.wash ∧
    (e.proceedDone l d r).field = e.field ∧ (e.proceedDone l d r).commands = e.commands ∧
    (e.proceedDone l d r).office = e.office ∧ (e.proceedDone l d r).outs = e.outs ∧
    (e.proceedDone l d r).rerunDue = e.rerunDue ∧ (e.proceedDone l d r).fuelDue = e.fuelDue ∧
    (e.proceedDone l d r).washDue = e.washDue ∧ (e.proceedDone l d r).pullDue = e.pullDue ∧
    (e.proceedDone l d r).heldBack = e.heldBack ∧ (e.proceedDone l d r).washBack = e.washBack ∧
    (e.proceedDone l d r).washLanesBack = e.washLanesBack ∧ (e.proceedDone l d r).releasedHere = e.releasedHere := by
  simp [Ev.proceedDone]

@[simp] theorem Ev.proceedFailed_keeps (e : Ev) (l d : Nat) :
    (e.proceedFailed l d).clock = e.clock ∧ (e.proceedFailed l d).params = e.params ∧
    (e.proceedFailed l d).pending = e.pending ∧ (e.proceedFailed l d).serial = e.serial ∧
    (e.proceedFailed l d).choice = e.choice ∧ (e.proceedFailed l d).holdList = e.holdList ∧
    (e.proceedFailed l d).channels = e.channels ∧ (e.proceedFailed l d).nodes = e.nodes ∧
    (e.proceedFailed l d).counters = e.counters ∧ (e.proceedFailed l d).gate = e.gate ∧
    (e.proceedFailed l d).laneMap = e.laneMap ∧ (e.proceedFailed l d).fuel = e.fuel ∧
    (e.proceedFailed l d).wash = e.wash ∧ (e.proceedFailed l d).field = e.field ∧
    (e.proceedFailed l d).commands = e.commands ∧ (e.proceedFailed l d).notices = e.notices ∧
    (e.proceedFailed l d).office = e.office ∧ (e.proceedFailed l d).outs = e.outs ∧
    (e.proceedFailed l d).rerunDue = e.rerunDue ∧ (e.proceedFailed l d).fuelDue = e.fuelDue ∧
    (e.proceedFailed l d).washDue = e.washDue ∧ (e.proceedFailed l d).heldBack = e.heldBack ∧
    (e.proceedFailed l d).washBack = e.washBack ∧ (e.proceedFailed l d).washLanesBack = e.washLanesBack ∧
    (e.proceedFailed l d).releasedHere = e.releasedHere := by
  simp [Ev.proceedFailed]

@[simp] theorem Ev.releaseOutcome_keeps (e : Ev) (l ticket : Nat) (result : Result3) :
    (e.releaseOutcome l ticket result).clock = e.clock ∧ (e.releaseOutcome l ticket result).params = e.params ∧
    (e.releaseOutcome l ticket result).pending = e.pending ∧
    (e.releaseOutcome l ticket result).serial = e.serial ∧ (e.releaseOutcome l ticket result).choice = e.choice ∧
    (e.releaseOutcome l ticket result).holdList = e.holdList ∧
    (e.releaseOutcome l ticket result).channels = e.channels ∧
    (e.releaseOutcome l ticket result).nodes = e.nodes ∧ (e.releaseOutcome l ticket result).gate = e.gate ∧
    (e.releaseOutcome l ticket result).laneMap = e.laneMap ∧ (e.releaseOutcome l ticket result).fuel = e.fuel ∧
    (e.releaseOutcome l ticket result).wash = e.wash ∧ (e.releaseOutcome l ticket result).field = e.field ∧
    (e.releaseOutcome l ticket result).commands = e.commands ∧
    (e.releaseOutcome l ticket result).office = e.office ∧ (e.releaseOutcome l ticket result).outs = e.outs ∧
    (e.releaseOutcome l ticket result).rerunDue = e.rerunDue ∧
    (e.releaseOutcome l ticket result).fuelDue = e.fuelDue ∧
    (e.releaseOutcome l ticket result).washDue = e.washDue ∧
    (e.releaseOutcome l ticket result).heldBack = e.heldBack ∧
    (e.releaseOutcome l ticket result).washBack = e.washBack ∧
    (e.releaseOutcome l ticket result).washLanesBack = e.washLanesBack ∧
    (e.releaseOutcome l ticket result).releasedHere = e.releasedHere := by
  unfold Ev.releaseOutcome; (repeat' split) <;> simp

@[simp] theorem Ev.stopOutcome_keeps (e : Ev) (l ticket : Nat) (result : Result3) :
    (e.stopOutcome l ticket result).clock = e.clock ∧ (e.stopOutcome l ticket result).params = e.params ∧
    (e.stopOutcome l ticket result).pending = e.pending ∧ (e.stopOutcome l ticket result).serial = e.serial ∧
    (e.stopOutcome l ticket result).choice = e.choice ∧ (e.stopOutcome l ticket result).holdList = e.holdList ∧
    (e.stopOutcome l ticket result).channels = e.channels ∧ (e.stopOutcome l ticket result).nodes = e.nodes ∧
    (e.stopOutcome l ticket result).gate = e.gate ∧ (e.stopOutcome l ticket result).laneMap = e.laneMap ∧
    (e.stopOutcome l ticket result).fuel = e.fuel ∧ (e.stopOutcome l ticket result).wash = e.wash ∧
    (e.stopOutcome l ticket result).pullOut.duties = e.pullOut.duties ∧
    (e.stopOutcome l ticket result).field = e.field ∧ (e.stopOutcome l ticket result).commands = e.commands ∧
    (e.stopOutcome l ticket result).office = e.office ∧ (e.stopOutcome l ticket result).outs = e.outs ∧
    (e.stopOutcome l ticket result).rerunDue = e.rerunDue ∧ (e.stopOutcome l ticket result).fuelDue = e.fuelDue ∧
    (e.stopOutcome l ticket result).washDue = e.washDue ∧ (e.stopOutcome l ticket result).heldBack = e.heldBack ∧
    (e.stopOutcome l ticket result).washBack = e.washBack ∧
    (e.stopOutcome l ticket result).washLanesBack = e.washLanesBack ∧
    (e.stopOutcome l ticket result).releasedHere = e.releasedHere := by
  unfold Ev.stopOutcome; dsimp only; (repeat' split) <;> simp

@[simp] theorem Ev.forwardOutcome_keeps (e : Ev) (destination : Nat) (kind : CommandKind) (result : Result3) :
    (e.forwardOutcome destination kind result).clock = e.clock ∧
    (e.forwardOutcome destination kind result).params = e.params ∧
    (e.forwardOutcome destination kind result).pending = e.pending ∧
    (e.forwardOutcome destination kind result).serial = e.serial ∧
    (e.forwardOutcome destination kind result).choice = e.choice ∧
    (e.forwardOutcome destination kind result).holdList = e.holdList ∧
    (e.forwardOutcome destination kind result).channels = e.channels ∧
    (e.forwardOutcome destination kind result).nodes = e.nodes ∧
    (e.forwardOutcome destination kind result).gate = e.gate ∧
    (e.forwardOutcome destination kind result).laneMap = e.laneMap ∧
    (e.forwardOutcome destination kind result).fuel = e.fuel ∧
    (e.forwardOutcome destination kind result).wash = e.wash ∧
    (e.forwardOutcome destination kind result).pullOut = e.pullOut ∧
    (e.forwardOutcome destination kind result).field = e.field ∧
    (e.forwardOutcome destination kind result).commands = e.commands ∧
    (e.forwardOutcome destination kind result).office = e.office ∧
    (e.forwardOutcome destination kind result).outs = e.outs ∧
    (e.forwardOutcome destination kind result).rerunDue = e.rerunDue ∧
    (e.forwardOutcome destination kind result).fuelDue = e.fuelDue ∧
    (e.forwardOutcome destination kind result).washDue = e.washDue ∧
    (e.forwardOutcome destination kind result).pullDue = e.pullDue ∧
    (e.forwardOutcome destination kind result).heldBack = e.heldBack ∧
    (e.forwardOutcome destination kind result).washBack = e.washBack ∧
    (e.forwardOutcome destination kind result).washLanesBack = e.washLanesBack ∧
    (e.forwardOutcome destination kind result).releasedHere = e.releasedHere := by
  simp [Ev.forwardOutcome]

@[simp] theorem Ev.countOutcome_keeps (e : Ev) (r : Result3) :
    (e.countOutcome r).clock = e.clock ∧ (e.countOutcome r).params = e.params ∧
    (e.countOutcome r).pending = e.pending ∧ (e.countOutcome r).serial = e.serial ∧
    (e.countOutcome r).choice = e.choice ∧ (e.countOutcome r).holdList = e.holdList ∧
    (e.countOutcome r).channels = e.channels ∧ (e.countOutcome r).nodes = e.nodes ∧
    (e.countOutcome r).gate = e.gate ∧ (e.countOutcome r).laneMap = e.laneMap ∧ (e.countOutcome r).fuel = e.fuel ∧
    (e.countOutcome r).wash = e.wash ∧ (e.countOutcome r).pullOut = e.pullOut ∧
    (e.countOutcome r).field = e.field ∧ (e.countOutcome r).commands = e.commands ∧
    (e.countOutcome r).notices = e.notices ∧ (e.countOutcome r).office = e.office ∧
    (e.countOutcome r).outs = e.outs ∧ (e.countOutcome r).rerunDue = e.rerunDue ∧
    (e.countOutcome r).fuelDue = e.fuelDue ∧ (e.countOutcome r).washDue = e.washDue ∧
    (e.countOutcome r).pullDue = e.pullDue ∧ (e.countOutcome r).heldBack = e.heldBack ∧
    (e.countOutcome r).washBack = e.washBack ∧ (e.countOutcome r).washLanesBack = e.washLanesBack ∧
    (e.countOutcome r).releasedHere = e.releasedHere := by
  simp [Ev.countOutcome]

@[simp] theorem Ev.deliver_keeps (e : Ev) (x : Decided) :
    (e.deliver x).clock = e.clock ∧ (e.deliver x).params = e.params ∧ (e.deliver x).pending = e.pending ∧
    (e.deliver x).choice = e.choice ∧ (e.deliver x).channels = e.channels ∧
    (e.deliver x).gate.classes = e.gate.classes ∧ (e.deliver x).laneMap.lanes = e.laneMap.lanes ∧
    (e.deliver x).fuel.stock = e.fuel.stock ∧ (e.deliver x).wash.waived = e.wash.waived ∧
    (e.deliver x).field = e.field ∧ (e.deliver x).commands.tx = e.commands.tx ∧ (e.deliver x).office = e.office ∧
    (e.deliver x).releasedHere = e.releasedHere := by
  unfold Ev.deliver; split <;> simp

theorem Ev.drainFor_keeps (n : Nat) (e : Ev) :
    (e.drainFor n).clock = e.clock ∧ (e.drainFor n).params = e.params ∧ (e.drainFor n).pending = e.pending ∧
    (e.drainFor n).choice = e.choice ∧ (e.drainFor n).channels = e.channels ∧
    (e.drainFor n).gate.classes = e.gate.classes ∧ (e.drainFor n).laneMap.lanes = e.laneMap.lanes ∧
    (e.drainFor n).fuel.stock = e.fuel.stock ∧ (e.drainFor n).wash.waived = e.wash.waived ∧
    (e.drainFor n).field = e.field ∧ (e.drainFor n).commands.tx = e.commands.tx ∧
    (e.drainFor n).office = e.office ∧ (e.drainFor n).releasedHere = e.releasedHere := by
  induction n generalizing e with
  | zero => simp [Ev.drainFor]
  | succ n ih =>
    unfold Ev.drainFor
    split
    · simp
    · rename_i x xs _
      have h := ih (Ev.deliver { e with outs := xs } x)
      simpa using h

@[simp] theorem Ev.drain_keeps (e : Ev) :
    e.drain.clock = e.clock ∧ e.drain.params = e.params ∧ e.drain.pending = e.pending ∧
    e.drain.choice = e.choice ∧ e.drain.channels = e.channels ∧ e.drain.gate.classes = e.gate.classes ∧
    e.drain.laneMap.lanes = e.laneMap.lanes ∧ e.drain.fuel.stock = e.fuel.stock ∧
    e.drain.wash.waived = e.wash.waived ∧ e.drain.field = e.field ∧ e.drain.commands.tx = e.commands.tx ∧
    e.drain.office = e.office ∧ e.drain.releasedHere = e.releasedHere := Ev.drainFor_keeps drainBound e

end Sys2Proof.Machine
end

