-- ==== Sys2Proof/Laws/KeepsDetectors.lean ====
section
/-! SUPPORT. What each operation of the detector filter bank leaves as it was. -/

namespace Sys2Proof.Machine

@[simp] theorem Ev.tellOccupied_keeps (e : Ev) (c : Nat) :
    (e.tellOccupied c).clock = e.clock ∧ (e.tellOccupied c).params = e.params ∧
    (e.tellOccupied c).pending = e.pending ∧ (e.tellOccupied c).choice = e.choice ∧
    (e.tellOccupied c).holdList = e.holdList ∧ (e.tellOccupied c).channels = e.channels ∧
    (e.tellOccupied c).gate = e.gate ∧ (e.tellOccupied c).laneMap = e.laneMap ∧
    (e.tellOccupied c).fuel.queue = e.fuel.queue ∧ (e.tellOccupied c).fuel.stock = e.fuel.stock ∧
    (e.tellOccupied c).fuel.committed = e.fuel.committed ∧
    (e.tellOccupied c).fuel.belowReserve = e.fuel.belowReserve ∧ (e.tellOccupied c).wash = e.wash ∧
    (e.tellOccupied c).pullOut = e.pullOut ∧ (e.tellOccupied c).field = e.field ∧
    (e.tellOccupied c).commands.tx = e.commands.tx ∧ (e.tellOccupied c).office = e.office ∧
    (e.tellOccupied c).rerunDue = e.rerunDue ∧ (e.tellOccupied c).fuelDue = e.fuelDue ∧
    (e.tellOccupied c).washDue = e.washDue ∧ (e.tellOccupied c).pullDue = e.pullDue ∧
    (e.tellOccupied c).heldBack = e.heldBack ∧ (e.tellOccupied c).washBack = e.washBack ∧
    (e.tellOccupied c).washLanesBack = e.washLanesBack ∧ (e.tellOccupied c).releasedHere = e.releasedHere := by
  unfold Ev.tellOccupied; split <;> simp

@[simp] theorem Ev.tellVacant_keeps (e : Ev) (c : Nat) (accepted : Bool) :
    (e.tellVacant c accepted).clock = e.clock ∧ (e.tellVacant c accepted).params = e.params ∧
    (e.tellVacant c accepted).pending = e.pending ∧ (e.tellVacant c accepted).choice = e.choice ∧
    (e.tellVacant c accepted).channels = e.channels ∧ (e.tellVacant c accepted).gate.classes = e.gate.classes ∧
    (e.tellVacant c accepted).fuel.queue = e.fuel.queue ∧ (e.tellVacant c accepted).fuel.stock = e.fuel.stock ∧
    (e.tellVacant c accepted).fuel.committed = e.fuel.committed ∧
    (e.tellVacant c accepted).fuel.belowReserve = e.fuel.belowReserve ∧
    (e.tellVacant c accepted).wash.lanes = e.wash.lanes ∧ (e.tellVacant c accepted).wash.waived = e.wash.waived ∧
    (e.tellVacant c accepted).field = e.field ∧ (e.tellVacant c accepted).commands.tx = e.commands.tx ∧
    (e.tellVacant c accepted).office = e.office ∧ (e.tellVacant c accepted).heldBack = e.heldBack ∧
    (e.tellVacant c accepted).washBack = e.washBack ∧ (e.tellVacant c accepted).washLanesBack = e.washLanesBack ∧
    (e.tellVacant c accepted).releasedHere = e.releasedHere := by
  unfold Ev.tellVacant; (repeat' split) <;> simp

@[simp] theorem Ev.tellFault_keeps (e : Ev) (before : State) (c : Nat) :
    (e.tellFault before c).clock = e.clock ∧ (e.tellFault before c).params = e.params ∧
    (e.tellFault before c).pending = e.pending ∧ (e.tellFault before c).choice = e.choice ∧
    (e.tellFault before c).channels = e.channels ∧ (e.tellFault before c).gate.classes = e.gate.classes ∧
    (e.tellFault before c).laneMap.lanes = e.laneMap.lanes ∧ (e.tellFault before c).fuel.stock = e.fuel.stock ∧
    (e.tellFault before c).fuel.committed = e.fuel.committed ∧
    (e.tellFault before c).fuel.belowReserve = e.fuel.belowReserve ∧
    (e.tellFault before c).wash.lanes = e.wash.lanes ∧ (e.tellFault before c).wash.waived = e.wash.waived ∧
    (e.tellFault before c).pullOut.releases = e.pullOut.releases ∧ (e.tellFault before c).field = e.field ∧
    (e.tellFault before c).commands.tx = e.commands.tx ∧ (e.tellFault before c).office = e.office ∧
    (e.tellFault before c).heldBack = e.heldBack ∧ (e.tellFault before c).washBack = e.washBack ∧
    (e.tellFault before c).washLanesBack = e.washLanesBack ∧ (e.tellFault before c).releasedHere = e.releasedHere := by
  unfold Ev.tellFault; dsimp only; (repeat' split) <;> simp

@[simp] theorem Ev.tellChannel_keeps (e : Ev) (before : State) (c : Nat) (accepted : Bool) :
    (e.tellChannel before c accepted).clock = e.clock ∧ (e.tellChannel before c accepted).params = e.params ∧
    (e.tellChannel before c accepted).pending = e.pending ∧ (e.tellChannel before c accepted).choice = e.choice ∧
    (e.tellChannel before c accepted).channels = e.channels ∧
    (e.tellChannel before c accepted).gate.classes = e.gate.classes ∧
    (e.tellChannel before c accepted).fuel.stock = e.fuel.stock ∧
    (e.tellChannel before c accepted).fuel.committed = e.fuel.committed ∧
    (e.tellChannel before c accepted).fuel.belowReserve = e.fuel.belowReserve ∧
    (e.tellChannel before c accepted).wash.lanes = e.wash.lanes ∧
    (e.tellChannel before c accepted).wash.waived = e.wash.waived ∧
    (e.tellChannel before c accepted).field = e.field ∧
    (e.tellChannel before c accepted).commands.tx = e.commands.tx ∧
    (e.tellChannel before c accepted).office = e.office ∧
    (e.tellChannel before c accepted).heldBack = e.heldBack ∧
    (e.tellChannel before c accepted).washBack = e.washBack ∧
    (e.tellChannel before c accepted).washLanesBack = e.washLanesBack ∧
    (e.tellChannel before c accepted).releasedHere = e.releasedHere := by
  unfold Ev.tellChannel; split <;> simp

@[simp] theorem Ev.restartChannel_keeps (e : Ev) (c : Nat) :
    (e.restartChannel c).clock = e.clock ∧ (e.restartChannel c).params = e.params ∧
    (e.restartChannel c).pending = e.pending ∧ (e.restartChannel c).choice = e.choice ∧
    (e.restartChannel c).gate.classes = e.gate.classes ∧ (e.restartChannel c).fuel.stock = e.fuel.stock ∧
    (e.restartChannel c).fuel.committed = e.fuel.committed ∧
    (e.restartChannel c).fuel.belowReserve = e.fuel.belowReserve ∧
    (e.restartChannel c).wash.lanes = e.wash.lanes ∧ (e.restartChannel c).wash.waived = e.wash.waived ∧
    (e.restartChannel c).field = e.field ∧ (e.restartChannel c).commands.tx = e.commands.tx ∧
    (e.restartChannel c).office = e.office ∧ (e.restartChannel c).heldBack = e.heldBack ∧
    (e.restartChannel c).washBack = e.washBack ∧ (e.restartChannel c).washLanesBack = e.washLanesBack ∧
    (e.restartChannel c).releasedHere = e.releasedHere := by
  simp [Ev.restartChannel]

@[simp] theorem Ev.restartChannels_keeps (e : Ev) :
    e.restartChannels.clock = e.clock ∧ e.restartChannels.params = e.params ∧
    e.restartChannels.pending = e.pending ∧ e.restartChannels.choice = e.choice ∧
    e.restartChannels.gate.classes = e.gate.classes ∧ e.restartChannels.fuel.stock = e.fuel.stock ∧
    e.restartChannels.fuel.committed = e.fuel.committed ∧
    e.restartChannels.fuel.belowReserve = e.fuel.belowReserve ∧ e.restartChannels.wash.lanes = e.wash.lanes ∧
    e.restartChannels.wash.waived = e.wash.waived ∧ e.restartChannels.field = e.field ∧
    e.restartChannels.commands.tx = e.commands.tx ∧ e.restartChannels.office = e.office ∧
    e.restartChannels.heldBack = e.heldBack ∧ e.restartChannels.washBack = e.washBack ∧
    e.restartChannels.washLanesBack = e.washLanesBack ∧ e.restartChannels.releasedHere = e.releasedHere := by
  simp [Ev.restartChannels]

@[simp] theorem Ev.faultChannel_keeps (e : Ev) (c v : Nat) :
    (e.faultChannel c v).clock = e.clock ∧ (e.faultChannel c v).params = e.params ∧
    (e.faultChannel c v).pending = e.pending ∧ (e.faultChannel c v).choice = e.choice ∧
    (e.faultChannel c v).gate.classes = e.gate.classes ∧ (e.faultChannel c v).fuel.stock = e.fuel.stock ∧
    (e.faultChannel c v).fuel.committed = e.fuel.committed ∧
    (e.faultChannel c v).fuel.belowReserve = e.fuel.belowReserve ∧
    (e.faultChannel c v).wash.lanes = e.wash.lanes ∧ (e.faultChannel c v).wash.waived = e.wash.waived ∧
    (e.faultChannel c v).field = e.field ∧ (e.faultChannel c v).commands.tx = e.commands.tx ∧
    (e.faultChannel c v).office = e.office ∧ (e.faultChannel c v).heldBack = e.heldBack ∧
    (e.faultChannel c v).washBack = e.washBack ∧ (e.faultChannel c v).washLanesBack = e.washLanesBack ∧
    (e.faultChannel c v).releasedHere = e.releasedHere := by
  simp [Ev.faultChannel]

@[simp] theorem Ev.recoverChannel_keeps (e : Ev) (c : Nat) :
    (e.recoverChannel c).clock = e.clock ∧ (e.recoverChannel c).params = e.params ∧
    (e.recoverChannel c).pending = e.pending ∧ (e.recoverChannel c).choice = e.choice ∧
    (e.recoverChannel c).gate.classes = e.gate.classes ∧ (e.recoverChannel c).fuel.stock = e.fuel.stock ∧
    (e.recoverChannel c).fuel.committed = e.fuel.committed ∧
    (e.recoverChannel c).fuel.belowReserve = e.fuel.belowReserve ∧
    (e.recoverChannel c).wash.lanes = e.wash.lanes ∧ (e.recoverChannel c).wash.waived = e.wash.waived ∧
    (e.recoverChannel c).field = e.field ∧ (e.recoverChannel c).commands.tx = e.commands.tx ∧
    (e.recoverChannel c).office = e.office ∧ (e.recoverChannel c).heldBack = e.heldBack ∧
    (e.recoverChannel c).washBack = e.washBack ∧ (e.recoverChannel c).washLanesBack = e.washLanesBack ∧
    (e.recoverChannel c).releasedHere = e.releasedHere := by
  simp [Ev.recoverChannel]

@[simp] theorem Ev.readFaulted_keeps (e : Ev) (c v : Nat) :
    (e.readFaulted c v).clock = e.clock ∧ (e.readFaulted c v).params = e.params ∧
    (e.readFaulted c v).pending = e.pending ∧ (e.readFaulted c v).choice = e.choice ∧
    (e.readFaulted c v).gate.classes = e.gate.classes ∧ (e.readFaulted c v).fuel.stock = e.fuel.stock ∧
    (e.readFaulted c v).fuel.committed = e.fuel.committed ∧
    (e.readFaulted c v).fuel.belowReserve = e.fuel.belowReserve ∧ (e.readFaulted c v).wash.lanes = e.wash.lanes ∧
    (e.readFaulted c v).wash.waived = e.wash.waived ∧ (e.readFaulted c v).field = e.field ∧
    (e.readFaulted c v).commands.tx = e.commands.tx ∧ (e.readFaulted c v).office = e.office ∧
    (e.readFaulted c v).heldBack = e.heldBack ∧ (e.readFaulted c v).washBack = e.washBack ∧
    (e.readFaulted c v).washLanesBack = e.washLanesBack ∧ (e.readFaulted c v).releasedHere = e.releasedHere := by
  unfold Ev.readFaulted; dsimp only; (repeat' split) <;> simp

@[simp] theorem Ev.takeReading_keeps (e : Ev) (c v : Nat) :
    (e.takeReading c v).clock = e.clock ∧ (e.takeReading c v).params = e.params ∧
    (e.takeReading c v).pending = e.pending ∧ (e.takeReading c v).choice = e.choice ∧
    (e.takeReading c v).gate.classes = e.gate.classes ∧ (e.takeReading c v).fuel.stock = e.fuel.stock ∧
    (e.takeReading c v).fuel.committed = e.fuel.committed ∧
    (e.takeReading c v).fuel.belowReserve = e.fuel.belowReserve ∧ (e.takeReading c v).wash.lanes = e.wash.lanes ∧
    (e.takeReading c v).wash.waived = e.wash.waived ∧ (e.takeReading c v).field = e.field ∧
    (e.takeReading c v).commands.tx = e.commands.tx ∧ (e.takeReading c v).office = e.office ∧
    (e.takeReading c v).heldBack = e.heldBack ∧ (e.takeReading c v).washBack = e.washBack ∧
    (e.takeReading c v).washLanesBack = e.washLanesBack ∧ (e.takeReading c v).releasedHere = e.releasedHere := by
  unfold Ev.takeReading; (repeat' split) <;> simp

@[simp] theorem Ev.takeSample_keeps (e : Ev) (node input : Nat) (vs : List Nat) :
    (e.takeSample node input vs).clock = e.clock ∧ (e.takeSample node input vs).params = e.params ∧
    (e.takeSample node input vs).pending = e.pending ∧ (e.takeSample node input vs).choice = e.choice ∧
    (e.takeSample node input vs).gate.classes = e.gate.classes ∧
    (e.takeSample node input vs).fuel.stock = e.fuel.stock ∧
    (e.takeSample node input vs).wash.waived = e.wash.waived ∧ (e.takeSample node input vs).field = e.field ∧
    (e.takeSample node input vs).commands.tx = e.commands.tx ∧ (e.takeSample node input vs).office = e.office ∧
    (e.takeSample node input vs).releasedHere = e.releasedHere := by
  induction vs generalizing e input with
  | nil => simp [Ev.takeSample]
  | cons v vs ih =>
    unfold Ev.takeSample
    dsimp only
    split
    · exact ih e (input + 1)
    · split
      · rename_i c _
        have h := ih (e.takeReading c v).drain (input + 1)
        simpa using h
      · exact ih e (input + 1)

end Sys2Proof.Machine
end

