-- ==== Sys2Proof/Laws/KeepsPasses.lean ====
section
/-! SUPPORT. What each pass leaves as it was. -/

namespace Sys2Proof.Machine

@[simp] theorem Ev.rerunOver_keeps (e : Ev) (bs : List Nat) :
    (e.rerunOver bs).clock = e.clock ∧ (e.rerunOver bs).params = e.params ∧ (e.rerunOver bs).pending = e.pending ∧
    (e.rerunOver bs).choice = e.choice ∧ (e.rerunOver bs).channels = e.channels ∧
    (e.rerunOver bs).gate.classes = e.gate.classes ∧ (e.rerunOver bs).laneMap.lanes = e.laneMap.lanes ∧
    (e.rerunOver bs).fuel.stock = e.fuel.stock ∧ (e.rerunOver bs).wash.waived = e.wash.waived ∧
    (e.rerunOver bs).field = e.field ∧ (e.rerunOver bs).commands.tx = e.commands.tx ∧
    (e.rerunOver bs).office = e.office ∧ (e.rerunOver bs).releasedHere = e.releasedHere := by
  induction bs generalizing e with
  | nil => simp [Ev.rerunOver]
  | cons b bs ih =>
    unfold Ev.rerunOver
    split
    · simp
    · split
      · exact ih e
      · have h := ih (e.attempt b).drain
        simpa using h

@[simp] theorem Ev.rerun_keeps (e : Ev) :
    e.rerun.clock = e.clock ∧ e.rerun.params = e.params ∧ e.rerun.pending = e.pending ∧
    e.rerun.choice = e.choice ∧ e.rerun.channels = e.channels ∧ e.rerun.gate.classes = e.gate.classes ∧
    e.rerun.laneMap.lanes = e.laneMap.lanes ∧ e.rerun.fuel.stock = e.fuel.stock ∧
    e.rerun.wash.waived = e.wash.waived ∧ e.rerun.field = e.field ∧ e.rerun.commands.tx = e.commands.tx ∧
    e.rerun.office = e.office ∧ e.rerun.releasedHere = e.releasedHere := by
  simp [Ev.rerun]

theorem Ev.fuelCalls_keeps (n : Nat) (e : Ev) :
    (Ev.fuelCalls n e).clock = e.clock ∧ (Ev.fuelCalls n e).params = e.params ∧
    (Ev.fuelCalls n e).pending = e.pending ∧ (Ev.fuelCalls n e).choice = e.choice ∧
    (Ev.fuelCalls n e).channels = e.channels ∧ (Ev.fuelCalls n e).gate.classes = e.gate.classes ∧
    (Ev.fuelCalls n e).laneMap.lanes = e.laneMap.lanes ∧ (Ev.fuelCalls n e).fuel.stock = e.fuel.stock ∧
    (Ev.fuelCalls n e).wash.waived = e.wash.waived ∧ (Ev.fuelCalls n e).field = e.field ∧
    (Ev.fuelCalls n e).commands.tx = e.commands.tx ∧ (Ev.fuelCalls n e).office = e.office ∧
    (Ev.fuelCalls n e).releasedHere = e.releasedHere := by
  induction n generalizing e with
  | zero => simp [Ev.fuelCalls]
  | succ n ih =>
    unfold Ev.fuelCalls
    split
    · rename_i x _
      have h := ih (((e.callFuel x.1 x.2).drain).lowerTurns x.2 x.1.bus)
      simpa using h
    · simp

@[simp] theorem Ev.fuelPass_keeps (e : Ev) :
    e.fuelPass.clock = e.clock ∧ e.fuelPass.params = e.params ∧ e.fuelPass.pending = e.pending ∧
    e.fuelPass.choice = e.choice ∧ e.fuelPass.channels = e.channels ∧ e.fuelPass.gate.classes = e.gate.classes ∧
    e.fuelPass.laneMap.lanes = e.laneMap.lanes ∧ e.fuelPass.fuel.stock = e.fuel.stock ∧
    e.fuelPass.wash.waived = e.wash.waived ∧ e.fuelPass.field = e.field ∧ e.fuelPass.commands.tx = e.commands.tx ∧
    e.fuelPass.office = e.office ∧ e.fuelPass.releasedHere = e.releasedHere := by
  have h := Ev.fuelCalls_keeps 6 { e with fuelDue := false }
  simpa [Ev.fuelPass] using h

theorem Ev.washCalls_keeps (n : Nat) (e : Ev) :
    (Ev.washCalls n e).clock = e.clock ∧ (Ev.washCalls n e).params = e.params ∧
    (Ev.washCalls n e).pending = e.pending ∧ (Ev.washCalls n e).choice = e.choice ∧
    (Ev.washCalls n e).channels = e.channels ∧ (Ev.washCalls n e).gate.classes = e.gate.classes ∧
    (Ev.washCalls n e).laneMap.lanes = e.laneMap.lanes ∧ (Ev.washCalls n e).fuel.stock = e.fuel.stock ∧
    (Ev.washCalls n e).wash.waived = e.wash.waived ∧ (Ev.washCalls n e).field = e.field ∧
    (Ev.washCalls n e).commands.tx = e.commands.tx ∧ (Ev.washCalls n e).office = e.office ∧
    (Ev.washCalls n e).releasedHere = e.releasedHere := by
  induction n generalizing e with
  | zero => simp [Ev.washCalls]
  | succ n ih =>
    unfold Ev.washCalls
    split
    · rename_i x _
      have h := ih (e.callWash x.1 x.2).drain
      simpa using h
    · simp

@[simp] theorem Ev.washPass_keeps (e : Ev) :
    e.washPass.clock = e.clock ∧ e.washPass.params = e.params ∧ e.washPass.pending = e.pending ∧
    e.washPass.choice = e.choice ∧ e.washPass.channels = e.channels ∧ e.washPass.gate.classes = e.gate.classes ∧
    e.washPass.laneMap.lanes = e.laneMap.lanes ∧ e.washPass.fuel.stock = e.fuel.stock ∧
    e.washPass.wash.waived = e.wash.waived ∧ e.washPass.field = e.field ∧ e.washPass.commands.tx = e.commands.tx ∧
    e.washPass.office = e.office ∧ e.washPass.releasedHere = e.releasedHere := by
  have h := Ev.washCalls_keeps 2 { e with washDue := false }
  simpa [Ev.washPass] using h

@[simp] theorem Ev.missDuty_keeps (e : Ev) (d : Nat) :
    (e.missDuty d).clock = e.clock ∧ (e.missDuty d).params = e.params ∧ (e.missDuty d).pending = e.pending ∧
    (e.missDuty d).choice = e.choice ∧ (e.missDuty d).holdList = e.holdList ∧
    (e.missDuty d).channels = e.channels ∧ (e.missDuty d).gate.classes = e.gate.classes ∧
    (e.missDuty d).laneMap = e.laneMap ∧ (e.missDuty d).fuel = e.fuel ∧ (e.missDuty d).wash = e.wash ∧
    (e.missDuty d).field = e.field ∧ (e.missDuty d).commands.tx = e.commands.tx ∧
    (e.missDuty d).office = e.office ∧ (e.missDuty d).rerunDue = e.rerunDue ∧ (e.missDuty d).fuelDue = e.fuelDue ∧
    (e.missDuty d).washDue = e.washDue ∧ (e.missDuty d).pullDue = e.pullDue ∧
    (e.missDuty d).heldBack = e.heldBack ∧ (e.missDuty d).washBack = e.washBack ∧
    (e.missDuty d).washLanesBack = e.washLanesBack ∧ (e.missDuty d).releasedHere = e.releasedHere := by
  unfold Ev.missDuty; dsimp only; (repeat' split) <;> simp

@[simp] theorem Ev.lateDuty_keeps (e : Ev) (d : Nat) :
    (e.lateDuty d).clock = e.clock ∧ (e.lateDuty d).params = e.params ∧ (e.lateDuty d).pending = e.pending ∧
    (e.lateDuty d).serial = e.serial ∧ (e.lateDuty d).choice = e.choice ∧ (e.lateDuty d).holdList = e.holdList ∧
    (e.lateDuty d).channels = e.channels ∧ (e.lateDuty d).nodes = e.nodes ∧ (e.lateDuty d).gate = e.gate ∧
    (e.lateDuty d).laneMap = e.laneMap ∧ (e.lateDuty d).fuel = e.fuel ∧ (e.lateDuty d).wash = e.wash ∧
    (e.lateDuty d).pullOut.releases = e.pullOut.releases ∧ (e.lateDuty d).field = e.field ∧
    (e.lateDuty d).commands = e.commands ∧ (e.lateDuty d).office = e.office ∧ (e.lateDuty d).outs = e.outs ∧
    (e.lateDuty d).rerunDue = e.rerunDue ∧ (e.lateDuty d).fuelDue = e.fuelDue ∧
    (e.lateDuty d).washDue = e.washDue ∧ (e.lateDuty d).pullDue = e.pullDue ∧
    (e.lateDuty d).heldBack = e.heldBack ∧ (e.lateDuty d).washBack = e.washBack ∧
    (e.lateDuty d).washLanesBack = e.washLanesBack ∧ (e.lateDuty d).releasedHere = e.releasedHere := by
  simp [Ev.lateDuty]

@[simp] theorem Ev.testDuty_keeps (e : Ev) (d : Nat) :
    (e.testDuty d).clock = e.clock ∧ (e.testDuty d).params = e.params ∧ (e.testDuty d).pending = e.pending ∧
    (e.testDuty d).choice = e.choice ∧ (e.testDuty d).holdList = e.holdList ∧
    (e.testDuty d).channels = e.channels ∧ (e.testDuty d).gate.classes = e.gate.classes ∧
    (e.testDuty d).laneMap = e.laneMap ∧ (e.testDuty d).fuel = e.fuel ∧ (e.testDuty d).wash = e.wash ∧
    (e.testDuty d).field = e.field ∧ (e.testDuty d).commands.tx = e.commands.tx ∧
    (e.testDuty d).office = e.office ∧ (e.testDuty d).rerunDue = e.rerunDue ∧ (e.testDuty d).fuelDue = e.fuelDue ∧
    (e.testDuty d).washDue = e.washDue ∧ (e.testDuty d).pullDue = e.pullDue ∧
    (e.testDuty d).heldBack = e.heldBack ∧ (e.testDuty d).washBack = e.washBack ∧
    (e.testDuty d).washLanesBack = e.washLanesBack ∧ (e.testDuty d).releasedHere = e.releasedHere := by
  unfold Ev.testDuty; (repeat' split) <;> simp

@[simp] theorem Ev.releaseDuty_keeps (e : Ev) (d l : Nat) :
    (e.releaseDuty d l).clock = e.clock ∧ (e.releaseDuty d l).params = e.params ∧
    (e.releaseDuty d l).pending = e.pending ∧ (e.releaseDuty d l).choice = e.choice ∧
    (e.releaseDuty d l).holdList = e.holdList ∧ (e.releaseDuty d l).channels = e.channels ∧
    (e.releaseDuty d l).gate = e.gate ∧ (e.releaseDuty d l).laneMap = e.laneMap ∧
    (e.releaseDuty d l).fuel = e.fuel ∧ (e.releaseDuty d l).wash = e.wash ∧ (e.releaseDuty d l).field = e.field ∧
    (e.releaseDuty d l).commands.tx = e.commands.tx ∧ (e.releaseDuty d l).office = e.office ∧
    (e.releaseDuty d l).rerunDue = e.rerunDue ∧ (e.releaseDuty d l).fuelDue = e.fuelDue ∧
    (e.releaseDuty d l).washDue = e.washDue ∧ (e.releaseDuty d l).pullDue = e.pullDue ∧
    (e.releaseDuty d l).heldBack = e.heldBack ∧ (e.releaseDuty d l).washBack = e.washBack ∧
    (e.releaseDuty d l).washLanesBack = e.washLanesBack := by
  simp [Ev.releaseDuty]

@[simp] theorem Ev.releaseOrWait_keeps (e : Ev) (d l : Nat) :
    (e.releaseOrWait d l).clock = e.clock ∧ (e.releaseOrWait d l).params = e.params ∧
    (e.releaseOrWait d l).pending = e.pending ∧ (e.releaseOrWait d l).choice = e.choice ∧
    (e.releaseOrWait d l).holdList = e.holdList ∧ (e.releaseOrWait d l).channels = e.channels ∧
    (e.releaseOrWait d l).gate = e.gate ∧ (e.releaseOrWait d l).laneMap = e.laneMap ∧
    (e.releaseOrWait d l).fuel = e.fuel ∧ (e.releaseOrWait d l).wash = e.wash ∧
    (e.releaseOrWait d l).field = e.field ∧ (e.releaseOrWait d l).commands.tx = e.commands.tx ∧
    (e.releaseOrWait d l).office = e.office ∧ (e.releaseOrWait d l).rerunDue = e.rerunDue ∧
    (e.releaseOrWait d l).fuelDue = e.fuelDue ∧ (e.releaseOrWait d l).washDue = e.washDue ∧
    (e.releaseOrWait d l).pullDue = e.pullDue ∧ (e.releaseOrWait d l).heldBack = e.heldBack ∧
    (e.releaseOrWait d l).washBack = e.washBack ∧ (e.releaseOrWait d l).washLanesBack = e.washLanesBack := by
  unfold Ev.releaseOrWait; split <;> simp

@[simp] theorem Ev.blockDuty_keeps (e : Ev) (d : Nat) :
    (e.blockDuty d).clock = e.clock ∧ (e.blockDuty d).params = e.params ∧ (e.blockDuty d).pending = e.pending ∧
    (e.blockDuty d).serial = e.serial ∧ (e.blockDuty d).choice = e.choice ∧
    (e.blockDuty d).holdList = e.holdList ∧ (e.blockDuty d).channels = e.channels ∧
    (e.blockDuty d).nodes = e.nodes ∧ (e.blockDuty d).gate = e.gate ∧ (e.blockDuty d).laneMap = e.laneMap ∧
    (e.blockDuty d).fuel = e.fuel ∧ (e.blockDuty d).wash = e.wash ∧
    (e.blockDuty d).pullOut.releases = e.pullOut.releases ∧ (e.blockDuty d).field = e.field ∧
    (e.blockDuty d).commands = e.commands ∧ (e.blockDuty d).office = e.office ∧ (e.blockDuty d).outs = e.outs ∧
    (e.blockDuty d).rerunDue = e.rerunDue ∧ (e.blockDuty d).fuelDue = e.fuelDue ∧
    (e.blockDuty d).washDue = e.washDue ∧ (e.blockDuty d).pullDue = e.pullDue ∧
    (e.blockDuty d).heldBack = e.heldBack ∧ (e.blockDuty d).washBack = e.washBack ∧
    (e.blockDuty d).washLanesBack = e.washLanesBack ∧ (e.blockDuty d).releasedHere = e.releasedHere := by
  unfold Ev.blockDuty; split <;> simp

@[simp] theorem Ev.unbindDuty_keeps (e : Ev) (d : Nat) :
    (e.unbindDuty d).clock = e.clock ∧ (e.unbindDuty d).params = e.params ∧ (e.unbindDuty d).pending = e.pending ∧
    (e.unbindDuty d).choice = e.choice ∧ (e.unbindDuty d).holdList = e.holdList ∧
    (e.unbindDuty d).channels = e.channels ∧ (e.unbindDuty d).gate.classes = e.gate.classes ∧
    (e.unbindDuty d).laneMap = e.laneMap ∧ (e.unbindDuty d).fuel = e.fuel ∧ (e.unbindDuty d).wash = e.wash ∧
    (e.unbindDuty d).field = e.field ∧ (e.unbindDuty d).commands.tx = e.commands.tx ∧
    (e.unbindDuty d).office = e.office ∧ (e.unbindDuty d).rerunDue = e.rerunDue ∧
    (e.unbindDuty d).fuelDue = e.fuelDue ∧ (e.unbindDuty d).washDue = e.washDue ∧
    (e.unbindDuty d).pullDue = e.pullDue ∧ (e.unbindDuty d).heldBack = e.heldBack ∧
    (e.unbindDuty d).washBack = e.washBack ∧ (e.unbindDuty d).washLanesBack = e.washLanesBack ∧
    (e.unbindDuty d).releasedHere = e.releasedHere := by
  unfold Ev.unbindDuty; split <;> simp

@[simp] theorem Ev.bindBoth_keeps (e : Ev) (b d : Option Nat) :
    (e.bindBoth b d).clock = e.clock ∧ (e.bindBoth b d).params = e.params ∧ (e.bindBoth b d).pending = e.pending ∧
    (e.bindBoth b d).serial = e.serial ∧ (e.bindBoth b d).choice = e.choice ∧
    (e.bindBoth b d).holdList = e.holdList ∧ (e.bindBoth b d).channels = e.channels ∧
    (e.bindBoth b d).nodes = e.nodes ∧ (e.bindBoth b d).counters = e.counters ∧
    (e.bindBoth b d).gate.classes = e.gate.classes ∧ (e.bindBoth b d).laneMap = e.laneMap ∧
    (e.bindBoth b d).fuel = e.fuel ∧ (e.bindBoth b d).wash = e.wash ∧
    (e.bindBoth b d).pullOut.releases = e.pullOut.releases ∧ (e.bindBoth b d).field = e.field ∧
    (e.bindBoth b d).commands = e.commands ∧ (e.bindBoth b d).notices = e.notices ∧
    (e.bindBoth b d).office = e.office ∧ (e.bindBoth b d).outs = e.outs ∧ (e.bindBoth b d).rerunDue = e.rerunDue ∧
    (e.bindBoth b d).fuelDue = e.fuelDue ∧ (e.bindBoth b d).washDue = e.washDue ∧
    (e.bindBoth b d).pullDue = e.pullDue ∧ (e.bindBoth b d).heldBack = e.heldBack ∧
    (e.bindBoth b d).washBack = e.washBack ∧ (e.bindBoth b d).washLanesBack = e.washLanesBack ∧
    (e.bindBoth b d).releasedHere = e.releasedHere := by
  unfold Ev.bindBoth; split <;> simp

@[simp] theorem Ev.exchange_keeps (e : Ev) (d x : Nat) :
    (e.exchange d x).clock = e.clock ∧ (e.exchange d x).params = e.params ∧ (e.exchange d x).pending = e.pending ∧
    (e.exchange d x).choice = e.choice ∧ (e.exchange d x).holdList = e.holdList ∧
    (e.exchange d x).channels = e.channels ∧ (e.exchange d x).gate.classes = e.gate.classes ∧
    (e.exchange d x).laneMap = e.laneMap ∧ (e.exchange d x).fuel = e.fuel ∧ (e.exchange d x).wash = e.wash ∧
    (e.exchange d x).field = e.field ∧ (e.exchange d x).commands.tx = e.commands.tx ∧
    (e.exchange d x).office = e.office ∧ (e.exchange d x).rerunDue = e.rerunDue ∧
    (e.exchange d x).fuelDue = e.fuelDue ∧ (e.exchange d x).washDue = e.washDue ∧
    (e.exchange d x).pullDue = e.pullDue ∧ (e.exchange d x).heldBack = e.heldBack ∧
    (e.exchange d x).washBack = e.washBack ∧ (e.exchange d x).washLanesBack = e.washLanesBack ∧
    (e.exchange d x).releasedHere = e.releasedHere := by
  simp [Ev.exchange]

@[simp] theorem Ev.exchangeOrBlock_keeps (e : Ev) (d : Nat) :
    (e.exchangeOrBlock d).clock = e.clock ∧ (e.exchangeOrBlock d).params = e.params ∧
    (e.exchangeOrBlock d).pending = e.pending ∧ (e.exchangeOrBlock d).choice = e.choice ∧
    (e.exchangeOrBlock d).holdList = e.holdList ∧ (e.exchangeOrBlock d).channels = e.channels ∧
    (e.exchangeOrBlock d).gate.classes = e.gate.classes ∧ (e.exchangeOrBlock d).laneMap = e.laneMap ∧
    (e.exchangeOrBlock d).fuel = e.fuel ∧ (e.exchangeOrBlock d).wash = e.wash ∧
    (e.exchangeOrBlock d).field = e.field ∧ (e.exchangeOrBlock d).commands.tx = e.commands.tx ∧
    (e.exchangeOrBlock d).office = e.office ∧ (e.exchangeOrBlock d).rerunDue = e.rerunDue ∧
    (e.exchangeOrBlock d).fuelDue = e.fuelDue ∧ (e.exchangeOrBlock d).washDue = e.washDue ∧
    (e.exchangeOrBlock d).pullDue = e.pullDue ∧ (e.exchangeOrBlock d).heldBack = e.heldBack ∧
    (e.exchangeOrBlock d).washBack = e.washBack ∧ (e.exchangeOrBlock d).washLanesBack = e.washLanesBack := by
  unfold Ev.exchangeOrBlock; dsimp only; (repeat' split) <;> simp

@[simp] theorem Ev.takeDue_keeps (e : Ev) (d : Nat) :
    (e.takeDue d).clock = e.clock ∧ (e.takeDue d).params = e.params ∧ (e.takeDue d).pending = e.pending ∧
    (e.takeDue d).choice = e.choice ∧ (e.takeDue d).holdList = e.holdList ∧ (e.takeDue d).channels = e.channels ∧
    (e.takeDue d).gate.classes = e.gate.classes ∧ (e.takeDue d).laneMap = e.laneMap ∧
    (e.takeDue d).fuel = e.fuel ∧ (e.takeDue d).wash = e.wash ∧ (e.takeDue d).field = e.field ∧
    (e.takeDue d).commands.tx = e.commands.tx ∧ (e.takeDue d).office = e.office ∧
    (e.takeDue d).rerunDue = e.rerunDue ∧ (e.takeDue d).fuelDue = e.fuelDue ∧ (e.takeDue d).washDue = e.washDue ∧
    (e.takeDue d).pullDue = e.pullDue ∧ (e.takeDue d).heldBack = e.heldBack ∧
    (e.takeDue d).washBack = e.washBack ∧ (e.takeDue d).washLanesBack = e.washLanesBack := by
  unfold Ev.takeDue; (repeat' split) <;> simp

@[simp] theorem Ev.takeDues_keeps (e : Ev) (ds : List Nat) :
    (e.takeDues ds).clock = e.clock ∧ (e.takeDues ds).params = e.params ∧ (e.takeDues ds).pending = e.pending ∧
    (e.takeDues ds).choice = e.choice ∧ (e.takeDues ds).channels = e.channels ∧
    (e.takeDues ds).gate.classes = e.gate.classes ∧ (e.takeDues ds).laneMap.lanes = e.laneMap.lanes ∧
    (e.takeDues ds).fuel.stock = e.fuel.stock ∧ (e.takeDues ds).wash.waived = e.wash.waived ∧
    (e.takeDues ds).field = e.field ∧ (e.takeDues ds).commands.tx = e.commands.tx ∧
    (e.takeDues ds).office = e.office := by
  simp [Ev.takeDues]

@[simp] theorem Ev.dueStep_keeps (e : Ev) :
    e.dueStep.clock = e.clock ∧ e.dueStep.params = e.params ∧ e.dueStep.pending = e.pending ∧
    e.dueStep.choice = e.choice ∧ e.dueStep.channels = e.channels ∧ e.dueStep.gate.classes = e.gate.classes ∧
    e.dueStep.laneMap.lanes = e.laneMap.lanes ∧ e.dueStep.fuel.stock = e.fuel.stock ∧
    e.dueStep.wash.waived = e.wash.waived ∧ e.dueStep.field = e.field ∧ e.dueStep.commands.tx = e.commands.tx ∧
    e.dueStep.office = e.office := by
  simp [Ev.dueStep]

@[simp] theorem Ev.pullPass_keeps (e : Ev) :
    e.pullPass.clock = e.clock ∧ e.pullPass.params = e.params ∧ e.pullPass.pending = e.pending ∧
    e.pullPass.choice = e.choice ∧ e.pullPass.channels = e.channels ∧ e.pullPass.gate.classes = e.gate.classes ∧
    e.pullPass.laneMap.lanes = e.laneMap.lanes ∧ e.pullPass.fuel.stock = e.fuel.stock ∧
    e.pullPass.wash.waived = e.wash.waived ∧ e.pullPass.field = e.field ∧ e.pullPass.commands.tx = e.commands.tx ∧
    e.pullPass.office = e.office := by
  simp [Ev.pullPass]

@[simp] theorem Ev.runPass_keeps (e : Ev) (p : Pass) :
    (e.runPass p).clock = e.clock ∧ (e.runPass p).params = e.params ∧ (e.runPass p).pending = e.pending ∧
    (e.runPass p).choice = e.choice ∧ (e.runPass p).channels = e.channels ∧
    (e.runPass p).gate.classes = e.gate.classes ∧ (e.runPass p).laneMap.lanes = e.laneMap.lanes ∧
    (e.runPass p).fuel.stock = e.fuel.stock ∧ (e.runPass p).wash.waived = e.wash.waived ∧
    (e.runPass p).field = e.field ∧ (e.runPass p).commands.tx = e.commands.tx ∧ (e.runPass p).office = e.office := by
  cases p <;> simp [Ev.runPass]

/-- The pull-out pass is the last of the due passes, but for an event that enters RUN or SHADOW (R116, R205). -/
theorem Ev.pull_mem_readyPasses (e : Ev) :
    Pass.pull ∈ e.readyPasses ↔ e.pullReady = true ∧ (e.entered = true ∨ e.yardPasses = []) := by
  have h : Pass.pull ∉ e.yardPasses := by unfold Ev.yardPasses; (repeat' split) <;> simp
  simp [Ev.readyPasses, Ev.pullNext, h]

/-- No pass is left to make exactly when none is due. -/
theorem Ev.readyPasses_eq_nil (e : Ev) : e.readyPasses = [] ↔ e.yardPasses = [] ∧ e.pullReady = false := by
  by_cases h : e.yardPasses = [] <;> simp [Ev.readyPasses, Ev.pullNext, h]

@[simp] theorem Ev.choosePass_keeps (e : Ev) (ps : List Pass) :
    (e.choosePass ps).clock = e.clock ∧ (e.choosePass ps).params = e.params ∧
    (e.choosePass ps).pending = e.pending ∧ (e.choosePass ps).channels = e.channels ∧
    (e.choosePass ps).gate.classes = e.gate.classes ∧ (e.choosePass ps).laneMap.lanes = e.laneMap.lanes ∧
    (e.choosePass ps).fuel.stock = e.fuel.stock ∧ (e.choosePass ps).wash.waived = e.wash.waived ∧
    (e.choosePass ps).field = e.field ∧ (e.choosePass ps).commands.tx = e.commands.tx ∧
    (e.choosePass ps).office = e.office := by
  unfold Ev.choosePass
  split
  · rename_i p _
    simp
  · simp

@[simp] theorem Ev.makePass_keeps (e : Ev) (ps : List Pass) :
    (e.makePass ps).clock = e.clock ∧ (e.makePass ps).params = e.params ∧ (e.makePass ps).pending = e.pending ∧
    (e.makePass ps).channels = e.channels ∧ (e.makePass ps).gate.classes = e.gate.classes ∧
    (e.makePass ps).laneMap.lanes = e.laneMap.lanes ∧ (e.makePass ps).fuel.stock = e.fuel.stock ∧
    (e.makePass ps).wash.waived = e.wash.waived ∧ (e.makePass ps).field = e.field ∧
    (e.makePass ps).commands.tx = e.commands.tx ∧ (e.makePass ps).office = e.office := by
  unfold Ev.makePass; split <;> simp

end Sys2Proof.Machine
end

