-- ==== Sys2Proof/Laws/KeepsModes.lean ====
section
/-! SUPPORT. What each timer, each change of mode and the end of an event leave as they were. -/

namespace Sys2Proof.Machine

@[simp] theorem Ev.directionExpires_keeps (e : Ev) (d : Direction) :
    (e.directionExpires d).clock = e.clock ∧ (e.directionExpires d).params = e.params ∧
    (e.directionExpires d).pending = e.pending ∧ (e.directionExpires d).choice = e.choice ∧
    (e.directionExpires d).holdList = e.holdList ∧ (e.directionExpires d).channels = e.channels ∧
    (e.directionExpires d).gate.classes = e.gate.classes ∧
    (e.directionExpires d).laneMap.lanes = e.laneMap.lanes ∧ (e.directionExpires d).fuel = e.fuel ∧
    (e.directionExpires d).wash = e.wash ∧ (e.directionExpires d).pullOut = e.pullOut ∧
    (e.directionExpires d).field = e.field ∧ (e.directionExpires d).commands.tx = e.commands.tx ∧
    (e.directionExpires d).office = e.office ∧ (e.directionExpires d).fuelDue = e.fuelDue ∧
    (e.directionExpires d).washDue = e.washDue ∧ (e.directionExpires d).pullDue = e.pullDue ∧
    (e.directionExpires d).heldBack = e.heldBack ∧ (e.directionExpires d).washBack = e.washBack ∧
    (e.directionExpires d).washLanesBack = e.washLanesBack ∧ (e.directionExpires d).releasedHere = e.releasedHere := by
  simp [Ev.directionExpires]

@[simp] theorem Ev.releaseTimesOut_keeps (e : Ev) (l : Nat) :
    (e.releaseTimesOut l).clock = e.clock ∧ (e.releaseTimesOut l).params = e.params ∧
    (e.releaseTimesOut l).pending = e.pending ∧ (e.releaseTimesOut l).choice = e.choice ∧
    (e.releaseTimesOut l).holdList = e.holdList ∧ (e.releaseTimesOut l).channels = e.channels ∧
    (e.releaseTimesOut l).gate = e.gate ∧ (e.releaseTimesOut l).laneMap = e.laneMap ∧
    (e.releaseTimesOut l).fuel = e.fuel ∧ (e.releaseTimesOut l).wash = e.wash ∧
    (e.releaseTimesOut l).field = e.field ∧ (e.releaseTimesOut l).commands.tx = e.commands.tx ∧
    (e.releaseTimesOut l).office = e.office ∧ (e.releaseTimesOut l).rerunDue = e.rerunDue ∧
    (e.releaseTimesOut l).fuelDue = e.fuelDue ∧ (e.releaseTimesOut l).washDue = e.washDue ∧
    (e.releaseTimesOut l).pullDue = e.pullDue ∧ (e.releaseTimesOut l).heldBack = e.heldBack ∧
    (e.releaseTimesOut l).washBack = e.washBack ∧ (e.releaseTimesOut l).washLanesBack = e.washLanesBack ∧
    (e.releaseTimesOut l).releasedHere = e.releasedHere := by
  unfold Ev.releaseTimesOut; split <;> simp

/-- A loop of expiries leaves what neither the expiry nor the delivery of its outcomes changes. -/
theorem Ev.takeLoop_keeps {γ : Type} (π : Ev → γ) (due : Ev → Nat → Bool) (f : Ev → Nat → Ev) (hd : ∀ e, π e.drain = π e)
    (h : ∀ e a, π (f e a) = π e) (l : List Nat) (e : Ev) :
    π (l.foldl (fun e a => e.takeIf (due e a) fun e => f e a) e) = π e := by
  refine foldl_keeps π _ (fun e a => ?_) l e
  unfold Ev.takeIf
  split
  · rw [hd, h]
  · rfl

/-- The overdue timeouts leave what none of their expiries changes. -/
theorem Ev.takeOverdue_proj {γ : Type} (π : Ev → γ) (hd : ∀ e, π e.drain = π e) (h1 : ∀ e b, π (Ev.leavingExpires e b) = π e)
    (h2 : ∀ e d, π (Ev.callTimedOut e d) = π e) (h3 : ∀ e d, π (Ev.dockingTimedOut e d) = π e)
    (h4 : ∀ e b, π (Ev.deferralEnds e b) = π e) (h5 : ∀ e w, π (Ev.washCallTimedOut e w) = π e)
    (h6 : ∀ e w, π (Ev.washAbort e w .timeout) = π e) (h7 : ∀ e w, π (Ev.washCleared e w) = π e) (e : Ev) :
    π e.takeOverdue = π e := by
  unfold Ev.takeOverdue
  dsimp only
  rw [Ev.takeLoop_keeps π _ _ hd h7, Ev.takeLoop_keeps π _ _ hd h6, Ev.takeLoop_keeps π _ _ hd h5, Ev.takeLoop_keeps π _ _ hd h4,
    Ev.takeLoop_keeps π _ _ hd h3, Ev.takeLoop_keeps π _ _ hd h2, Ev.takeLoop_keeps π _ _ hd h1]

@[simp] theorem Ev.takeOverdue_keeps (e : Ev) :
    e.takeOverdue.clock = e.clock ∧ e.takeOverdue.params = e.params ∧ e.takeOverdue.pending = e.pending ∧
    e.takeOverdue.choice = e.choice ∧ e.takeOverdue.channels = e.channels ∧
    e.takeOverdue.gate.classes = e.gate.classes ∧ e.takeOverdue.laneMap.lanes = e.laneMap.lanes ∧
    e.takeOverdue.fuel.stock = e.fuel.stock ∧ e.takeOverdue.wash.waived = e.wash.waived ∧
    e.takeOverdue.field = e.field ∧ e.takeOverdue.commands.tx = e.commands.tx ∧ e.takeOverdue.office = e.office ∧
    e.takeOverdue.releasedHere = e.releasedHere := by
  refine ⟨?_, ?_, ?_, ?_, ?_, ?_, ?_, ?_, ?_, ?_, ?_, ?_, ?_⟩
  · apply Ev.takeOverdue_proj (fun e => e.clock) <;> intros <;> simp
  · apply Ev.takeOverdue_proj (fun e => e.params) <;> intros <;> simp
  · apply Ev.takeOverdue_proj (fun e => e.pending) <;> intros <;> simp
  · apply Ev.takeOverdue_proj (fun e => e.choice) <;> intros <;> simp
  · apply Ev.takeOverdue_proj (fun e => e.channels) <;> intros <;> simp
  · apply Ev.takeOverdue_proj (fun e => e.gate.classes) <;> intros <;> simp
  · apply Ev.takeOverdue_proj (fun e => e.laneMap.lanes) <;> intros <;> simp
  · apply Ev.takeOverdue_proj (fun e => e.fuel.stock) <;> intros <;> simp
  · apply Ev.takeOverdue_proj (fun e => e.wash.waived) <;> intros <;> simp
  · apply Ev.takeOverdue_proj (fun e => e.field) <;> intros <;> simp
  · apply Ev.takeOverdue_proj (fun e => e.commands.tx) <;> intros <;> simp
  · apply Ev.takeOverdue_proj (fun e => e.office) <;> intros <;> simp
  · apply Ev.takeOverdue_proj (fun e => e.releasedHere) <;> intros <;> simp

@[simp] theorem Ev.minuteTick_keeps (e : Ev) :
    e.minuteTick.params = e.params ∧ e.minuteTick.pending = e.pending ∧ e.minuteTick.serial = e.serial ∧
    e.minuteTick.choice = e.choice ∧ e.minuteTick.holdList = e.holdList ∧ e.minuteTick.channels = e.channels ∧
    e.minuteTick.nodes = e.nodes ∧ e.minuteTick.counters = e.counters ∧
    e.minuteTick.gate.classes = e.gate.classes ∧ e.minuteTick.laneMap = e.laneMap ∧ e.minuteTick.fuel = e.fuel ∧
    e.minuteTick.wash = e.wash ∧ e.minuteTick.pullOut.releases = e.pullOut.releases ∧
    e.minuteTick.field = e.field ∧ e.minuteTick.commands = e.commands ∧ e.minuteTick.notices = e.notices ∧
    e.minuteTick.office = e.office ∧ e.minuteTick.outs = e.outs ∧ e.minuteTick.rerunDue = e.rerunDue ∧
    e.minuteTick.fuelDue = e.fuelDue ∧ e.minuteTick.washDue = e.washDue ∧ e.minuteTick.heldBack = e.heldBack ∧
    e.minuteTick.washBack = e.washBack ∧ e.minuteTick.washLanesBack = e.washLanesBack ∧
    e.minuteTick.releasedHere = e.releasedHere := by
  unfold Ev.minuteTick; dsimp only; (repeat' split) <;> simp

@[simp] theorem Ev.yardTick_keeps (e : Ev) :
    e.yardTick.params = e.params ∧ e.yardTick.pending = e.pending ∧ e.yardTick.serial = e.serial ∧
    e.yardTick.choice = e.choice ∧ e.yardTick.holdList = e.holdList ∧ e.yardTick.channels = e.channels ∧
    e.yardTick.nodes = e.nodes ∧ e.yardTick.counters = e.counters ∧ e.yardTick.gate.classes = e.gate.classes ∧
    e.yardTick.laneMap = e.laneMap ∧ e.yardTick.fuel = e.fuel ∧ e.yardTick.wash = e.wash ∧
    e.yardTick.pullOut.releases = e.pullOut.releases ∧ e.yardTick.field = e.field ∧
    e.yardTick.commands = e.commands ∧ e.yardTick.notices = e.notices ∧ e.yardTick.office = e.office ∧
    e.yardTick.outs = e.outs ∧ e.yardTick.rerunDue = e.rerunDue ∧ e.yardTick.fuelDue = e.fuelDue ∧
    e.yardTick.washDue = e.washDue ∧ e.yardTick.heldBack = e.heldBack ∧ e.yardTick.washBack = e.washBack ∧
    e.yardTick.washLanesBack = e.washLanesBack ∧ e.yardTick.releasedHere = e.releasedHere := by
  unfold Ev.yardTick; dsimp only; (repeat' split) <;> simp [Ev.advanceYard]

@[simp] theorem Ev.closeWindow_keeps (e : Ev) (k : NoticeKind) :
    (e.closeWindow k).clock = e.clock ∧ (e.closeWindow k).params = e.params ∧
    (e.closeWindow k).pending = e.pending ∧ (e.closeWindow k).choice = e.choice ∧
    (e.closeWindow k).holdList = e.holdList ∧ (e.closeWindow k).channels = e.channels ∧
    (e.closeWindow k).gate.classes = e.gate.classes ∧ (e.closeWindow k).laneMap = e.laneMap ∧
    (e.closeWindow k).fuel = e.fuel ∧ (e.closeWindow k).wash = e.wash ∧ (e.closeWindow k).field = e.field ∧
    (e.closeWindow k).commands.tx = e.commands.tx ∧ (e.closeWindow k).office.orders = e.office.orders ∧
    (e.closeWindow k).office.answers = e.office.answers ∧ (e.closeWindow k).office.tx = e.office.tx ∧
    (e.closeWindow k).office.mode = e.office.mode ∧ (e.closeWindow k).office.pendingMode = e.office.pendingMode ∧
    (e.closeWindow k).office.dozeFrom = e.office.dozeFrom ∧ (e.closeWindow k).office.overdue = e.office.overdue ∧ (e.closeWindow k).rerunDue = e.rerunDue ∧
    (e.closeWindow k).fuelDue = e.fuelDue ∧ (e.closeWindow k).washDue = e.washDue ∧
    (e.closeWindow k).heldBack = e.heldBack ∧ (e.closeWindow k).washBack = e.washBack ∧
    (e.closeWindow k).washLanesBack = e.washLanesBack ∧ (e.closeWindow k).releasedHere = e.releasedHere := by
  unfold Ev.closeWindow; dsimp only; (repeat' split) <;> simp

@[simp] theorem Ev.cancelDirections_keeps (e : Ev) :
    e.cancelDirections.clock = e.clock ∧ e.cancelDirections.params = e.params ∧
    e.cancelDirections.pending = e.pending ∧ e.cancelDirections.serial = e.serial ∧
    e.cancelDirections.choice = e.choice ∧ e.cancelDirections.channels = e.channels ∧
    e.cancelDirections.nodes = e.nodes ∧ e.cancelDirections.counters = e.counters ∧
    e.cancelDirections.gate.classes = e.gate.classes ∧ e.cancelDirections.laneMap.lanes = e.laneMap.lanes ∧
    e.cancelDirections.fuel = e.fuel ∧ e.cancelDirections.wash = e.wash ∧ e.cancelDirections.pullOut = e.pullOut ∧
    e.cancelDirections.field = e.field ∧ e.cancelDirections.commands = e.commands ∧
    e.cancelDirections.notices = e.notices ∧ e.cancelDirections.office = e.office ∧
    e.cancelDirections.outs = e.outs ∧ e.cancelDirections.rerunDue = e.rerunDue ∧
    e.cancelDirections.fuelDue = e.fuelDue ∧ e.cancelDirections.washDue = e.washDue ∧
    e.cancelDirections.pullDue = e.pullDue ∧ e.cancelDirections.heldBack = e.heldBack ∧
    e.cancelDirections.washBack = e.washBack ∧ e.cancelDirections.washLanesBack = e.washLanesBack ∧
    e.cancelDirections.releasedHere = e.releasedHere := by
  simp [Ev.cancelDirections]

@[simp] theorem Ev.emptyHold_keeps (e : Ev) :
    e.emptyHold.clock = e.clock ∧ e.emptyHold.params = e.params ∧ e.emptyHold.pending = e.pending ∧
    e.emptyHold.serial = e.serial ∧ e.emptyHold.choice = e.choice ∧ e.emptyHold.channels = e.channels ∧
    e.emptyHold.nodes = e.nodes ∧ e.emptyHold.counters = e.counters ∧ e.emptyHold.gate.classes = e.gate.classes ∧
    e.emptyHold.laneMap = e.laneMap ∧ e.emptyHold.fuel = e.fuel ∧ e.emptyHold.wash = e.wash ∧
    e.emptyHold.pullOut = e.pullOut ∧ e.emptyHold.field = e.field ∧ e.emptyHold.commands = e.commands ∧
    e.emptyHold.notices = e.notices ∧ e.emptyHold.office = e.office ∧ e.emptyHold.outs = e.outs ∧
    e.emptyHold.rerunDue = e.rerunDue ∧ e.emptyHold.fuelDue = e.fuelDue ∧ e.emptyHold.washDue = e.washDue ∧
    e.emptyHold.pullDue = e.pullDue ∧ e.emptyHold.heldBack = e.heldBack ∧ e.emptyHold.washBack = e.washBack ∧
    e.emptyHold.washLanesBack = e.washLanesBack ∧ e.emptyHold.releasedHere = e.releasedHere := by
  exact ⟨foldl_keeps (fun e : Ev => e.clock) (fun e b => e.setPlace b .lost) (fun _ _ => rfl) _ _,
    foldl_keeps (fun e : Ev => e.params) (fun e b => e.setPlace b .lost) (fun _ _ => rfl) _ _,
    foldl_keeps (fun e : Ev => e.pending) (fun e b => e.setPlace b .lost) (fun _ _ => rfl) _ _,
    foldl_keeps (fun e : Ev => e.serial) (fun e b => e.setPlace b .lost) (fun _ _ => rfl) _ _,
    foldl_keeps (fun e : Ev => e.choice) (fun e b => e.setPlace b .lost) (fun _ _ => rfl) _ _,
    foldl_keeps (fun e : Ev => e.channels) (fun e b => e.setPlace b .lost) (fun _ _ => rfl) _ _,
    foldl_keeps (fun e : Ev => e.nodes) (fun e b => e.setPlace b .lost) (fun _ _ => rfl) _ _,
    foldl_keeps (fun e : Ev => e.counters) (fun e b => e.setPlace b .lost) (fun _ _ => rfl) _ _,
    foldl_keeps (fun e : Ev => e.gate.classes) (fun e b => e.setPlace b .lost) (fun _ _ => rfl) _ _,
    foldl_keeps (fun e : Ev => e.laneMap) (fun e b => e.setPlace b .lost) (fun _ _ => rfl) _ _,
    foldl_keeps (fun e : Ev => e.fuel) (fun e b => e.setPlace b .lost) (fun _ _ => rfl) _ _,
    foldl_keeps (fun e : Ev => e.wash) (fun e b => e.setPlace b .lost) (fun _ _ => rfl) _ _,
    foldl_keeps (fun e : Ev => e.pullOut) (fun e b => e.setPlace b .lost) (fun _ _ => rfl) _ _,
    foldl_keeps (fun e : Ev => e.field) (fun e b => e.setPlace b .lost) (fun _ _ => rfl) _ _,
    foldl_keeps (fun e : Ev => e.commands) (fun e b => e.setPlace b .lost) (fun _ _ => rfl) _ _,
    foldl_keeps (fun e : Ev => e.notices) (fun e b => e.setPlace b .lost) (fun _ _ => rfl) _ _,
    foldl_keeps (fun e : Ev => e.office) (fun e b => e.setPlace b .lost) (fun _ _ => rfl) _ _,
    foldl_keeps (fun e : Ev => e.outs) (fun e b => e.setPlace b .lost) (fun _ _ => rfl) _ _,
    foldl_keeps (fun e : Ev => e.rerunDue) (fun e b => e.setPlace b .lost) (fun _ _ => rfl) _ _,
    foldl_keeps (fun e : Ev => e.fuelDue) (fun e b => e.setPlace b .lost) (fun _ _ => rfl) _ _,
    foldl_keeps (fun e : Ev => e.washDue) (fun e b => e.setPlace b .lost) (fun _ _ => rfl) _ _,
    foldl_keeps (fun e : Ev => e.pullDue) (fun e b => e.setPlace b .lost) (fun _ _ => rfl) _ _,
    foldl_keeps (fun e : Ev => e.heldBack) (fun e b => e.setPlace b .lost) (fun _ _ => rfl) _ _,
    foldl_keeps (fun e : Ev => e.washBack) (fun e b => e.setPlace b .lost) (fun _ _ => rfl) _ _,
    foldl_keeps (fun e : Ev => e.washLanesBack) (fun e b => e.setPlace b .lost) (fun _ _ => rfl) _ _,
    foldl_keeps (fun e : Ev => e.releasedHere) (fun e b => e.setPlace b .lost) (fun _ _ => rfl) _ _⟩

@[simp] theorem Ev.clearReleases_keeps (e : Ev) :
    e.clearReleases.clock = e.clock ∧ e.clearReleases.params = e.params ∧ e.clearReleases.pending = e.pending ∧
    e.clearReleases.serial = e.serial ∧ e.clearReleases.choice = e.choice ∧
    e.clearReleases.holdList = e.holdList ∧ e.clearReleases.channels = e.channels ∧
    e.clearReleases.nodes = e.nodes ∧ e.clearReleases.counters = e.counters ∧ e.clearReleases.gate = e.gate ∧
    e.clearReleases.laneMap = e.laneMap ∧ e.clearReleases.fuel = e.fuel ∧ e.clearReleases.wash = e.wash ∧
    e.clearReleases.field = e.field ∧ e.clearReleases.commands = e.commands ∧
    e.clearReleases.notices = e.notices ∧ e.clearReleases.office = e.office ∧ e.clearReleases.outs = e.outs ∧
    e.clearReleases.rerunDue = e.rerunDue ∧ e.clearReleases.fuelDue = e.fuelDue ∧
    e.clearReleases.washDue = e.washDue ∧ e.clearReleases.pullDue = e.pullDue ∧
    e.clearReleases.heldBack = e.heldBack ∧ e.clearReleases.washBack = e.washBack ∧
    e.clearReleases.washLanesBack = e.washLanesBack ∧ e.clearReleases.releasedHere = e.releasedHere := by
  simp [Ev.clearReleases]

@[simp] theorem Ev.restoreNodes_keeps (e : Ev) :
    e.restoreNodes.clock = e.clock ∧ e.restoreNodes.params = e.params ∧ e.restoreNodes.pending = e.pending ∧
    e.restoreNodes.serial = e.serial ∧ e.restoreNodes.choice = e.choice ∧ e.restoreNodes.holdList = e.holdList ∧
    e.restoreNodes.channels = e.channels ∧ e.restoreNodes.gate = e.gate ∧ e.restoreNodes.laneMap = e.laneMap ∧
    e.restoreNodes.fuel = e.fuel ∧ e.restoreNodes.wash = e.wash ∧ e.restoreNodes.pullOut = e.pullOut ∧
    e.restoreNodes.field = e.field ∧ e.restoreNodes.commands = e.commands ∧ e.restoreNodes.office = e.office ∧
    e.restoreNodes.outs = e.outs ∧ e.restoreNodes.heldBack = e.heldBack ∧ e.restoreNodes.washBack = e.washBack ∧
    e.restoreNodes.washLanesBack = e.washLanesBack ∧ e.restoreNodes.releasedHere = e.releasedHere := by
  simp [Ev.restoreNodes]

@[simp] theorem Ev.settleTurns_keeps (e : Ev) :
    e.settleTurns.clock = e.clock ∧ e.settleTurns.params = e.params ∧ e.settleTurns.pending = e.pending ∧
    e.settleTurns.choice = e.choice ∧ e.settleTurns.channels = e.channels ∧
    e.settleTurns.gate.classes = e.gate.classes ∧ e.settleTurns.laneMap.lanes = e.laneMap.lanes ∧
    e.settleTurns.fuel.stock = e.fuel.stock ∧ e.settleTurns.wash.waived = e.wash.waived ∧
    e.settleTurns.field = e.field ∧ e.settleTurns.commands.tx = e.commands.tx ∧ e.settleTurns.office = e.office ∧
    e.settleTurns.rerunDue = e.rerunDue ∧ e.settleTurns.pullDue = e.pullDue ∧
    e.settleTurns.heldBack = e.heldBack ∧ e.settleTurns.washBack = e.washBack ∧
    e.settleTurns.washLanesBack = e.washLanesBack ∧ e.settleTurns.releasedHere = e.releasedHere := by
  simp [Ev.settleTurns]

@[simp] theorem Ev.enterConfigure_keeps (e : Ev) :
    e.enterConfigure.clock = e.clock ∧ e.enterConfigure.params = e.params ∧ e.enterConfigure.pending = e.pending ∧
    e.enterConfigure.choice = e.choice ∧ e.enterConfigure.channels = e.channels ∧
    e.enterConfigure.gate.classes = e.gate.classes ∧ e.enterConfigure.laneMap.lanes = e.laneMap.lanes ∧
    e.enterConfigure.fuel.stock = e.fuel.stock ∧ e.enterConfigure.wash.waived = e.wash.waived ∧
    e.enterConfigure.field = e.field ∧ e.enterConfigure.commands.tx = e.commands.tx ∧
    e.enterConfigure.office.orders = e.office.orders ∧ e.enterConfigure.office.answers = e.office.answers ∧
    e.enterConfigure.office.tx = e.office.tx ∧ e.enterConfigure.office.mode = e.office.mode ∧
    e.enterConfigure.office.pendingMode = e.office.pendingMode ∧
    e.enterConfigure.office.dozeFrom = e.office.dozeFrom ∧ e.enterConfigure.office.overdue = e.office.overdue ∧ e.enterConfigure.heldBack = e.heldBack ∧
    e.enterConfigure.washBack = e.washBack ∧ e.enterConfigure.washLanesBack = e.washLanesBack ∧
    e.enterConfigure.releasedHere = e.releasedHere := by
  unfold Ev.enterConfigure; dsimp only; (repeat' split) <;> simp

@[simp] theorem Ev.enterWatch_keeps (e : Ev) (old : Mode) (stop : Bool) :
    (e.enterWatch old stop).clock = e.clock ∧ (e.enterWatch old stop).params = e.params ∧
    (e.enterWatch old stop).pending = e.pending ∧ (e.enterWatch old stop).choice = e.choice ∧
    (e.enterWatch old stop).gate.classes = e.gate.classes ∧ (e.enterWatch old stop).fuel.stock = e.fuel.stock ∧
    (e.enterWatch old stop).wash.waived = e.wash.waived ∧ (e.enterWatch old stop).field = e.field ∧
    (e.enterWatch old stop).commands.tx = e.commands.tx ∧ (e.enterWatch old stop).office = e.office ∧
    (e.enterWatch old stop).releasedHere = e.releasedHere := by
  unfold Ev.enterWatch; dsimp only; (repeat' split) <;> simp [Ev.triggerAll]

@[simp] theorem Ev.turnTo_keeps (e : Ev) (m : Mode) :
    (e.turnTo m).clock = e.clock ∧ (e.turnTo m).params = e.params ∧ (e.turnTo m).pending = e.pending ∧
    (e.turnTo m).choice = e.choice ∧ (e.turnTo m).gate.classes = e.gate.classes ∧
    (e.turnTo m).fuel.stock = e.fuel.stock ∧ (e.turnTo m).wash.waived = e.wash.waived ∧
    (e.turnTo m).field = e.field ∧ (e.turnTo m).commands.tx = e.commands.tx ∧
    (e.turnTo m).office.orders = e.office.orders ∧ (e.turnTo m).office.answers = e.office.answers ∧
    (e.turnTo m).office.tx = e.office.tx ∧ (e.turnTo m).releasedHere = e.releasedHere := by
  unfold Ev.turnTo; dsimp only; (repeat' split) <;> simp

@[simp] theorem Ev.enterMode_keeps (e : Ev) (m : Mode) :
    (e.enterMode m).clock = e.clock ∧ (e.enterMode m).params = e.params ∧ (e.enterMode m).pending = e.pending ∧
    (e.enterMode m).choice = e.choice ∧ (e.enterMode m).gate.classes = e.gate.classes ∧
    (e.enterMode m).fuel.stock = e.fuel.stock ∧ (e.enterMode m).wash.waived = e.wash.waived ∧
    (e.enterMode m).field = e.field ∧ (e.enterMode m).commands.tx = e.commands.tx ∧
    (e.enterMode m).office.orders = e.office.orders ∧ (e.enterMode m).office.answers = e.office.answers ∧
    (e.enterMode m).office.tx = e.office.tx ∧ (e.enterMode m).releasedHere = e.releasedHere := by
  simp [Ev.enterMode]

@[simp] theorem Ev.endPending_keeps (e : Ev) :
    e.endPending.clock = e.clock ∧ e.endPending.params = e.params ∧ e.endPending.pending = e.pending ∧
    e.endPending.serial = e.serial ∧ e.endPending.choice = e.choice ∧ e.endPending.holdList = e.holdList ∧
    e.endPending.channels = e.channels ∧ e.endPending.nodes = e.nodes ∧ e.endPending.counters = e.counters ∧
    e.endPending.gate = e.gate ∧ e.endPending.laneMap = e.laneMap ∧ e.endPending.fuel = e.fuel ∧
    e.endPending.wash = e.wash ∧ e.endPending.pullOut = e.pullOut ∧ e.endPending.field = e.field ∧
    e.endPending.commands = e.commands ∧ e.endPending.notices = e.notices ∧
    e.endPending.office.orders = e.office.orders ∧ e.endPending.office.answers = e.office.answers ∧
    e.endPending.office.tx = e.office.tx ∧ e.endPending.office.window = e.office.window ∧
    e.endPending.office.mode = e.office.mode ∧ e.endPending.office.dozeFrom = e.office.dozeFrom ∧ e.endPending.office.overdue = e.office.overdue ∧
    e.endPending.outs = e.outs ∧ e.endPending.heldBack = e.heldBack ∧ e.endPending.washBack = e.washBack ∧
    e.endPending.washLanesBack = e.washLanesBack ∧ e.endPending.releasedHere = e.releasedHere := by
  simp [Ev.endPending, Ev.triggerAll]

@[simp] theorem Ev.changeTakesEffect_keeps (e : Ev) (m : Mode) :
    (e.changeTakesEffect m).clock = e.clock ∧ (e.changeTakesEffect m).params = e.params ∧
    (e.changeTakesEffect m).pending = e.pending ∧ (e.changeTakesEffect m).choice = e.choice ∧
    (e.changeTakesEffect m).gate.classes = e.gate.classes ∧ (e.changeTakesEffect m).fuel.stock = e.fuel.stock ∧
    (e.changeTakesEffect m).wash.waived = e.wash.waived ∧ (e.changeTakesEffect m).field = e.field ∧
    (e.changeTakesEffect m).commands.tx = e.commands.tx ∧
    (e.changeTakesEffect m).office.orders = e.office.orders ∧
    (e.changeTakesEffect m).office.answers = e.office.answers ∧ (e.changeTakesEffect m).office.tx = e.office.tx ∧
    (e.changeTakesEffect m).releasedHere = e.releasedHere := by
  unfold Ev.changeTakesEffect; split <;> simp

@[simp] theorem Ev.takePending_keeps (e : Ev) :
    e.takePending.clock = e.clock ∧ e.takePending.params = e.params ∧ e.takePending.pending = e.pending ∧
    e.takePending.choice = e.choice ∧ e.takePending.gate.classes = e.gate.classes ∧
    e.takePending.fuel.stock = e.fuel.stock ∧ e.takePending.wash.waived = e.wash.waived ∧
    e.takePending.field = e.field ∧ e.takePending.commands.tx = e.commands.tx ∧
    e.takePending.office.orders = e.office.orders ∧ e.takePending.office.answers = e.office.answers ∧
    e.takePending.office.tx = e.office.tx ∧ e.takePending.releasedHere = e.releasedHere := by
  unfold Ev.takePending; (repeat' split) <;> simp

theorem Ev.settleFor_keeps (n : Nat) (e : Ev) :
    (e.settleFor n).clock = e.clock ∧ (e.settleFor n).params = e.params ∧ (e.settleFor n).pending = e.pending ∧
    (e.settleFor n).gate.classes = e.gate.classes ∧ (e.settleFor n).fuel.stock = e.fuel.stock ∧
    (e.settleFor n).field = e.field ∧ (e.settleFor n).commands.tx = e.commands.tx ∧
    (e.settleFor n).office.orders = e.office.orders ∧ (e.settleFor n).office.answers = e.office.answers ∧
    (e.settleFor n).office.tx = e.office.tx := by
  induction n generalizing e with
  | zero => simp [Ev.settleFor]
  | succ n ih =>
    unfold Ev.settleFor
    dsimp only
    split
    · split
      · simp
      · have h := ih (e.drain.takePending.deriveWaiver.makePass e.drain.takePending.deriveWaiver.readyPasses)
        simpa using h
    · have h := ih e.drain.takePending.deriveWaiver
      simpa using h

@[simp] theorem Ev.settle_keeps (e : Ev) :
    e.settle.clock = e.clock ∧ e.settle.params = e.params ∧ e.settle.pending = e.pending ∧
    e.settle.gate.classes = e.gate.classes ∧ e.settle.fuel.stock = e.fuel.stock ∧ e.settle.field = e.field ∧
    e.settle.commands.tx = e.commands.tx ∧ e.settle.office.orders = e.office.orders ∧
    e.settle.office.answers = e.office.answers ∧ e.settle.office.tx = e.office.tx := by
  unfold Ev.settle; exact Ev.settleFor_keeps _ e

@[simp] theorem Ev.restartField_keeps (e : Ev) :
    e.restartField.clock = e.clock ∧ e.restartField.params = e.params ∧ e.restartField.pending = e.pending ∧
    e.restartField.serial = e.serial ∧ e.restartField.choice = e.choice ∧ e.restartField.holdList = e.holdList ∧
    e.restartField.channels = e.channels ∧ e.restartField.nodes = e.nodes ∧ e.restartField.counters = e.counters ∧
    e.restartField.gate = e.gate ∧ e.restartField.laneMap = e.laneMap ∧ e.restartField.fuel = e.fuel ∧
    e.restartField.wash = e.wash ∧ e.restartField.pullOut = e.pullOut ∧
    e.restartField.field.groupHash = e.field.groupHash ∧ e.restartField.commands = e.commands ∧
    e.restartField.notices = e.notices ∧ e.restartField.office = e.office ∧ e.restartField.outs = e.outs ∧
    e.restartField.rerunDue = e.rerunDue ∧ e.restartField.fuelDue = e.fuelDue ∧
    e.restartField.washDue = e.washDue ∧ e.restartField.pullDue = e.pullDue ∧
    e.restartField.heldBack = e.heldBack ∧ e.restartField.washBack = e.washBack ∧
    e.restartField.washLanesBack = e.washLanesBack ∧ e.restartField.releasedHere = e.releasedHere := by
  simp [Ev.restartField]

@[simp] theorem Ev.restartCommands_keeps (e : Ev) :
    e.restartCommands.clock = e.clock ∧ e.restartCommands.params = e.params ∧
    e.restartCommands.pending = e.pending ∧ e.restartCommands.choice = e.choice ∧
    e.restartCommands.holdList = e.holdList ∧ e.restartCommands.channels = e.channels ∧
    e.restartCommands.gate = e.gate ∧ e.restartCommands.laneMap = e.laneMap ∧ e.restartCommands.fuel = e.fuel ∧
    e.restartCommands.wash = e.wash ∧ e.restartCommands.pullOut = e.pullOut ∧ e.restartCommands.field = e.field ∧
    e.restartCommands.commands.tx = e.commands.tx ∧ e.restartCommands.office = e.office ∧
    e.restartCommands.rerunDue = e.rerunDue ∧ e.restartCommands.fuelDue = e.fuelDue ∧
    e.restartCommands.washDue = e.washDue ∧ e.restartCommands.pullDue = e.pullDue ∧
    e.restartCommands.heldBack = e.heldBack ∧ e.restartCommands.washBack = e.washBack ∧
    e.restartCommands.washLanesBack = e.washLanesBack ∧ e.restartCommands.releasedHere = e.releasedHere := by
  unfold Ev.restartCommands; dsimp only; (repeat' split) <;> simp

@[simp] theorem Ev.restartOffice_keeps (e : Ev) :
    e.restartOffice.clock = e.clock ∧ e.restartOffice.params = e.params ∧ e.restartOffice.pending = e.pending ∧
    e.restartOffice.serial = e.serial ∧ e.restartOffice.choice = e.choice ∧
    e.restartOffice.holdList = e.holdList ∧ e.restartOffice.channels = e.channels ∧
    e.restartOffice.nodes = e.nodes ∧ e.restartOffice.counters = e.counters ∧ e.restartOffice.gate = e.gate ∧
    e.restartOffice.laneMap = e.laneMap ∧ e.restartOffice.fuel = e.fuel ∧ e.restartOffice.wash = e.wash ∧
    e.restartOffice.pullOut = e.pullOut ∧ e.restartOffice.field = e.field ∧
    e.restartOffice.commands = e.commands ∧ e.restartOffice.notices.dropped = e.notices.dropped ∧
    e.restartOffice.office.tx = e.office.tx ∧ e.restartOffice.office.window = e.office.window ∧
    e.restartOffice.office.mode = e.office.mode ∧ e.restartOffice.office.dozeFrom = e.office.dozeFrom ∧ e.restartOffice.office.overdue = e.office.overdue ∧
    e.restartOffice.outs = e.outs ∧ e.restartOffice.rerunDue = e.rerunDue ∧ e.restartOffice.fuelDue = e.fuelDue ∧
    e.restartOffice.washDue = e.washDue ∧ e.restartOffice.pullDue = e.pullDue ∧
    e.restartOffice.heldBack = e.heldBack ∧ e.restartOffice.washBack = e.washBack ∧
    e.restartOffice.washLanesBack = e.washLanesBack ∧ e.restartOffice.releasedHere = e.releasedHere := by
  simp [Ev.restartOffice]

@[simp] theorem Ev.restartTriggers_keeps (e : Ev) :
    e.restartTriggers.clock = e.clock ∧ e.restartTriggers.params = e.params ∧
    e.restartTriggers.pending = e.pending ∧ e.restartTriggers.serial = e.serial ∧
    e.restartTriggers.choice = e.choice ∧ e.restartTriggers.holdList = e.holdList ∧
    e.restartTriggers.channels = e.channels ∧ e.restartTriggers.nodes = e.nodes ∧
    e.restartTriggers.counters = e.counters ∧ e.restartTriggers.gate = e.gate ∧
    e.restartTriggers.laneMap = e.laneMap ∧ e.restartTriggers.fuel = e.fuel ∧ e.restartTriggers.wash = e.wash ∧
    e.restartTriggers.pullOut = e.pullOut ∧ e.restartTriggers.field = e.field ∧
    e.restartTriggers.commands = e.commands ∧ e.restartTriggers.notices = e.notices ∧
    e.restartTriggers.office = e.office ∧ e.restartTriggers.outs = e.outs ∧
    e.restartTriggers.heldBack = e.heldBack ∧ e.restartTriggers.washBack = e.washBack ∧
    e.restartTriggers.washLanesBack = e.washLanesBack ∧ e.restartTriggers.releasedHere = e.releasedHere := by
  unfold Ev.restartTriggers; dsimp only; (repeat' split) <;> simp

@[simp] theorem Ev.warmRestart_keeps (e : Ev) :
    e.warmRestart.clock = e.clock ∧ e.warmRestart.params = e.params ∧ e.warmRestart.pending = e.pending ∧
    e.warmRestart.choice = e.choice ∧ e.warmRestart.gate.classes = e.gate.classes ∧
    e.warmRestart.fuel.stock = e.fuel.stock ∧ e.warmRestart.wash.waived = e.wash.waived ∧
    e.warmRestart.field.groupHash = e.field.groupHash ∧ e.warmRestart.commands.tx = e.commands.tx ∧
    e.warmRestart.office.tx = e.office.tx ∧ e.warmRestart.office.mode = e.office.mode ∧
    e.warmRestart.office.dozeFrom = e.office.dozeFrom ∧ e.warmRestart.office.overdue = e.office.overdue ∧ e.warmRestart.heldBack = e.heldBack ∧
    e.warmRestart.washBack = e.washBack ∧ e.warmRestart.washLanesBack = e.washLanesBack ∧
    e.warmRestart.releasedHere = e.releasedHere := by
  simp [Ev.warmRestart]

end Sys2Proof.Machine
end

