-- ==== Sys2Proof/Laws/KeepsTables.lean ====
section
/-! SUPPORT. What each write of a loaded record leaves as it was. -/

namespace Sys2Proof.Machine

@[simp] theorem Ev.withdraw_keeps (e : Ev) (i : Nat) :
    (e.withdraw i).clock = e.clock ∧ (e.withdraw i).params = e.params ∧ (e.withdraw i).pending = e.pending ∧
    (e.withdraw i).choice = e.choice ∧ (e.withdraw i).channels = e.channels ∧
    (e.withdraw i).gate.classes = e.gate.classes ∧ (e.withdraw i).fuel.stock = e.fuel.stock ∧
    (e.withdraw i).fuel.committed = e.fuel.committed ∧ (e.withdraw i).fuel.belowReserve = e.fuel.belowReserve ∧
    (e.withdraw i).wash.waived = e.wash.waived ∧ (e.withdraw i).field = e.field ∧
    (e.withdraw i).commands.tx = e.commands.tx ∧ (e.withdraw i).office = e.office ∧
    (e.withdraw i).heldBack = e.heldBack ∧ (e.withdraw i).washBack = e.washBack ∧
    (e.withdraw i).washLanesBack = e.washLanesBack ∧ (e.withdraw i).releasedHere = e.releasedHere := by
  unfold Ev.withdraw; dsimp only; (repeat' split) <;> simp

@[simp] theorem Ev.writeBus_keeps (e : Ev) (i : Nat) (p : List Byte) :
    (e.writeBus i p).clock = e.clock ∧ (e.writeBus i p).params = e.params ∧ (e.writeBus i p).pending = e.pending ∧
    (e.writeBus i p).choice = e.choice ∧ (e.writeBus i p).channels = e.channels ∧
    (e.writeBus i p).gate.classes = e.gate.classes ∧ (e.writeBus i p).fuel.stock = e.fuel.stock ∧
    (e.writeBus i p).fuel.committed = e.fuel.committed ∧
    (e.writeBus i p).fuel.belowReserve = e.fuel.belowReserve ∧ (e.writeBus i p).wash.waived = e.wash.waived ∧
    (e.writeBus i p).field = e.field ∧ (e.writeBus i p).commands.tx = e.commands.tx ∧
    (e.writeBus i p).office = e.office ∧ (e.writeBus i p).heldBack = e.heldBack ∧
    (e.writeBus i p).washBack = e.washBack ∧ (e.writeBus i p).washLanesBack = e.washLanesBack ∧
    (e.writeBus i p).releasedHere = e.releasedHere := by
  unfold Ev.writeBus; split <;> simp

@[simp] theorem Ev.writeLane_keeps (e : Ev) (i : Nat) (p : List Byte) :
    (e.writeLane i p).clock = e.clock ∧ (e.writeLane i p).params = e.params ∧
    (e.writeLane i p).pending = e.pending ∧ (e.writeLane i p).serial = e.serial ∧
    (e.writeLane i p).choice = e.choice ∧ (e.writeLane i p).holdList = e.holdList ∧
    (e.writeLane i p).channels = e.channels ∧ (e.writeLane i p).nodes = e.nodes ∧
    (e.writeLane i p).counters = e.counters ∧ (e.writeLane i p).gate = e.gate ∧
    (e.writeLane i p).laneMap.directions = e.laneMap.directions ∧ (e.writeLane i p).fuel = e.fuel ∧
    (e.writeLane i p).wash = e.wash ∧ (e.writeLane i p).pullOut = e.pullOut ∧ (e.writeLane i p).field = e.field ∧
    (e.writeLane i p).commands = e.commands ∧ (e.writeLane i p).notices = e.notices ∧
    (e.writeLane i p).office = e.office ∧ (e.writeLane i p).outs = e.outs ∧
    (e.writeLane i p).fuelDue = e.fuelDue ∧ (e.writeLane i p).washDue = e.washDue ∧
    (e.writeLane i p).heldBack = e.heldBack ∧ (e.writeLane i p).washBack = e.washBack ∧
    (e.writeLane i p).washLanesBack = e.washLanesBack ∧ (e.writeLane i p).releasedHere = e.releasedHere := by
  simp [Ev.writeLane]

@[simp] theorem Ev.writeNode_keeps (e : Ev) (i : Nat) (p : List Byte) :
    (e.writeNode i p).clock = e.clock ∧ (e.writeNode i p).params = e.params ∧
    (e.writeNode i p).pending = e.pending ∧ (e.writeNode i p).serial = e.serial ∧
    (e.writeNode i p).choice = e.choice ∧ (e.writeNode i p).holdList = e.holdList ∧
    (e.writeNode i p).channels = e.channels ∧ (e.writeNode i p).gate = e.gate ∧
    (e.writeNode i p).laneMap = e.laneMap ∧ (e.writeNode i p).fuel = e.fuel ∧ (e.writeNode i p).wash = e.wash ∧
    (e.writeNode i p).pullOut = e.pullOut ∧ (e.writeNode i p).field = e.field ∧
    (e.writeNode i p).commands.tx = e.commands.tx ∧ (e.writeNode i p).office = e.office ∧
    (e.writeNode i p).heldBack = e.heldBack ∧ (e.writeNode i p).washBack = e.washBack ∧
    (e.writeNode i p).washLanesBack = e.washLanesBack ∧ (e.writeNode i p).releasedHere = e.releasedHere := by
  simp [Ev.writeNode]

@[simp] theorem Ev.writeChannel_keeps (e : Ev) (i : Nat) (p : List Byte) :
    (e.writeChannel i p).clock = e.clock ∧ (e.writeChannel i p).params = e.params ∧
    (e.writeChannel i p).pending = e.pending ∧ (e.writeChannel i p).choice = e.choice ∧
    (e.writeChannel i p).gate.classes = e.gate.classes ∧ (e.writeChannel i p).fuel.stock = e.fuel.stock ∧
    (e.writeChannel i p).fuel.committed = e.fuel.committed ∧
    (e.writeChannel i p).fuel.belowReserve = e.fuel.belowReserve ∧
    (e.writeChannel i p).wash.lanes = e.wash.lanes ∧ (e.writeChannel i p).wash.waived = e.wash.waived ∧
    (e.writeChannel i p).field = e.field ∧ (e.writeChannel i p).commands.tx = e.commands.tx ∧
    (e.writeChannel i p).office = e.office ∧ (e.writeChannel i p).heldBack = e.heldBack ∧
    (e.writeChannel i p).washBack = e.washBack ∧ (e.writeChannel i p).washLanesBack = e.washLanesBack ∧
    (e.writeChannel i p).releasedHere = e.releasedHere := by
  simp [Ev.writeChannel]

@[simp] theorem Ev.writeDispenser_keeps (e : Ev) (i : Nat) (p : List Byte) :
    (e.writeDispenser i p).clock = e.clock ∧ (e.writeDispenser i p).params = e.params ∧
    (e.writeDispenser i p).pending = e.pending ∧ (e.writeDispenser i p).serial = e.serial ∧
    (e.writeDispenser i p).choice = e.choice ∧ (e.writeDispenser i p).holdList = e.holdList ∧
    (e.writeDispenser i p).channels = e.channels ∧ (e.writeDispenser i p).nodes = e.nodes ∧
    (e.writeDispenser i p).counters = e.counters ∧ (e.writeDispenser i p).gate = e.gate ∧
    (e.writeDispenser i p).laneMap = e.laneMap ∧ (e.writeDispenser i p).fuel.queue = e.fuel.queue ∧
    (e.writeDispenser i p).fuel.stock = e.fuel.stock ∧ (e.writeDispenser i p).fuel.committed = e.fuel.committed ∧
    (e.writeDispenser i p).fuel.belowReserve = e.fuel.belowReserve ∧ (e.writeDispenser i p).wash = e.wash ∧
    (e.writeDispenser i p).pullOut = e.pullOut ∧ (e.writeDispenser i p).field = e.field ∧
    (e.writeDispenser i p).commands = e.commands ∧ (e.writeDispenser i p).notices = e.notices ∧
    (e.writeDispenser i p).office = e.office ∧ (e.writeDispenser i p).outs = e.outs ∧
    (e.writeDispenser i p).rerunDue = e.rerunDue ∧ (e.writeDispenser i p).washDue = e.washDue ∧
    (e.writeDispenser i p).pullDue = e.pullDue ∧ (e.writeDispenser i p).heldBack = e.heldBack ∧
    (e.writeDispenser i p).washBack = e.washBack ∧ (e.writeDispenser i p).washLanesBack = e.washLanesBack ∧
    (e.writeDispenser i p).releasedHere = e.releasedHere := by
  unfold Ev.writeDispenser; dsimp only; (repeat' split) <;> simp

@[simp] theorem Ev.writeWashLane_keeps (e : Ev) (i : Nat) (p : List Byte) :
    (e.writeWashLane i p).clock = e.clock ∧ (e.writeWashLane i p).params = e.params ∧
    (e.writeWashLane i p).pending = e.pending ∧ (e.writeWashLane i p).serial = e.serial ∧
    (e.writeWashLane i p).choice = e.choice ∧ (e.writeWashLane i p).holdList = e.holdList ∧
    (e.writeWashLane i p).channels = e.channels ∧ (e.writeWashLane i p).nodes = e.nodes ∧
    (e.writeWashLane i p).gate = e.gate ∧ (e.writeWashLane i p).laneMap = e.laneMap ∧
    (e.writeWashLane i p).fuel = e.fuel ∧ (e.writeWashLane i p).wash.queue = e.wash.queue ∧
    (e.writeWashLane i p).wash.waived = e.wash.waived ∧ (e.writeWashLane i p).pullOut = e.pullOut ∧
    (e.writeWashLane i p).field = e.field ∧ (e.writeWashLane i p).commands = e.commands ∧
    (e.writeWashLane i p).office = e.office ∧ (e.writeWashLane i p).outs = e.outs ∧
    (e.writeWashLane i p).rerunDue = e.rerunDue ∧ (e.writeWashLane i p).fuelDue = e.fuelDue ∧
    (e.writeWashLane i p).pullDue = e.pullDue ∧ (e.writeWashLane i p).heldBack = e.heldBack ∧
    (e.writeWashLane i p).washBack = e.washBack ∧ (e.writeWashLane i p).washLanesBack = e.washLanesBack ∧
    (e.writeWashLane i p).releasedHere = e.releasedHere := by
  unfold Ev.writeWashLane; dsimp only; (repeat' split) <;> simp

@[simp] theorem Ev.writeHash_keeps (e : Ev) (i : Nat) (p : List Byte) :
    (e.writeHash i p).clock = e.clock ∧ (e.writeHash i p).params = e.params ∧
    (e.writeHash i p).pending = e.pending ∧ (e.writeHash i p).serial = e.serial ∧
    (e.writeHash i p).choice = e.choice ∧ (e.writeHash i p).holdList = e.holdList ∧
    (e.writeHash i p).channels = e.channels ∧ (e.writeHash i p).nodes = e.nodes ∧
    (e.writeHash i p).counters = e.counters ∧ (e.writeHash i p).gate = e.gate ∧
    (e.writeHash i p).laneMap = e.laneMap ∧ (e.writeHash i p).fuel = e.fuel ∧ (e.writeHash i p).wash = e.wash ∧
    (e.writeHash i p).pullOut = e.pullOut ∧ (e.writeHash i p).field.inbox = e.field.inbox ∧
    (e.writeHash i p).field.quietTimer = e.field.quietTimer ∧ (e.writeHash i p).commands = e.commands ∧
    (e.writeHash i p).notices = e.notices ∧ (e.writeHash i p).office = e.office ∧
    (e.writeHash i p).outs = e.outs ∧ (e.writeHash i p).rerunDue = e.rerunDue ∧
    (e.writeHash i p).fuelDue = e.fuelDue ∧ (e.writeHash i p).washDue = e.washDue ∧
    (e.writeHash i p).pullDue = e.pullDue ∧ (e.writeHash i p).heldBack = e.heldBack ∧
    (e.writeHash i p).washBack = e.washBack ∧ (e.writeHash i p).washLanesBack = e.washLanesBack ∧
    (e.writeHash i p).releasedHere = e.releasedHere := by
  simp [Ev.writeHash]

@[simp] theorem Ev.writeParams_keeps (e : Ev) (p : Params) :
    (e.writeParams p).clock = e.clock ∧ (e.writeParams p).pending = e.pending ∧
    (e.writeParams p).serial = e.serial ∧ (e.writeParams p).choice = e.choice ∧
    (e.writeParams p).holdList = e.holdList ∧ (e.writeParams p).channels = e.channels ∧
    (e.writeParams p).nodes = e.nodes ∧ (e.writeParams p).gate = e.gate ∧ (e.writeParams p).laneMap = e.laneMap ∧
    (e.writeParams p).fuel.queue = e.fuel.queue ∧ (e.writeParams p).fuel.dispensers = e.fuel.dispensers ∧
    (e.writeParams p).fuel.stock = e.fuel.stock ∧ (e.writeParams p).fuel.committed = e.fuel.committed ∧
    (e.writeParams p).wash = e.wash ∧ (e.writeParams p).pullOut = e.pullOut ∧ (e.writeParams p).field = e.field ∧
    (e.writeParams p).commands = e.commands ∧ (e.writeParams p).office = e.office ∧
    (e.writeParams p).outs = e.outs ∧ (e.writeParams p).fuelDue = e.fuelDue ∧
    (e.writeParams p).washDue = e.washDue ∧ (e.writeParams p).pullDue = e.pullDue ∧
    (e.writeParams p).heldBack = e.heldBack ∧ (e.writeParams p).washBack = e.washBack ∧
    (e.writeParams p).washLanesBack = e.washLanesBack ∧ (e.writeParams p).releasedHere = e.releasedHere := by
  simp [Ev.writeParams]

@[simp] theorem Ev.writeRecord_keeps (e : Ev) (t : Table) (i : Nat) (p : List Byte) :
    (e.writeRecord t i p).clock = e.clock ∧ (e.writeRecord t i p).pending = e.pending ∧
    (e.writeRecord t i p).choice = e.choice ∧ (e.writeRecord t i p).fuel.stock = e.fuel.stock ∧
    (e.writeRecord t i p).fuel.committed = e.fuel.committed ∧ (e.writeRecord t i p).wash.waived = e.wash.waived ∧
    (e.writeRecord t i p).field.inbox = e.field.inbox ∧
    (e.writeRecord t i p).field.quietTimer = e.field.quietTimer ∧
    (e.writeRecord t i p).commands.tx = e.commands.tx ∧ (e.writeRecord t i p).office = e.office ∧
    (e.writeRecord t i p).heldBack = e.heldBack ∧ (e.writeRecord t i p).washBack = e.washBack ∧
    (e.writeRecord t i p).washLanesBack = e.washLanesBack ∧ (e.writeRecord t i p).releasedHere = e.releasedHere := by
  unfold Ev.writeRecord; split <;> simp

/-- Loading records one after another leaves what none of the writes changes. -/
@[simp] theorem Ev.loadEach_keeps (e : Ev) (t : Table) (i : Nat) (tally : LoadTally) (ps : List (List Byte)) :
    (e.loadEach t i tally ps).1.clock = e.clock ∧ (e.loadEach t i tally ps).1.pending = e.pending ∧
    (e.loadEach t i tally ps).1.choice = e.choice ∧ (e.loadEach t i tally ps).1.fuel.stock = e.fuel.stock ∧
    (e.loadEach t i tally ps).1.wash.waived = e.wash.waived ∧
    (e.loadEach t i tally ps).1.field.inbox = e.field.inbox ∧
    (e.loadEach t i tally ps).1.field.quietTimer = e.field.quietTimer ∧
    (e.loadEach t i tally ps).1.commands.tx = e.commands.tx ∧ (e.loadEach t i tally ps).1.office = e.office ∧
    (e.loadEach t i tally ps).1.releasedHere = e.releasedHere := by
  induction ps generalizing e i tally with
  | nil => simp [Ev.loadEach]
  | cons p ps ih =>
    unfold Ev.loadEach
    split
    · have h := ih (e.writeRecord t i p).drain (i + 1) { tally with accepted := tally.accepted + 1 }
      simpa using h
    · exact ih e (i + 1) _

@[simp] theorem Ev.advanceWindow_keeps (e : Ev) (w : Window) (n : Nat) :
    (e.advanceWindow w n).clock = e.clock ∧ (e.advanceWindow w n).params = e.params ∧
    (e.advanceWindow w n).pending = e.pending ∧ (e.advanceWindow w n).choice = e.choice ∧
    (e.advanceWindow w n).holdList = e.holdList ∧ (e.advanceWindow w n).channels = e.channels ∧
    (e.advanceWindow w n).gate.classes = e.gate.classes ∧ (e.advanceWindow w n).laneMap = e.laneMap ∧
    (e.advanceWindow w n).fuel = e.fuel ∧ (e.advanceWindow w n).wash = e.wash ∧
    (e.advanceWindow w n).field = e.field ∧ (e.advanceWindow w n).commands.tx = e.commands.tx ∧
    (e.advanceWindow w n).office.orders = e.office.orders ∧
    (e.advanceWindow w n).office.answers = e.office.answers ∧ (e.advanceWindow w n).office.tx = e.office.tx ∧
    (e.advanceWindow w n).office.mode = e.office.mode ∧
    (e.advanceWindow w n).office.pendingMode = e.office.pendingMode ∧
    (e.advanceWindow w n).office.dozeFrom = e.office.dozeFrom ∧ (e.advanceWindow w n).office.overdue = e.office.overdue ∧ (e.advanceWindow w n).rerunDue = e.rerunDue ∧
    (e.advanceWindow w n).fuelDue = e.fuelDue ∧ (e.advanceWindow w n).washDue = e.washDue ∧
    (e.advanceWindow w n).heldBack = e.heldBack ∧ (e.advanceWindow w n).washBack = e.washBack ∧
    (e.advanceWindow w n).washLanesBack = e.washLanesBack ∧ (e.advanceWindow w n).releasedHere = e.releasedHere := by
  unfold Ev.advanceWindow; split <;> simp

end Sys2Proof.Machine
end

