-- ==== Sys2Proof/Laws/KeepsPort.lean ====
section
/-! SUPPORT. What each operation of the field port leaves as it was. -/

namespace Sys2Proof.Machine

@[simp] theorem Ev.requestQuiet_keeps (e : Ev) :
    e.requestQuiet.clock = e.clock ∧ e.requestQuiet.params = e.params ∧ e.requestQuiet.pending = e.pending ∧
    e.requestQuiet.choice = e.choice ∧ e.requestQuiet.holdList = e.holdList ∧
    e.requestQuiet.channels = e.channels ∧ e.requestQuiet.gate = e.gate ∧ e.requestQuiet.laneMap = e.laneMap ∧
    e.requestQuiet.fuel = e.fuel ∧ e.requestQuiet.wash = e.wash ∧ e.requestQuiet.pullOut = e.pullOut ∧
    e.requestQuiet.field.groupHash = e.field.groupHash ∧ e.requestQuiet.field.inbox = e.field.inbox ∧
    e.requestQuiet.commands.tx = e.commands.tx ∧ e.requestQuiet.office = e.office ∧
    e.requestQuiet.rerunDue = e.rerunDue ∧ e.requestQuiet.fuelDue = e.fuelDue ∧
    e.requestQuiet.washDue = e.washDue ∧ e.requestQuiet.pullDue = e.pullDue ∧
    e.requestQuiet.heldBack = e.heldBack ∧ e.requestQuiet.washBack = e.washBack ∧
    e.requestQuiet.washLanesBack = e.washLanesBack ∧ e.requestQuiet.releasedHere = e.releasedHere := by
  simp [Ev.requestQuiet]

@[simp] theorem Ev.quietTest_keeps (e : Ev) :
    e.quietTest.clock = e.clock ∧ e.quietTest.params = e.params ∧ e.quietTest.pending = e.pending ∧
    e.quietTest.choice = e.choice ∧ e.quietTest.holdList = e.holdList ∧ e.quietTest.channels = e.channels ∧
    e.quietTest.gate = e.gate ∧ e.quietTest.laneMap = e.laneMap ∧ e.quietTest.fuel = e.fuel ∧
    e.quietTest.wash = e.wash ∧ e.quietTest.pullOut = e.pullOut ∧
    e.quietTest.field.groupHash = e.field.groupHash ∧ e.quietTest.field.inbox = e.field.inbox ∧
    e.quietTest.commands.tx = e.commands.tx ∧ e.quietTest.office = e.office ∧ e.quietTest.rerunDue = e.rerunDue ∧
    e.quietTest.fuelDue = e.fuelDue ∧ e.quietTest.washDue = e.washDue ∧ e.quietTest.pullDue = e.pullDue ∧
    e.quietTest.heldBack = e.heldBack ∧ e.quietTest.washBack = e.washBack ∧
    e.quietTest.washLanesBack = e.washLanesBack ∧ e.quietTest.releasedHere = e.releasedHere := by
  unfold Ev.quietTest; split <;> simp

@[simp] theorem Ev.quietExpires_keeps (e : Ev) :
    e.quietExpires.clock = e.clock ∧ e.quietExpires.params = e.params ∧ e.quietExpires.pending = e.pending ∧
    e.quietExpires.choice = e.choice ∧ e.quietExpires.holdList = e.holdList ∧
    e.quietExpires.channels = e.channels ∧ e.quietExpires.gate = e.gate ∧ e.quietExpires.laneMap = e.laneMap ∧
    e.quietExpires.fuel = e.fuel ∧ e.quietExpires.wash = e.wash ∧ e.quietExpires.pullOut = e.pullOut ∧
    e.quietExpires.field.groupHash = e.field.groupHash ∧ e.quietExpires.field.inbox = e.field.inbox ∧
    e.quietExpires.commands.tx = e.commands.tx ∧ e.quietExpires.office = e.office ∧
    e.quietExpires.rerunDue = e.rerunDue ∧ e.quietExpires.fuelDue = e.fuelDue ∧
    e.quietExpires.washDue = e.washDue ∧ e.quietExpires.pullDue = e.pullDue ∧
    e.quietExpires.heldBack = e.heldBack ∧ e.quietExpires.washBack = e.washBack ∧
    e.quietExpires.washLanesBack = e.washLanesBack ∧ e.quietExpires.releasedHere = e.releasedHere := by
  unfold Ev.quietExpires; split <;> simp

@[simp] theorem Ev.reject_keeps (e : Ev) (f : Frame) (r : RejectReason) :
    (e.reject f r).clock = e.clock ∧ (e.reject f r).params = e.params ∧ (e.reject f r).pending = e.pending ∧
    (e.reject f r).serial = e.serial ∧ (e.reject f r).choice = e.choice ∧ (e.reject f r).holdList = e.holdList ∧
    (e.reject f r).channels = e.channels ∧ (e.reject f r).nodes = e.nodes ∧ (e.reject f r).gate = e.gate ∧
    (e.reject f r).laneMap = e.laneMap ∧ (e.reject f r).fuel = e.fuel ∧ (e.reject f r).wash = e.wash ∧
    (e.reject f r).pullOut = e.pullOut ∧ (e.reject f r).field = e.field ∧ (e.reject f r).commands = e.commands ∧
    (e.reject f r).office = e.office ∧ (e.reject f r).outs = e.outs ∧ (e.reject f r).rerunDue = e.rerunDue ∧
    (e.reject f r).fuelDue = e.fuelDue ∧ (e.reject f r).washDue = e.washDue ∧ (e.reject f r).pullDue = e.pullDue ∧
    (e.reject f r).heldBack = e.heldBack ∧ (e.reject f r).washBack = e.washBack ∧
    (e.reject f r).washLanesBack = e.washLanesBack ∧ (e.reject f r).releasedHere = e.releasedHere := by
  simp [Ev.reject]

@[simp] theorem Ev.joinInbox_keeps (e : Ev) (x : InboxEntry) :
    (e.joinInbox x).clock = e.clock ∧ (e.joinInbox x).params = e.params ∧ (e.joinInbox x).pending = e.pending ∧
    (e.joinInbox x).choice = e.choice ∧ (e.joinInbox x).holdList = e.holdList ∧
    (e.joinInbox x).channels = e.channels ∧ (e.joinInbox x).gate = e.gate ∧ (e.joinInbox x).laneMap = e.laneMap ∧
    (e.joinInbox x).fuel = e.fuel ∧ (e.joinInbox x).wash = e.wash ∧ (e.joinInbox x).pullOut = e.pullOut ∧
    (e.joinInbox x).field.groupHash = e.field.groupHash ∧ (e.joinInbox x).commands.tx = e.commands.tx ∧
    (e.joinInbox x).office = e.office ∧ (e.joinInbox x).rerunDue = e.rerunDue ∧
    (e.joinInbox x).fuelDue = e.fuelDue ∧ (e.joinInbox x).washDue = e.washDue ∧
    (e.joinInbox x).pullDue = e.pullDue ∧ (e.joinInbox x).heldBack = e.heldBack ∧
    (e.joinInbox x).washBack = e.washBack ∧ (e.joinInbox x).washLanesBack = e.washLanesBack ∧
    (e.joinInbox x).releasedHere = e.releasedHere := by
  simp [Ev.joinInbox]

@[simp] theorem Ev.overflowInbox_keeps (e : Ev) (x : InboxEntry) :
    (e.overflowInbox x).clock = e.clock ∧ (e.overflowInbox x).params = e.params ∧
    (e.overflowInbox x).pending = e.pending ∧ (e.overflowInbox x).choice = e.choice ∧
    (e.overflowInbox x).holdList = e.holdList ∧ (e.overflowInbox x).channels = e.channels ∧
    (e.overflowInbox x).gate = e.gate ∧ (e.overflowInbox x).laneMap = e.laneMap ∧
    (e.overflowInbox x).fuel = e.fuel ∧ (e.overflowInbox x).wash = e.wash ∧
    (e.overflowInbox x).pullOut = e.pullOut ∧ (e.overflowInbox x).field.groupHash = e.field.groupHash ∧
    (e.overflowInbox x).commands.tx = e.commands.tx ∧ (e.overflowInbox x).office = e.office ∧
    (e.overflowInbox x).rerunDue = e.rerunDue ∧ (e.overflowInbox x).fuelDue = e.fuelDue ∧
    (e.overflowInbox x).washDue = e.washDue ∧ (e.overflowInbox x).pullDue = e.pullDue ∧
    (e.overflowInbox x).heldBack = e.heldBack ∧ (e.overflowInbox x).washBack = e.washBack ∧
    (e.overflowInbox x).washLanesBack = e.washLanesBack ∧ (e.overflowInbox x).releasedHere = e.releasedHere := by
  unfold Ev.overflowInbox; dsimp only; (repeat' split) <;> simp

@[simp] theorem Ev.acceptFrame_keeps (e : Ev) (source : Nat) (report : FieldReport) :
    (e.acceptFrame source report).clock = e.clock ∧ (e.acceptFrame source report).params = e.params ∧
    (e.acceptFrame source report).pending = e.pending ∧ (e.acceptFrame source report).choice = e.choice ∧
    (e.acceptFrame source report).holdList = e.holdList ∧ (e.acceptFrame source report).channels = e.channels ∧
    (e.acceptFrame source report).gate = e.gate ∧ (e.acceptFrame source report).laneMap = e.laneMap ∧
    (e.acceptFrame source report).fuel = e.fuel ∧ (e.acceptFrame source report).wash = e.wash ∧
    (e.acceptFrame source report).pullOut = e.pullOut ∧
    (e.acceptFrame source report).field.groupHash = e.field.groupHash ∧
    (e.acceptFrame source report).commands.tx = e.commands.tx ∧ (e.acceptFrame source report).office = e.office ∧
    (e.acceptFrame source report).rerunDue = e.rerunDue ∧ (e.acceptFrame source report).fuelDue = e.fuelDue ∧
    (e.acceptFrame source report).washDue = e.washDue ∧ (e.acceptFrame source report).pullDue = e.pullDue ∧
    (e.acceptFrame source report).heldBack = e.heldBack ∧ (e.acceptFrame source report).washBack = e.washBack ∧
    (e.acceptFrame source report).washLanesBack = e.washLanesBack ∧
    (e.acceptFrame source report).releasedHere = e.releasedHere := by
  unfold Ev.acceptFrame; dsimp only; (repeat' split) <;> simp

@[simp] theorem Ev.takeFrame_keeps (e : Ev) (f : Frame) :
    (e.takeFrame f).clock = e.clock ∧ (e.takeFrame f).params = e.params ∧ (e.takeFrame f).pending = e.pending ∧
    (e.takeFrame f).choice = e.choice ∧ (e.takeFrame f).holdList = e.holdList ∧
    (e.takeFrame f).channels = e.channels ∧ (e.takeFrame f).gate = e.gate ∧ (e.takeFrame f).laneMap = e.laneMap ∧
    (e.takeFrame f).fuel = e.fuel ∧ (e.takeFrame f).wash = e.wash ∧ (e.takeFrame f).pullOut = e.pullOut ∧
    (e.takeFrame f).field.groupHash = e.field.groupHash ∧ (e.takeFrame f).commands.tx = e.commands.tx ∧
    (e.takeFrame f).office = e.office ∧ (e.takeFrame f).rerunDue = e.rerunDue ∧
    (e.takeFrame f).fuelDue = e.fuelDue ∧ (e.takeFrame f).washDue = e.washDue ∧
    (e.takeFrame f).pullDue = e.pullDue ∧ (e.takeFrame f).heldBack = e.heldBack ∧
    (e.takeFrame f).washBack = e.washBack ∧ (e.takeFrame f).washLanesBack = e.washLanesBack ∧
    (e.takeFrame f).releasedHere = e.releasedHere := by
  unfold Ev.takeFrame; (repeat' split) <;> simp

@[simp] theorem Ev.fieldArrival_keeps (e : Ev) (f : Frame) :
    (e.fieldArrival f).clock = e.clock ∧ (e.fieldArrival f).params = e.params ∧
    (e.fieldArrival f).pending = e.pending ∧ (e.fieldArrival f).choice = e.choice ∧
    (e.fieldArrival f).holdList = e.holdList ∧ (e.fieldArrival f).channels = e.channels ∧
    (e.fieldArrival f).gate = e.gate ∧ (e.fieldArrival f).laneMap = e.laneMap ∧ (e.fieldArrival f).fuel = e.fuel ∧
    (e.fieldArrival f).wash = e.wash ∧ (e.fieldArrival f).pullOut = e.pullOut ∧
    (e.fieldArrival f).field.groupHash = e.field.groupHash ∧ (e.fieldArrival f).commands.tx = e.commands.tx ∧
    (e.fieldArrival f).office = e.office ∧ (e.fieldArrival f).rerunDue = e.rerunDue ∧
    (e.fieldArrival f).fuelDue = e.fuelDue ∧ (e.fieldArrival f).washDue = e.washDue ∧
    (e.fieldArrival f).pullDue = e.pullDue ∧ (e.fieldArrival f).heldBack = e.heldBack ∧
    (e.fieldArrival f).washBack = e.washBack ∧ (e.fieldArrival f).washLanesBack = e.washLanesBack ∧
    (e.fieldArrival f).releasedHere = e.releasedHere := by
  unfold Ev.fieldArrival; (repeat' split) <;> simp

@[simp] theorem Ev.relay_keeps (e : Ev) (x : InboxEntry) :
    (e.relay x).clock = e.clock ∧ (e.relay x).params = e.params ∧ (e.relay x).pending = e.pending ∧
    (e.relay x).serial = e.serial ∧ (e.relay x).choice = e.choice ∧ (e.relay x).holdList = e.holdList ∧
    (e.relay x).channels = e.channels ∧ (e.relay x).nodes = e.nodes ∧ (e.relay x).gate = e.gate ∧
    (e.relay x).laneMap = e.laneMap ∧ (e.relay x).fuel = e.fuel ∧ (e.relay x).wash = e.wash ∧
    (e.relay x).pullOut = e.pullOut ∧ (e.relay x).field = e.field ∧ (e.relay x).commands = e.commands ∧
    (e.relay x).office = e.office ∧ (e.relay x).outs = e.outs ∧ (e.relay x).rerunDue = e.rerunDue ∧
    (e.relay x).fuelDue = e.fuelDue ∧ (e.relay x).washDue = e.washDue ∧ (e.relay x).pullDue = e.pullDue ∧
    (e.relay x).heldBack = e.heldBack ∧ (e.relay x).washBack = e.washBack ∧
    (e.relay x).washLanesBack = e.washLanesBack ∧ (e.relay x).releasedHere = e.releasedHere := by
  simp [Ev.relay]


@[simp] theorem Ev.tagDelivered_keeps (e : Ev) (x : InboxEntry) (r : Nat × Option Nat) :
    (e.tagDelivered x r).clock = e.clock ∧ (e.tagDelivered x r).params = e.params ∧
    (e.tagDelivered x r).pending = e.pending ∧ (e.tagDelivered x r).choice = e.choice ∧
    (e.tagDelivered x r).gate.classes = e.gate.classes ∧ (e.tagDelivered x r).fuel.stock = e.fuel.stock ∧
    (e.tagDelivered x r).wash.waived = e.wash.waived ∧ (e.tagDelivered x r).field = e.field ∧
    (e.tagDelivered x r).commands.tx = e.commands.tx ∧ (e.tagDelivered x r).office.orders = e.office.orders ∧
    (e.tagDelivered x r).office.answers = e.office.answers ∧ (e.tagDelivered x r).office.tx = e.office.tx ∧
    (e.tagDelivered x r).releasedHere = e.releasedHere := by
  unfold Ev.tagDelivered; split <;> simp

@[simp] theorem Ev.sampleDelivered_keeps (e : Ev) (x : InboxEntry) (r : Nat × List Nat) :
    (e.sampleDelivered x r).clock = e.clock ∧ (e.sampleDelivered x r).params = e.params ∧
    (e.sampleDelivered x r).pending = e.pending ∧ (e.sampleDelivered x r).choice = e.choice ∧
    (e.sampleDelivered x r).gate.classes = e.gate.classes ∧ (e.sampleDelivered x r).fuel.stock = e.fuel.stock ∧
    (e.sampleDelivered x r).wash.waived = e.wash.waived ∧ (e.sampleDelivered x r).field = e.field ∧
    (e.sampleDelivered x r).commands.tx = e.commands.tx ∧ (e.sampleDelivered x r).office = e.office ∧
    (e.sampleDelivered x r).releasedHere = e.releasedHere := by
  unfold Ev.sampleDelivered; split <;> simp

@[simp] theorem Ev.healthDelivered_keeps (e : Ev) (x : InboxEntry) (ready : Bool) :
    (e.healthDelivered x ready).clock = e.clock ∧ (e.healthDelivered x ready).params = e.params ∧
    (e.healthDelivered x ready).pending = e.pending ∧ (e.healthDelivered x ready).serial = e.serial ∧
    (e.healthDelivered x ready).choice = e.choice ∧ (e.healthDelivered x ready).holdList = e.holdList ∧
    (e.healthDelivered x ready).channels = e.channels ∧ (e.healthDelivered x ready).gate = e.gate ∧
    (e.healthDelivered x ready).laneMap = e.laneMap ∧ (e.healthDelivered x ready).fuel.queue = e.fuel.queue ∧
    (e.healthDelivered x ready).fuel.stock = e.fuel.stock ∧
    (e.healthDelivered x ready).fuel.committed = e.fuel.committed ∧
    (e.healthDelivered x ready).fuel.belowReserve = e.fuel.belowReserve ∧
    (e.healthDelivered x ready).wash = e.wash ∧ (e.healthDelivered x ready).pullOut = e.pullOut ∧
    (e.healthDelivered x ready).field = e.field ∧ (e.healthDelivered x ready).commands = e.commands ∧
    (e.healthDelivered x ready).office = e.office ∧ (e.healthDelivered x ready).outs = e.outs ∧
    (e.healthDelivered x ready).heldBack = e.heldBack ∧ (e.healthDelivered x ready).washBack = e.washBack ∧
    (e.healthDelivered x ready).washLanesBack = e.washLanesBack ∧
    (e.healthDelivered x ready).releasedHere = e.releasedHere := by
  unfold Ev.healthDelivered; split <;> simp

@[simp] theorem Ev.transmitted_keeps (e : Ev) (tx : FieldTx) :
    (e.transmitted tx).clock = e.clock ∧ (e.transmitted tx).params = e.params ∧
    (e.transmitted tx).pending = e.pending ∧ (e.transmitted tx).serial = e.serial ∧
    (e.transmitted tx).choice = e.choice ∧ (e.transmitted tx).holdList = e.holdList ∧
    (e.transmitted tx).channels = e.channels ∧ (e.transmitted tx).counters = e.counters ∧
    (e.transmitted tx).gate = e.gate ∧ (e.transmitted tx).laneMap = e.laneMap ∧ (e.transmitted tx).fuel = e.fuel ∧
    (e.transmitted tx).wash = e.wash ∧ (e.transmitted tx).pullOut = e.pullOut ∧
    (e.transmitted tx).field = e.field ∧ (e.transmitted tx).notices = e.notices ∧
    (e.transmitted tx).office = e.office ∧ (e.transmitted tx).rerunDue = e.rerunDue ∧
    (e.transmitted tx).fuelDue = e.fuelDue ∧ (e.transmitted tx).washDue = e.washDue ∧
    (e.transmitted tx).pullDue = e.pullDue ∧ (e.transmitted tx).heldBack = e.heldBack ∧
    (e.transmitted tx).washBack = e.washBack ∧ (e.transmitted tx).washLanesBack = e.washLanesBack ∧
    (e.transmitted tx).releasedHere = e.releasedHere := by
  unfold Ev.transmitted; dsimp only; (repeat' split) <;> simp

end Sys2Proof.Machine
end

