-- ==== Sys2Proof/Laws/KeepsOrders.lean ====
section
/-! SUPPORT. What each operation that an order performs leaves as it was. -/

namespace Sys2Proof.Machine

@[simp] theorem Ev.nameCurrent_keeps (e : Ev) :
    e.nameCurrent.clock = e.clock ∧ e.nameCurrent.params = e.params ∧ e.nameCurrent.pending = e.pending ∧
    e.nameCurrent.choice = e.choice ∧ e.nameCurrent.gate.classes = e.gate.classes ∧
    e.nameCurrent.fuel.stock = e.fuel.stock ∧ e.nameCurrent.wash.waived = e.wash.waived ∧
    e.nameCurrent.field = e.field ∧ e.nameCurrent.commands.tx = e.commands.tx ∧
    e.nameCurrent.office.orders = e.office.orders ∧ e.nameCurrent.office.answers = e.office.answers ∧
    e.nameCurrent.office.tx = e.office.tx ∧ e.nameCurrent.releasedHere = e.releasedHere := by
  unfold Ev.nameCurrent; split <;> simp

@[simp] theorem Ev.nameAhead_keeps (e : Ev) (m : Mode) :
    (e.nameAhead m).clock = e.clock ∧ (e.nameAhead m).params = e.params ∧ (e.nameAhead m).pending = e.pending ∧
    (e.nameAhead m).choice = e.choice ∧ (e.nameAhead m).gate.classes = e.gate.classes ∧
    (e.nameAhead m).fuel.stock = e.fuel.stock ∧ (e.nameAhead m).wash.waived = e.wash.waived ∧
    (e.nameAhead m).field = e.field ∧ (e.nameAhead m).commands.tx = e.commands.tx ∧
    (e.nameAhead m).office.orders = e.office.orders ∧ (e.nameAhead m).office.answers = e.office.answers ∧
    (e.nameAhead m).office.tx = e.office.tx ∧ (e.nameAhead m).releasedHere = e.releasedHere := by
  simp [Ev.nameAhead]

@[simp] theorem Ev.nameMode_keeps (e : Ev) (m : Mode) :
    (e.nameMode m).clock = e.clock ∧ (e.nameMode m).params = e.params ∧ (e.nameMode m).pending = e.pending ∧
    (e.nameMode m).choice = e.choice ∧ (e.nameMode m).gate.classes = e.gate.classes ∧
    (e.nameMode m).fuel.stock = e.fuel.stock ∧ (e.nameMode m).wash.waived = e.wash.waived ∧
    (e.nameMode m).field = e.field ∧ (e.nameMode m).commands.tx = e.commands.tx ∧
    (e.nameMode m).office.orders = e.office.orders ∧ (e.nameMode m).office.answers = e.office.answers ∧
    (e.nameMode m).office.tx = e.office.tx ∧ (e.nameMode m).releasedHere = e.releasedHere := by
  unfold Ev.nameMode; (repeat' split) <;> simp

@[simp] theorem Ev.openSchedule_keeps (e : Ev) (first stop : Nat) :
    (e.openSchedule first stop).clock = e.clock ∧ (e.openSchedule first stop).params = e.params ∧
    (e.openSchedule first stop).pending = e.pending ∧ (e.openSchedule first stop).choice = e.choice ∧
    (e.openSchedule first stop).holdList = e.holdList ∧ (e.openSchedule first stop).channels = e.channels ∧
    (e.openSchedule first stop).gate.classes = e.gate.classes ∧ (e.openSchedule first stop).laneMap = e.laneMap ∧
    (e.openSchedule first stop).fuel = e.fuel ∧ (e.openSchedule first stop).wash = e.wash ∧
    (e.openSchedule first stop).field = e.field ∧ (e.openSchedule first stop).commands.tx = e.commands.tx ∧
    (e.openSchedule first stop).office = e.office ∧ (e.openSchedule first stop).rerunDue = e.rerunDue ∧
    (e.openSchedule first stop).fuelDue = e.fuelDue ∧ (e.openSchedule first stop).washDue = e.washDue ∧
    (e.openSchedule first stop).pullDue = e.pullDue ∧ (e.openSchedule first stop).heldBack = e.heldBack ∧
    (e.openSchedule first stop).washBack = e.washBack ∧
    (e.openSchedule first stop).washLanesBack = e.washLanesBack ∧
    (e.openSchedule first stop).releasedHere = e.releasedHere := by
  simp [Ev.openSchedule]

@[simp] theorem Ev.openWindow_keeps (e : Ev) (t : Table) (first stop : Nat) :
    (e.openWindow t first stop).clock = e.clock ∧ (e.openWindow t first stop).params = e.params ∧
    (e.openWindow t first stop).pending = e.pending ∧ (e.openWindow t first stop).choice = e.choice ∧
    (e.openWindow t first stop).holdList = e.holdList ∧ (e.openWindow t first stop).channels = e.channels ∧
    (e.openWindow t first stop).gate.classes = e.gate.classes ∧ (e.openWindow t first stop).laneMap = e.laneMap ∧
    (e.openWindow t first stop).fuel = e.fuel ∧ (e.openWindow t first stop).wash = e.wash ∧
    (e.openWindow t first stop).field = e.field ∧ (e.openWindow t first stop).commands.tx = e.commands.tx ∧
    (e.openWindow t first stop).office.orders = e.office.orders ∧
    (e.openWindow t first stop).office.answers = e.office.answers ∧
    (e.openWindow t first stop).office.tx = e.office.tx ∧
    (e.openWindow t first stop).office.mode = e.office.mode ∧
    (e.openWindow t first stop).office.pendingMode = e.office.pendingMode ∧
    (e.openWindow t first stop).office.dozeFrom = e.office.dozeFrom ∧ (e.openWindow t first stop).office.overdue = e.office.overdue ∧
    (e.openWindow t first stop).rerunDue = e.rerunDue ∧ (e.openWindow t first stop).fuelDue = e.fuelDue ∧
    (e.openWindow t first stop).washDue = e.washDue ∧ (e.openWindow t first stop).pullDue = e.pullDue ∧
    (e.openWindow t first stop).heldBack = e.heldBack ∧ (e.openWindow t first stop).washBack = e.washBack ∧
    (e.openWindow t first stop).washLanesBack = e.washLanesBack ∧
    (e.openWindow t first stop).releasedHere = e.releasedHere := by
  unfold Ev.openWindow; split <;> simp

@[simp] theorem Ev.loadOrder_keeps (e : Ev) (w : Window) (n : Nat) (data : List Byte) :
    (e.loadOrder w n data).1.clock = e.clock ∧ (e.loadOrder w n data).1.pending = e.pending ∧
    (e.loadOrder w n data).1.choice = e.choice ∧ (e.loadOrder w n data).1.fuel.stock = e.fuel.stock ∧
    (e.loadOrder w n data).1.wash.waived = e.wash.waived ∧ (e.loadOrder w n data).1.field.inbox = e.field.inbox ∧
    (e.loadOrder w n data).1.field.quietTimer = e.field.quietTimer ∧
    (e.loadOrder w n data).1.commands.tx = e.commands.tx ∧ (e.loadOrder w n data).1.office = e.office ∧
    (e.loadOrder w n data).1.releasedHere = e.releasedHere := by
  simp [Ev.loadOrder]

@[simp] theorem Ev.setLaneState_keeps (e : Ev) (l : Nat) (st : OfficeState) :
    (e.setLaneState l st).clock = e.clock ∧ (e.setLaneState l st).params = e.params ∧
    (e.setLaneState l st).pending = e.pending ∧ (e.setLaneState l st).serial = e.serial ∧
    (e.setLaneState l st).choice = e.choice ∧ (e.setLaneState l st).holdList = e.holdList ∧
    (e.setLaneState l st).channels = e.channels ∧ (e.setLaneState l st).nodes = e.nodes ∧
    (e.setLaneState l st).counters = e.counters ∧ (e.setLaneState l st).gate = e.gate ∧
    (e.setLaneState l st).laneMap.directions = e.laneMap.directions ∧ (e.setLaneState l st).fuel = e.fuel ∧
    (e.setLaneState l st).wash = e.wash ∧ (e.setLaneState l st).pullOut = e.pullOut ∧
    (e.setLaneState l st).field = e.field ∧ (e.setLaneState l st).commands = e.commands ∧
    (e.setLaneState l st).notices = e.notices ∧ (e.setLaneState l st).office = e.office ∧
    (e.setLaneState l st).outs = e.outs ∧ (e.setLaneState l st).fuelDue = e.fuelDue ∧
    (e.setLaneState l st).washDue = e.washDue ∧ (e.setLaneState l st).heldBack = e.heldBack ∧
    (e.setLaneState l st).washBack = e.washBack ∧ (e.setLaneState l st).washLanesBack = e.washLanesBack ∧
    (e.setLaneState l st).releasedHere = e.releasedHere := by
  simp [Ev.setLaneState]

@[simp] theorem Ev.parkPlaced_keeps (e : Ev) (l : Nat) (x : LaneEntry) :
    (e.parkPlaced l x).clock = e.clock ∧ (e.parkPlaced l x).params = e.params ∧
    (e.parkPlaced l x).pending = e.pending ∧ (e.parkPlaced l x).serial = e.serial ∧
    (e.parkPlaced l x).choice = e.choice ∧ (e.parkPlaced l x).channels = e.channels ∧
    (e.parkPlaced l x).nodes = e.nodes ∧ (e.parkPlaced l x).counters = e.counters ∧
    (e.parkPlaced l x).gate.classes = e.gate.classes ∧ (e.parkPlaced l x).laneMap = e.laneMap ∧
    (e.parkPlaced l x).fuel = e.fuel ∧ (e.parkPlaced l x).wash = e.wash ∧ (e.parkPlaced l x).pullOut = e.pullOut ∧
    (e.parkPlaced l x).field = e.field ∧ (e.parkPlaced l x).commands = e.commands ∧
    (e.parkPlaced l x).notices = e.notices ∧ (e.parkPlaced l x).office = e.office ∧
    (e.parkPlaced l x).outs = e.outs ∧ (e.parkPlaced l x).rerunDue = e.rerunDue ∧
    (e.parkPlaced l x).fuelDue = e.fuelDue ∧ (e.parkPlaced l x).washDue = e.washDue ∧
    (e.parkPlaced l x).pullDue = e.pullDue ∧ (e.parkPlaced l x).heldBack = e.heldBack ∧
    (e.parkPlaced l x).washBack = e.washBack ∧ (e.parkPlaced l x).washLanesBack = e.washLanesBack ∧
    (e.parkPlaced l x).releasedHere = e.releasedHere := by
  unfold Ev.parkPlaced; (repeat' split) <;> simp

@[simp] theorem Ev.placeEntry_keeps (e : Ev) (l position : Nat) (x : LaneEntry) :
    (e.placeEntry l position x).clock = e.clock ∧ (e.placeEntry l position x).params = e.params ∧
    (e.placeEntry l position x).pending = e.pending ∧ (e.placeEntry l position x).serial = e.serial ∧
    (e.placeEntry l position x).choice = e.choice ∧ (e.placeEntry l position x).channels = e.channels ∧
    (e.placeEntry l position x).nodes = e.nodes ∧ (e.placeEntry l position x).counters = e.counters ∧
    (e.placeEntry l position x).gate.classes = e.gate.classes ∧
    (e.placeEntry l position x).laneMap.directions = e.laneMap.directions ∧
    (e.placeEntry l position x).fuel = e.fuel ∧ (e.placeEntry l position x).wash = e.wash ∧
    (e.placeEntry l position x).pullOut = e.pullOut ∧ (e.placeEntry l position x).field = e.field ∧
    (e.placeEntry l position x).commands = e.commands ∧ (e.placeEntry l position x).notices = e.notices ∧
    (e.placeEntry l position x).office = e.office ∧ (e.placeEntry l position x).outs = e.outs ∧
    (e.placeEntry l position x).fuelDue = e.fuelDue ∧ (e.placeEntry l position x).washDue = e.washDue ∧
    (e.placeEntry l position x).heldBack = e.heldBack ∧ (e.placeEntry l position x).washBack = e.washBack ∧
    (e.placeEntry l position x).washLanesBack = e.washLanesBack ∧
    (e.placeEntry l position x).releasedHere = e.releasedHere := by
  simp [Ev.placeEntry]

@[simp] theorem Ev.loseRemoved_keeps (e : Ev) (x : Option LaneEntry) :
    (e.loseRemoved x).clock = e.clock ∧ (e.loseRemoved x).params = e.params ∧
    (e.loseRemoved x).pending = e.pending ∧ (e.loseRemoved x).serial = e.serial ∧
    (e.loseRemoved x).choice = e.choice ∧ (e.loseRemoved x).holdList = e.holdList ∧
    (e.loseRemoved x).channels = e.channels ∧ (e.loseRemoved x).nodes = e.nodes ∧
    (e.loseRemoved x).counters = e.counters ∧ (e.loseRemoved x).gate.classes = e.gate.classes ∧
    (e.loseRemoved x).laneMap = e.laneMap ∧ (e.loseRemoved x).fuel = e.fuel ∧ (e.loseRemoved x).wash = e.wash ∧
    (e.loseRemoved x).pullOut = e.pullOut ∧ (e.loseRemoved x).field = e.field ∧
    (e.loseRemoved x).commands = e.commands ∧ (e.loseRemoved x).notices = e.notices ∧
    (e.loseRemoved x).office = e.office ∧ (e.loseRemoved x).outs = e.outs ∧
    (e.loseRemoved x).rerunDue = e.rerunDue ∧ (e.loseRemoved x).fuelDue = e.fuelDue ∧
    (e.loseRemoved x).washDue = e.washDue ∧ (e.loseRemoved x).pullDue = e.pullDue ∧
    (e.loseRemoved x).heldBack = e.heldBack ∧ (e.loseRemoved x).washBack = e.washBack ∧
    (e.loseRemoved x).washLanesBack = e.washLanesBack ∧ (e.loseRemoved x).releasedHere = e.releasedHere := by
  unfold Ev.loseRemoved; split <;> simp

@[simp] theorem Ev.removeEntry_keeps (e : Ev) (l position : Nat) :
    (e.removeEntry l position).clock = e.clock ∧ (e.removeEntry l position).params = e.params ∧
    (e.removeEntry l position).pending = e.pending ∧ (e.removeEntry l position).serial = e.serial ∧
    (e.removeEntry l position).choice = e.choice ∧ (e.removeEntry l position).holdList = e.holdList ∧
    (e.removeEntry l position).channels = e.channels ∧ (e.removeEntry l position).nodes = e.nodes ∧
    (e.removeEntry l position).counters = e.counters ∧ (e.removeEntry l position).gate.classes = e.gate.classes ∧
    (e.removeEntry l position).laneMap.directions = e.laneMap.directions ∧
    (e.removeEntry l position).fuel = e.fuel ∧ (e.removeEntry l position).wash = e.wash ∧
    (e.removeEntry l position).pullOut = e.pullOut ∧ (e.removeEntry l position).field = e.field ∧
    (e.removeEntry l position).commands = e.commands ∧ (e.removeEntry l position).notices = e.notices ∧
    (e.removeEntry l position).office = e.office ∧ (e.removeEntry l position).outs = e.outs ∧
    (e.removeEntry l position).fuelDue = e.fuelDue ∧ (e.removeEntry l position).washDue = e.washDue ∧
    (e.removeEntry l position).heldBack = e.heldBack ∧ (e.removeEntry l position).washBack = e.washBack ∧
    (e.removeEntry l position).washLanesBack = e.washLanesBack ∧
    (e.removeEntry l position).releasedHere = e.releasedHere := by
  simp [Ev.removeEntry]

@[simp] theorem Ev.pin_keeps (e : Ev) (d b : Nat) :
    (e.pin d b).clock = e.clock ∧ (e.pin d b).params = e.params ∧ (e.pin d b).pending = e.pending ∧
    (e.pin d b).choice = e.choice ∧ (e.pin d b).holdList = e.holdList ∧ (e.pin d b).channels = e.channels ∧
    (e.pin d b).gate.classes = e.gate.classes ∧ (e.pin d b).laneMap = e.laneMap ∧ (e.pin d b).fuel = e.fuel ∧
    (e.pin d b).wash = e.wash ∧ (e.pin d b).field = e.field ∧ (e.pin d b).commands.tx = e.commands.tx ∧
    (e.pin d b).office = e.office ∧ (e.pin d b).rerunDue = e.rerunDue ∧ (e.pin d b).fuelDue = e.fuelDue ∧
    (e.pin d b).washDue = e.washDue ∧ (e.pin d b).pullDue = e.pullDue ∧ (e.pin d b).heldBack = e.heldBack ∧
    (e.pin d b).washBack = e.washBack ∧ (e.pin d b).washLanesBack = e.washLanesBack ∧
    (e.pin d b).releasedHere = e.releasedHere := by
  unfold Ev.pin; split <;> simp

@[simp] theorem Ev.cancel_keeps (e : Ev) (d : Nat) :
    (e.cancel d).clock = e.clock ∧ (e.cancel d).params = e.params ∧ (e.cancel d).pending = e.pending ∧
    (e.cancel d).choice = e.choice ∧ (e.cancel d).holdList = e.holdList ∧ (e.cancel d).channels = e.channels ∧
    (e.cancel d).gate.classes = e.gate.classes ∧ (e.cancel d).laneMap = e.laneMap ∧ (e.cancel d).fuel = e.fuel ∧
    (e.cancel d).wash = e.wash ∧ (e.cancel d).field = e.field ∧ (e.cancel d).commands.tx = e.commands.tx ∧
    (e.cancel d).office = e.office ∧ (e.cancel d).rerunDue = e.rerunDue ∧ (e.cancel d).fuelDue = e.fuelDue ∧
    (e.cancel d).washDue = e.washDue ∧ (e.cancel d).pullDue = e.pullDue ∧ (e.cancel d).heldBack = e.heldBack ∧
    (e.cancel d).washBack = e.washBack ∧ (e.cancel d).washLanesBack = e.washLanesBack ∧
    (e.cancel d).releasedHere = e.releasedHere := by
  simp [Ev.cancel]

@[simp] theorem Ev.setStock_keeps (e : Ev) (litres : Nat) :
    (e.setStock litres).clock = e.clock ∧ (e.setStock litres).params = e.params ∧
    (e.setStock litres).pending = e.pending ∧ (e.setStock litres).serial = e.serial ∧
    (e.setStock litres).choice = e.choice ∧ (e.setStock litres).holdList = e.holdList ∧
    (e.setStock litres).channels = e.channels ∧ (e.setStock litres).nodes = e.nodes ∧
    (e.setStock litres).gate = e.gate ∧ (e.setStock litres).laneMap = e.laneMap ∧
    (e.setStock litres).fuel.queue = e.fuel.queue ∧ (e.setStock litres).fuel.dispensers = e.fuel.dispensers ∧
    (e.setStock litres).fuel.committed = e.fuel.committed ∧ (e.setStock litres).wash = e.wash ∧
    (e.setStock litres).pullOut = e.pullOut ∧ (e.setStock litres).field = e.field ∧
    (e.setStock litres).commands = e.commands ∧ (e.setStock litres).office = e.office ∧
    (e.setStock litres).outs = e.outs ∧ (e.setStock litres).rerunDue = e.rerunDue ∧
    (e.setStock litres).fuelDue = e.fuelDue ∧ (e.setStock litres).washDue = e.washDue ∧
    (e.setStock litres).pullDue = e.pullDue ∧ (e.setStock litres).heldBack = e.heldBack ∧
    (e.setStock litres).washBack = e.washBack ∧ (e.setStock litres).washLanesBack = e.washLanesBack ∧
    (e.setStock litres).releasedHere = e.releasedHere := by
  simp [Ev.setStock]

@[simp] theorem Ev.placeForward_keeps (e : Ev) (o : Order) :
    (e.placeForward o).clock = e.clock ∧ (e.placeForward o).params = e.params ∧
    (e.placeForward o).pending = e.pending ∧ (e.placeForward o).choice = e.choice ∧
    (e.placeForward o).holdList = e.holdList ∧ (e.placeForward o).channels = e.channels ∧
    (e.placeForward o).gate = e.gate ∧ (e.placeForward o).laneMap = e.laneMap ∧ (e.placeForward o).fuel = e.fuel ∧
    (e.placeForward o).wash = e.wash ∧ (e.placeForward o).pullOut = e.pullOut ∧
    (e.placeForward o).field = e.field ∧ (e.placeForward o).commands.tx = e.commands.tx ∧
    (e.placeForward o).office = e.office ∧ (e.placeForward o).rerunDue = e.rerunDue ∧
    (e.placeForward o).fuelDue = e.fuelDue ∧ (e.placeForward o).washDue = e.washDue ∧
    (e.placeForward o).pullDue = e.pullDue ∧ (e.placeForward o).heldBack = e.heldBack ∧
    (e.placeForward o).washBack = e.washBack ∧ (e.placeForward o).washLanesBack = e.washLanesBack ∧
    (e.placeForward o).releasedHere = e.releasedHere := by
  simp [Ev.placeForward]

end Sys2Proof.Machine
end

