-- ==== Sys2Proof/Laws/LoadedTurns.lean ====
section
/-! SUPPORT. The loaded fields of the tables, which no operation but the write of a loaded record changes. -/

namespace Sys2Proof.Machine

/-! ### The loaded fields, written out -/

theorem BusRec.loaded_eq (r : BusRec) : r.loaded =
    { BusRec.cold with valid := r.valid, fleet := r.fleet, tag := r.tag, cls := r.cls, washInterval := r.washInterval } := by
  cases r; rfl

theorem LaneRec.loaded_eq (r : LaneRec) : r.loaded =
    { LaneRec.cold with valid := r.valid, kind := r.kind, length := r.length, classMask := r.classMask, cost := r.cost, entrySignal := r.entrySignal, headSignal := r.headSignal, entryLoop := r.entryLoop, exitLoop := r.exitLoop } := by
  cases r; rfl

theorem DutyRec.loaded_eq (r : DutyRec) : r.loaded =
    { DutyRec.cold with valid := r.valid, code := r.code, planned := r.planned, cls := r.cls, minLevel := r.minLevel } := by
  cases r; rfl

theorem DispenserRec.loaded_eq (r : DispenserRec) : r.loaded =
    { DispenserRec.cold with valid := r.valid, island := r.island, classMask := r.classMask, controller := r.controller, baySignal := r.baySignal, bayLoop := r.bayLoop } := by
  cases r; rfl

theorem WashLaneRec.loaded_eq (r : WashLaneRec) : r.loaded =
    { WashLaneRec.cold with valid := r.valid, classMask := r.classMask, controller := r.controller, entrySignal := r.entrySignal, fullTime := r.fullTime, shortTime := r.shortTime, clearBase := r.clearBase } := by
  cases r; rfl

theorem ChannelRec.loaded_eq (r : ChannelRec) : r.loaded =
    { ChannelRec.cold with valid := r.valid, node := r.node, input := r.input, use := r.use, k := r.k, hold := r.hold, onDelta := r.onDelta, offDelta := r.offDelta } := by
  cases r; rfl

theorem NodeRec.loaded_eq (r : NodeRec) : r.loaded =
    { NodeRec.cold with valid := r.valid, role := r.role, roleIndex := r.roleIndex } := by
  cases r; rfl


/-! ### The setters -/

theorem State.tables_eq {s t : State} (h1 : s.gate = t.gate) (h2 : s.laneMap.lanes = t.laneMap.lanes) (h3 : s.pullOut.duties = t.pullOut.duties)
    (h4 : s.nodes = t.nodes) (h5 : s.channels = t.channels) (h6 : s.fuel.dispensers = t.fuel.dispensers) (h7 : s.wash.lanes = t.wash.lanes)
    (h8 : s.field.groupHash = t.field.groupHash) : s.tables = t.tables := by
  simp only [State.tables, State.bus, State.lane, State.duty, State.node, State.channel, State.dispenser, State.washLane, h1, h2, h3, h4, h5,
    h6, h7, h8]

theorem tget_tset_congr {α β : Type} {n : Nat} [Inhabited α] (π : α → β) (v : Vector α n) (i j : Nat) (a : α) (h : π a = π (tget v i)) :
    π (tget (tset v i a) j) = π (tget v j) := by
  rw [tget_tset]
  split
  · rename_i hj; rw [h, hj.1]
  · rfl

@[simp] theorem Ev.setBus_tables (e : Ev) (i : Nat) (r : BusRec) (h : r.loaded = (e.bus i).loaded) : (e.setBus i r).tables = e.tables := by
  have hr : ∀ j, ((e.setBus i r).bus j).loaded = (e.bus j).loaded := fun j => tget_tset_congr BusRec.loaded e.gate.buses i j r h
  simp [State.tables, hr]

@[simp] theorem Ev.setLane_tables (e : Ev) (i : Nat) (r : LaneRec) (h : r.loaded = (e.lane i).loaded) : (e.setLane i r).tables = e.tables := by
  have hr : ∀ j, ((e.setLane i r).lane j).loaded = (e.lane j).loaded := fun j => tget_tset_congr LaneRec.loaded e.laneMap.lanes i j r h
  simp [State.tables, hr]

@[simp] theorem Ev.setDuty_tables (e : Ev) (i : Nat) (r : DutyRec) (h : r.loaded = (e.duty i).loaded) : (e.setDuty i r).tables = e.tables := by
  have hr : ∀ j, ((e.setDuty i r).duty j).loaded = (e.duty j).loaded := fun j => tget_tset_congr DutyRec.loaded e.pullOut.duties i j r h
  simp [State.tables, hr]

@[simp] theorem Ev.setChannel_tables (e : Ev) (i : Nat) (r : ChannelRec) (h : r.loaded = (e.channel i).loaded) : (e.setChannel i r).tables = e.tables := by
  have hr : ∀ j, ((e.setChannel i r).channel j).loaded = (e.channel j).loaded := fun j => tget_tset_congr ChannelRec.loaded e.channels i j r h
  simp [State.tables, hr]

@[simp] theorem Ev.setDispenser_tables (e : Ev) (i : Nat) (r : DispenserRec) (h : r.loaded = (e.dispenser i).loaded) : (e.setDispenser i r).tables = e.tables := by
  have hr : ∀ j, ((e.setDispenser i r).dispenser j).loaded = (e.dispenser j).loaded := fun j => tget_tset_congr DispenserRec.loaded e.fuel.dispensers i j r h
  simp [State.tables, hr]

@[simp] theorem Ev.setWashLane_tables (e : Ev) (i : Nat) (r : WashLaneRec) (h : r.loaded = (e.washLane i).loaded) : (e.setWashLane i r).tables = e.tables := by
  have hr : ∀ j, ((e.setWashLane i r).washLane j).loaded = (e.washLane j).loaded := fun j => tget_tset_congr WashLaneRec.loaded e.wash.lanes i j r h
  simp [State.tables, hr]

@[simp] theorem Ev.setNode_tables (e : Ev) (i : Nat) (r : NodeRec) (h : r.loaded = (e.node i).loaded ∨ i = 0) :
    (e.setNode i r).tables = e.tables := by
  have hr : ∀ j, ((e.setNode i r).node j).loaded = (e.node j).loaded := fun j => by
    unfold Ev.setNode State.node
    split
    · rfl
    · rename_i hj
      rcases h with h | h
      · by_cases hi : i = 0
        · subst hi; dsimp only; rw [tget_tset]; split
          · rename_i h'; exact absurd h'.1.symm hj
          · rfl
        · have h' : r.loaded = (tget e.nodes i).loaded := by simpa [State.node, hi] using h
          exact tget_tset_congr NodeRec.loaded e.nodes i j r h'
      · subst h; dsimp only; rw [tget_tset]; split
        · rename_i h'; exact absurd h'.1.symm hj
        · rfl
  simp [State.tables, hr]
@[simp] theorem Ev.setDirections_tables (e : Ev) (ds : List Direction) : (e.setDirections ds).tables = e.tables := rfl
@[simp] theorem Ev.setHold_tables (e : Ev) (bs : List Nat) : (e.setHold bs).tables = e.tables := rfl
@[simp] theorem Ev.setRelease_tables (e : Ev) (l : Nat) (r : Option ReleaseRec) : (e.setRelease l r).tables = e.tables := rfl
@[simp] theorem Ev.setFuelQueue_tables (e : Ev) (q : List FuelEntry) : (e.setFuelQueue q).tables = e.tables := rfl
@[simp] theorem Ev.setWashQueue_tables (e : Ev) (q : List WashEntry) : (e.setWashQueue q).tables = e.tables := rfl
@[simp] theorem Ev.setCommands_tables (e : Ev) (q : List CommandEntry) : (e.setCommands q).tables = e.tables := rfl
@[simp] theorem Ev.decideAll_tables (e : Ev) (k : CommandKind) (d : Nat) (r : Result3) (cs : List Contribution) : (e.decideAll k d r cs).tables = e.tables := rfl
@[simp] theorem Ev.countBy_tables (e : Ev) (c : Counter) (n : Nat) : (e.countBy c n).tables = e.tables := rfl
@[simp] theorem Ev.count_tables (e : Ev) (c : Counter) : (e.count c).tables = e.tables := rfl
@[simp] theorem Ev.dropNotice_tables (e : Ev) : e.dropNotice.tables = e.tables := rfl
@[simp] theorem Ev.triggerRerun_tables (e : Ev) : e.triggerRerun.tables = e.tables := rfl
@[simp] theorem Ev.triggerFuel_tables (e : Ev) : e.triggerFuel.tables = e.tables := rfl
@[simp] theorem Ev.triggerWash_tables (e : Ev) : e.triggerWash.tables = e.tables := rfl
@[simp] theorem Ev.triggerPull_tables (e : Ev) : e.triggerPull.tables = e.tables := rfl
@[simp] theorem Ev.triggerAll_tables (e : Ev) : e.triggerAll.tables = e.tables := rfl
@[simp] theorem Ev.nextSerial_tables (e : Ev) : e.nextSerial.2.tables = e.tables := rfl
@[simp] theorem Ev.setPlace_tables (e : Ev) (b : Nat) (p : Place) : (e.setPlace b p).tables = e.tables := by
  simp [Ev.setPlace, BusRec.loaded_eq]
@[simp] theorem Ev.ite_tables (c : Prop) [Decidable c] (a b : Ev) : (if c then a else b).tables = if c then a.tables else b.tables := by
  split <;> rfl
theorem Ev.foldl_tables {α : Type} (g : Ev → α → Ev) (h : ∀ e a, (g e a).tables = e.tables) (l : List α) (e : Ev) :
    (l.foldl g e).tables = e.tables := foldl_keeps (fun e => e.tables) g h l e

theorem tget_tmap_congr {α β : Type} {n : Nat} [Inhabited α] (π : α → β) (f : Nat → α → α) (v : Vector α n) (j : Nat)
    (h : ∀ i a, π (f i a) = π a) : π (tget (tmap f v) j) = π (tget v j) := by
  rw [tget_tmap]
  split
  · exact h _ _
  · rename_i hj; rw [tget_outside v hj]

/-! ### The operations -/

@[simp] theorem Ev.send_tables (e : Ev) (n : Notice) : (e.send n).tables = e.tables :=
  State.tables_eq (by simp) (by simp) (by simp) (by simp) (by simp) (by simp) (by simp) (by simp)

@[simp] theorem Ev.deriveReserve_tables (e : Ev) : e.deriveReserve.tables = e.tables :=
  State.tables_eq (by simp) (by simp) (by simp) (by simp) (by simp) (by simp) (by simp) (by simp)

@[simp] theorem Ev.comparePermissions_tables (e : Ev) (before : State) : (e.comparePermissions before).tables = e.tables :=
  State.tables_eq (by simp) (by simp) (by simp) (by simp) (by simp) (by simp) (by simp) (by simp)

@[simp] theorem Ev.updateShadow_tables (e : Ev) (destination : Nat) (kind : CommandKind) (mask : Word16) : (e.updateShadow destination kind mask).tables = e.tables := by
  unfold Ev.updateShadow; (repeat' split) <;> simp [NodeRec.loaded_eq]

@[simp] theorem Ev.clearShadows_tables (e : Ev) : e.clearShadows.tables = e.tables := by
  have hr : ∀ j, ((e.clearShadows).node j).loaded = (e.node j).loaded := fun j => by
    unfold Ev.clearShadows State.node
    split
    · rfl
    · exact tget_tmap_congr NodeRec.loaded _ e.nodes j (fun _ _ => rfl)
  have h : ((e.clearShadows).tables) = { e.tables with node := fun n => ((e.clearShadows).node n).loaded } := rfl
  rw [h]
  simp only [hr]
  rfl

@[simp] theorem Ev.failAtOnce_tables (e : Ev) : e.failAtOnce.tables = e.tables :=
  State.tables_eq (by simp) (by simp) (by simp) (by simp) (by simp) (by simp) (by simp) (by simp)

@[simp] theorem Ev.stripOpposite_tables (e : Ev) (opposite : CommandKind) (destination : Nat) (mask : Word16) : (e.stripOpposite opposite destination mask).tables = e.tables :=
  State.tables_eq (by simp) (by simp) (by simp) (by simp) (by simp) (by simp) (by simp) (by simp)

@[simp] theorem Ev.append_tables (e : Ev) (destination : Nat) (kind : CommandKind) (c : Contribution) : (e.append destination kind c).tables = e.tables :=
  State.tables_eq (by simp) (by simp) (by simp) (by simp) (by simp) (by simp) (by simp) (by simp)

@[simp] theorem Ev.takeRoom_tables (e : Ev) (destination : Nat) (kind : CommandKind) (c : Contribution) : (e.takeRoom destination kind c).tables = e.tables :=
  State.tables_eq (by simp) (by simp) (by simp) (by simp) (by simp) (by simp) (by simp) (by simp)

@[simp] theorem Ev.takeQueued_tables (e : Ev) (destination : Nat) (kind : CommandKind) (c : Contribution) : (e.takeQueued destination kind c).tables = e.tables :=
  State.tables_eq (by simp) (by simp) (by simp) (by simp) (by simp) (by simp) (by simp) (by simp)

@[simp] theorem Ev.takeShadow_tables (e : Ev) (destination : Nat) (kind : CommandKind) (c : Contribution) : (e.takeShadow destination kind c).tables = e.tables := by
  simp [Ev.takeShadow]

@[simp] theorem Ev.request_tables (e : Ev) (destination : Nat) (kind : CommandKind) (c : Contribution) : (e.request destination kind c).tables = e.tables := by
  simp [Ev.request]

@[simp] theorem Ev.requestAspect_tables (e : Ev) (sig : Signal) (kind : CommandKind) (p : Purpose) : (e.requestAspect sig kind p).tables = e.tables := by
  simp [Ev.requestAspect]

@[simp] theorem Ev.requestClear_tables (e : Ev) (sig : Signal) (p : Purpose) : (e.requestClear sig p).tables = e.tables := by
  simp [Ev.requestClear]

@[simp] theorem Ev.requestPlain_tables (e : Ev) (destination : Nat) (kind : CommandKind) (p : Purpose) : (e.requestPlain destination kind p).tables = e.tables := by
  simp [Ev.requestPlain]

@[simp] theorem Ev.allStop_tables (e : Ev) : e.allStop.tables = e.tables := by
  simp [Ev.allStop]

@[simp] theorem Ev.tellOutOfCutOff_tables (e : Ev) (n : Nat) : (e.tellOutOfCutOff n).tables = e.tables :=
  State.tables_eq (by simp) (by simp) (by simp) (by simp) (by simp) (by simp) (by simp) (by simp)

@[simp] theorem Ev.setScore_tables (e : Ev) (n score : Nat) : (e.setScore n score).tables = e.tables := by
  simp [Ev.setScore, NodeRec.loaded_eq]

@[simp] theorem Ev.restoreNode_tables (e : Ev) (n : Nat) : (e.restoreNode n).tables = e.tables := by
  simp [Ev.restoreNode, NodeRec.loaded_eq]

@[simp] theorem Ev.transmit_tables (e : Ev) (x : CommandEntry) : (e.transmit x).tables = e.tables := by
  have h : ∀ (f : Ev) (x : Option FieldTx), ({ f with commands.tx := x } : Ev).tables = f.tables := fun _ _ => rfl
  unfold Ev.transmit
  dsimp only
  rw [h]
  split <;> simp [NodeRec.loaded_eq]

@[simp] theorem Ev.entryDone_tables (e : Ev) (x : CommandEntry) : (e.entryDone x).tables = e.tables := by
  simp [Ev.entryDone]

@[simp] theorem Ev.attemptDone_tables (e : Ev) (x : CommandEntry) : (e.attemptDone x).tables = e.tables := by
  simp [Ev.attemptDone, NodeRec.loaded_eq]

@[simp] theorem Ev.attemptFailed_tables (e : Ev) (x : CommandEntry) : (e.attemptFailed x).tables = e.tables := by
  simp [Ev.attemptFailed, NodeRec.loaded_eq]

@[simp] theorem Ev.takeAck_tables (e : Ev) (n : Nat) (echoed : Byte) (ok : Bool) : (e.takeAck n echoed ok).tables = e.tables := by
  unfold Ev.takeAck; (repeat' split) <;> simp

@[simp] theorem Ev.abortWaiting_tables (e : Ev) : e.abortWaiting.tables = e.tables :=
  State.tables_eq (by simp) (by simp) (by simp) (by simp) (by simp) (by simp) (by simp) (by simp)

@[simp] theorem Ev.clearCommands_tables (e : Ev) : e.clearCommands.tables = e.tables := by
  have hr : ∀ j, ((e.clearCommands).node j).loaded = (e.node j).loaded := fun j => by
    unfold Ev.clearCommands State.node
    split
    · rfl
    · exact tget_tmap_congr NodeRec.loaded _ e.nodes j (fun _ _ => rfl)
  have h : ((e.clearCommands).tables) = { e.tables with node := fun n => ((e.clearCommands).node n).loaded } := rfl
  rw [h]
  simp only [hr]
  rfl

@[simp] theorem Ev.takeAgain_tables (e : Ev) (x : CommandEntry) : (e.takeAgain x).tables = e.tables :=
  Ev.foldl_tables _ (fun e c => by simp) _ e

@[simp] theorem Ev.finishInShadow_tables (e : Ev) : e.finishInShadow.tables = e.tables :=
  (Ev.foldl_tables _ (fun e x => by simp) _ _).trans (by simp)

@[simp] theorem Ev.takeHealth_tables (e : Ev) (n : Nat) (ready : Bool) : (e.takeHealth n ready).tables = e.tables := by
  simp [Ev.takeHealth, NodeRec.loaded_eq]

@[simp] theorem Ev.stopRelease_tables (e : Ev) (l : Nat) (duty : Option Nat) : (e.stopRelease l duty).tables = e.tables := by
  simp [Ev.stopRelease]

@[simp] theorem Ev.bind_tables (e : Ev) (b d : Nat) : (e.bind b d).tables = e.tables := by
  simp [Ev.bind, BusRec.loaded_eq, DutyRec.loaded_eq]

@[simp] theorem Ev.depart_tables (e : Ev) (d : Nat) (classified : DepartedAs) : (e.depart d classified).tables = e.tables := by
  unfold Ev.depart; dsimp only; (repeat' split) <;> simp [DutyRec.loaded_eq]

@[simp] theorem Ev.clearNames_tables (e : Ev) (b d : Nat) : (e.clearNames b d).tables = e.tables := by
  simp [Ev.clearNames, BusRec.loaded_eq, DutyRec.loaded_eq]

@[simp] theorem Ev.withdrawRelease_tables (e : Ev) (d : Nat) : (e.withdrawRelease d).tables = e.tables := by
  unfold Ev.withdrawRelease; (repeat' split) <;> simp [DutyRec.loaded_eq]

@[simp] theorem Ev.unbind_tables (e : Ev) (b : Nat) : (e.unbind b).tables = e.tables := by
  unfold Ev.unbind; (repeat' split) <;> simp [DutyRec.loaded_eq]

@[simp] theorem Ev.departBus_tables (e : Ev) (b : Nat) (classified : DepartedAs) : (e.departBus b classified).tables = e.tables := by
  unfold Ev.departBus; (repeat' split) <;> simp

@[simp] theorem Ev.clearPins_tables (e : Ev) (p : Nat → DutyRec → Bool) : (e.clearPins p).tables = e.tables := by
  have hr : ∀ j, ((e.clearPins p).duty j).loaded = (e.duty j).loaded := fun j =>
    tget_tmap_congr DutyRec.loaded _ e.pullOut.duties j (fun i r => by split <;> rfl)
  have h : ((e.clearPins p).tables) = { e.tables with duty := fun n => ((e.clearPins p).duty n).loaded } := rfl
  rw [h]
  simp only [hr]
  rfl

@[simp] theorem Ev.rebindOne_tables (e : Ev) (d : Nat) : (e.rebindOne d).tables = e.tables := by
  unfold Ev.rebindOne; (repeat' split) <;> simp

@[simp] theorem Ev.rebind_tables (e : Ev) : e.rebind.tables = e.tables := by
  unfold Ev.rebind
  exact Ev.foldl_tables _ (fun e c => by unfold Ev.rebindClass; exact Ev.foldl_tables _ (fun e d => by simp) _ e) _ e

@[simp] theorem Ev.leaveDirection_tables (e : Ev) (d : Direction) : (e.leaveDirection d).tables = e.tables := by
  simp [Ev.leaveDirection]

@[simp] theorem Ev.loseDirected_tables (e : Ev) (d : Direction) : (e.loseDirected d).tables = e.tables := by
  simp [Ev.loseDirected]

@[simp] theorem Ev.joinHold_tables (e : Ev) (b : Nat) : (e.joinHold b).tables = e.tables := by
  simp [Ev.joinHold]

@[simp] theorem Ev.leaveHold_tables (e : Ev) (b : Nat) : (e.leaveHold b).tables = e.tables :=
  State.tables_eq (by simp) (by simp) (by simp) (by simp) (by simp) (by simp) (by simp) (by simp)

@[simp] theorem Ev.bindProvisional_tables (e : Ev) (b : Nat) : (e.bindProvisional b).tables = e.tables := by
  unfold Ev.bindProvisional; (repeat' split) <;> simp

@[simp] theorem Ev.direct_tables (e : Ev) (b l : Nat) : (e.direct b l).tables = e.tables := by
  simp [Ev.direct]

@[simp] theorem Ev.holdBus_tables (e : Ev) (b : Nat) (r : HeldReason) : (e.holdBus b r).tables = e.tables := by
  simp [Ev.holdBus]

@[simp] theorem Ev.attempt_tables (e : Ev) (b : Nat) : (e.attempt b).tables = e.tables := by
  unfold Ev.attempt; dsimp only; (repeat' split) <;> simp

@[simp] theorem Ev.washSkip_tables (e : Ev) (b : Nat) (r : SkipReason) : (e.washSkip b r).tables = e.tables := by
  simp [Ev.washSkip, BusRec.loaded_eq]

@[simp] theorem Ev.passOverWash_tables (e : Ev) (b : Nat) : (e.passOverWash b).tables = e.tables := by
  simp [Ev.passOverWash, BusRec.loaded_eq]

@[simp] theorem Ev.joinWash_tables (e : Ev) (x : WashEntry) (head : Bool) : (e.joinWash x head).tables = e.tables := by
  simp [Ev.joinWash]

@[simp] theorem Ev.enqueueWash_tables (e : Ev) (b : Nat) : (e.enqueueWash b).tables = e.tables := by
  simp [Ev.enqueueWash]

@[simp] theorem Ev.returnWash_tables (e : Ev) (x : WashEntry) (head trigger : Bool) : (e.returnWash x head trigger).tables = e.tables := by
  simp [Ev.returnWash]

@[simp] theorem Ev.washTest_tables (e : Ev) (b : Nat) : (e.washTest b).tables = e.tables := by
  simp [Ev.washTest]

@[simp] theorem Ev.washState_tables (e : Ev) (w : Nat) (st : WashState) : (e.washState w st).tables = e.tables := by
  simp [Ev.washState, WashLaneRec.loaded_eq]

@[simp] theorem Ev.setFaultScore_tables (e : Ev) (w score : Nat) : (e.setFaultScore w score).tables = e.tables := by
  simp [Ev.setFaultScore, WashLaneRec.loaded_eq]

@[simp] theorem Ev.closeOr_tables (e : Ev) (w : Nat) (st : WashState) : (e.closeOr w st).tables = e.tables := by
  simp [Ev.closeOr, WashLaneRec.loaded_eq]

@[simp] theorem Ev.enterReady_tables (e : Ev) (w : Nat) : (e.enterReady w).tables = e.tables := by
  simp [Ev.enterReady]

@[simp] theorem Ev.enterClearingWash_tables (e : Ev) (w pacing : Nat) : (e.enterClearingWash w pacing).tables = e.tables := by
  simp [Ev.enterClearingWash, WashLaneRec.loaded_eq]

@[simp] theorem Ev.emptyWash_tables (e : Ev) (w : Nat) : (e.emptyWash w).tables = e.tables := by
  simp [Ev.emptyWash, WashLaneRec.loaded_eq]

@[simp] theorem Ev.callWash_tables (e : Ev) (x : WashEntry) (w : Nat) : (e.callWash x w).tables = e.tables := by
  simp [Ev.callWash, WashLaneRec.loaded_eq]

@[simp] theorem Ev.washSignalFailed_tables (e : Ev) (w : Nat) : (e.washSignalFailed w).tables = e.tables := by
  unfold Ev.washSignalFailed; (repeat' split) <;> simp

@[simp] theorem Ev.washCallTimedOut_tables (e : Ev) (w : Nat) : (e.washCallTimedOut w).tables = e.tables := by
  unfold Ev.washCallTimedOut; dsimp only; (repeat' split) <;> simp

@[simp] theorem Ev.washEntered_tables (e : Ev) (w : Nat) : (e.washEntered w).tables = e.tables := by
  simp [Ev.washEntered, WashLaneRec.loaded_eq]

@[simp] theorem Ev.washEnteredRestricted_tables (e : Ev) (w : Nat) : (e.washEnteredRestricted w).tables = e.tables := by
  unfold Ev.washEnteredRestricted; dsimp only; (repeat' split) <;> simp

@[simp] theorem Ev.washDone_tables (e : Ev) (w : Nat) : (e.washDone w).tables = e.tables := by
  unfold Ev.washDone; dsimp only; (repeat' split) <;> simp [BusRec.loaded_eq, WashLaneRec.loaded_eq]

@[simp] theorem Ev.washAbort_tables (e : Ev) (w : Nat) (reason : AbortReason) : (e.washAbort w reason).tables = e.tables := by
  unfold Ev.washAbort; dsimp only; (repeat' split) <;> simp [WashLaneRec.loaded_eq]

@[simp] theorem Ev.washReady_tables (e : Ev) (w : Nat) : (e.washReady w).tables = e.tables := by
  simp [Ev.washReady]

@[simp] theorem Ev.washIgnored_tables (e : Ev) (w code : Nat) : (e.washIgnored w code).tables = e.tables :=
  State.tables_eq (by simp) (by simp) (by simp) (by simp) (by simp) (by simp) (by simp) (by simp)

@[simp] theorem Ev.eventEntered_tables (e : Ev) (w : Nat) : (e.eventEntered w).tables = e.tables := by
  simp [Ev.eventEntered]

@[simp] theorem Ev.eventDone_tables (e : Ev) (w : Nat) : (e.eventDone w).tables = e.tables := by
  simp [Ev.eventDone]

@[simp] theorem Ev.eventAborted_tables (e : Ev) (w reason : Nat) : (e.eventAborted w reason).tables = e.tables := by
  simp [Ev.eventAborted]

@[simp] theorem Ev.eventReady_tables (e : Ev) (w : Nat) : (e.eventReady w).tables = e.tables := by
  simp [Ev.eventReady]

@[simp] theorem Ev.washCleared_tables (e : Ev) (w : Nat) : (e.washCleared w).tables = e.tables := by
  simp [Ev.washCleared, WashLaneRec.loaded_eq]

@[simp] theorem Ev.takeOutOfWash_tables (e : Ev) (w : Nat) : (e.takeOutOfWash w).tables = e.tables := by
  simp [Ev.takeOutOfWash, WashLaneRec.loaded_eq]

@[simp] theorem Ev.startWaiver_tables (e : Ev) (c : Nat) : (e.startWaiver c).tables = e.tables := by
  unfold Ev.startWaiver
  simp only [Ev.send_tables]
  exact (Ev.foldl_tables _ (fun e x => by simp) _ _).trans rfl

@[simp] theorem Ev.endWaiver_tables (e : Ev) (c : Nat) : (e.endWaiver c).tables = e.tables :=
  State.tables_eq (by simp) (by simp) (by simp) (by simp) (by simp) (by simp) (by simp) (by simp)

@[simp] theorem Ev.deriveWaiverOf_tables (e : Ev) (c : Nat) : (e.deriveWaiverOf c).tables = e.tables := by
  simp [Ev.deriveWaiverOf]

@[simp] theorem Ev.deriveWaiver_tables (e : Ev) : e.deriveWaiver.tables = e.tables := by
  simp [Ev.deriveWaiver]

@[simp] theorem Ev.closeWash_tables (e : Ev) (w : Nat) : (e.closeWash w).tables = e.tables := by
  unfold Ev.closeWash; (repeat' split) <;> simp [WashLaneRec.loaded_eq]

@[simp] theorem Ev.reopenWash_tables (e : Ev) (w : Nat) : (e.reopenWash w).tables = e.tables := by
  unfold Ev.reopenWash; dsimp only; (repeat' split) <;> simp [WashLaneRec.loaded_eq]

@[simp] theorem Ev.settleWashLane_tables (e : Ev) (w : Nat) : (e.settleWashLane w).tables = e.tables := by
  unfold Ev.settleWashLane; dsimp only; (repeat' split) <;> simp

@[simp] theorem Ev.settleWash_tables (e : Ev) : e.settleWash.tables = e.tables := by
  exact Ev.foldl_tables _ (fun e d => by simp) _ e

@[simp] theorem Ev.fuelSkip_tables (e : Ev) (b priority : Nat) : (e.fuelSkip b priority).tables = e.tables := by
  simp [Ev.fuelSkip, BusRec.loaded_eq]

@[simp] theorem Ev.insertFuelEntry_tables (e : Ev) (x : FuelEntry) : (e.insertFuelEntry x).tables = e.tables := by
  simp [Ev.insertFuelEntry]

@[simp] theorem Ev.joinFuel_tables (e : Ev) (x : FuelEntry) : (e.joinFuel x).tables = e.tables := by
  unfold Ev.joinFuel; (repeat' split) <;> simp

@[simp] theorem Ev.enqueueFuel_tables (e : Ev) (b : Nat) : (e.enqueueFuel b).tables = e.tables := by
  simp [Ev.enqueueFuel]

@[simp] theorem Ev.returnFuel_tables (e : Ev) (o : FuelOccupant) (front : Bool) : (e.returnFuel o front).tables = e.tables := by
  simp [Ev.returnFuel]

@[simp] theorem Ev.returnOccupant_tables (e : Ev) (o : Option FuelOccupant) (front : Bool) : (e.returnOccupant o front).tables = e.tables := by
  unfold Ev.returnOccupant; (repeat' split) <;> simp

@[simp] theorem Ev.dispState_tables (e : Ev) (d : Nat) (st : DispenserState) : (e.dispState d st).tables = e.tables := by
  simp [Ev.dispState, DispenserRec.loaded_eq]

@[simp] theorem Ev.enterFree_tables (e : Ev) (d : Nat) : (e.enterFree d).tables = e.tables := by
  simp [Ev.enterFree]

@[simp] theorem Ev.enterClearing_tables (e : Ev) (d : Nat) : (e.enterClearing d).tables = e.tables := by
  simp [Ev.enterClearing, DispenserRec.loaded_eq]

@[simp] theorem Ev.closeForFault_tables (e : Ev) (d : Nat) : (e.closeForFault d).tables = e.tables := by
  simp [Ev.closeForFault, DispenserRec.loaded_eq]

@[simp] theorem Ev.emptyDispenser_tables (e : Ev) (d : Nat) : (e.emptyDispenser d).tables = e.tables := by
  simp [Ev.emptyDispenser, DispenserRec.loaded_eq]

@[simp] theorem Ev.clearBay_tables (e : Ev) (d : Nat) : (e.clearBay d).tables = e.tables := by
  simp [Ev.clearBay]

@[simp] theorem Ev.releaseGrant_tables (e : Ev) (d : Nat) : (e.releaseGrant d).tables = e.tables := by
  unfold Ev.releaseGrant; dsimp only; (repeat' split) <;> first | rfl | (simp [DispenserRec.loaded_eq]; rfl)

@[simp] theorem Ev.callFuel_tables (e : Ev) (x : FuelEntry) (d : Nat) : (e.callFuel x d).tables = e.tables := by
  simp [Ev.callFuel, DispenserRec.loaded_eq]

@[simp] theorem Ev.lowerTurns_tables (e : Ev) (d b : Nat) : (e.lowerTurns d b).tables = e.tables :=
  State.tables_eq (by simp) (by simp) (by simp) (by simp) (by simp) (by simp) (by simp) (by simp)

@[simp] theorem Ev.baySignalFailed_tables (e : Ev) (d : Nat) : (e.baySignalFailed d).tables = e.tables := by
  simp [Ev.baySignalFailed]

@[simp] theorem Ev.dock_tables (e : Ev) (d : Nat) : (e.dock d).tables = e.tables := by
  simp [Ev.dock]

@[simp] theorem Ev.missedCall_tables (e : Ev) (o : FuelOccupant) (d : Nat) : (e.missedCall o d).tables = e.tables := by
  simp [Ev.missedCall, BusRec.loaded_eq]

@[simp] theorem Ev.callTimedOut_tables (e : Ev) (d : Nat) : (e.callTimedOut d).tables = e.tables := by
  unfold Ev.callTimedOut; dsimp only; (repeat' split) <;> simp

@[simp] theorem Ev.deferralEnds_tables (e : Ev) (b : Nat) : (e.deferralEnds b).tables = e.tables :=
  State.tables_eq (by simp) (by simp) (by simp) (by simp) (by simp) (by simp) (by simp) (by simp)

@[simp] theorem Ev.dockingTimedOut_tables (e : Ev) (d : Nat) : (e.dockingTimedOut d).tables = e.tables := by
  unfold Ev.dockingTimedOut; (repeat' split) <;> simp [BusRec.loaded_eq]

@[simp] theorem Ev.refuseNozzle_tables (e : Ev) (d : Nat) : (e.refuseNozzle d).tables = e.tables := by
  simp [Ev.refuseNozzle]

@[simp] theorem Ev.grantFuel_tables (e : Ev) (d litres : Nat) : (e.grantFuel d litres).tables = e.tables := by
  have h : ∀ (f : Ev) (n : Nat), ({ f with fuel.committed := n } : Ev).tables = f.tables := fun _ _ => rfl
  unfold Ev.grantFuel
  dsimp only
  rw [Ev.requestPlain_tables, Ev.deriveReserve_tables, h]
  simp [DispenserRec.loaded_eq]

@[simp] theorem Ev.denyFuel_tables (e : Ev) (d : Nat) (o : FuelOccupant) : (e.denyFuel d o).tables = e.tables := by
  simp [Ev.denyFuel]

@[simp] theorem Ev.requestGrant_tables (e : Ev) (d : Nat) (o : FuelOccupant) : (e.requestGrant d o).tables = e.tables := by
  unfold Ev.requestGrant; (repeat' split) <;> simp

@[simp] theorem Ev.takeNozzle_tables (e : Ev) (d tag : Nat) : (e.takeNozzle d tag).tables = e.tables := by
  unfold Ev.takeNozzle; dsimp only; (repeat' split) <;> simp

@[simp] theorem Ev.grantDone_tables (e : Ev) (d : Nat) : (e.grantDone d).tables = e.tables := by
  simp [Ev.grantDone]

@[simp] theorem Ev.grantFailed_tables (e : Ev) (d : Nat) : (e.grantFailed d).tables = e.tables := by
  simp [Ev.grantFailed]

@[simp] theorem Ev.settleDelivery_tables (e : Ev) (d g litres : Nat) (full : Bool) : (e.settleDelivery d g litres full).tables = e.tables := by
  unfold Ev.settleDelivery; dsimp only; (repeat' split) <;> first | rfl | (simp [BusRec.loaded_eq, DispenserRec.loaded_eq]; rfl)

@[simp] theorem Ev.orphanDelivery_tables (e : Ev) (d litres : Nat) : (e.orphanDelivery d litres).tables = e.tables :=
  State.tables_eq (by simp) (by simp) (by simp) (by simp) (by simp) (by simp) (by simp) (by simp)

@[simp] theorem Ev.takeDelivery_tables (e : Ev) (d litres : Nat) (full : Bool) : (e.takeDelivery d litres full).tables = e.tables := by
  unfold Ev.takeDelivery; (repeat' split) <;> simp

@[simp] theorem Ev.bayOccupied_tables (e : Ev) (d : Nat) : (e.bayOccupied d).tables = e.tables := by
  simp [Ev.bayOccupied]

@[simp] theorem Ev.bayVacant_tables (e : Ev) (d : Nat) : (e.bayVacant d).tables = e.tables := by
  unfold Ev.bayVacant; (repeat' split) <;> simp

@[simp] theorem Ev.bayFaulted_tables (e : Ev) (d : Nat) : (e.bayFaulted d).tables = e.tables := by
  simp [Ev.bayFaulted]

@[simp] theorem Ev.bayRecovered_tables (e : Ev) (d : Nat) : (e.bayRecovered d).tables = e.tables := by
  simp [Ev.bayRecovered]

@[simp] theorem Ev.takeOutOfBay_tables (e : Ev) (d : Nat) : (e.takeOutOfBay d).tables = e.tables := by
  unfold Ev.takeOutOfBay; dsimp only; (repeat' split) <;> simp

@[simp] theorem Ev.takeAlarm_tables (e : Ev) (d reason : Nat) : (e.takeAlarm d reason).tables = e.tables := by
  unfold Ev.takeAlarm; dsimp only; (repeat' split) <;> simp

@[simp] theorem Ev.dispenserHealth_tables (e : Ev) (d : Nat) (ready : Bool) : (e.dispenserHealth d ready).tables = e.tables := by
  simp [Ev.dispenserHealth]

@[simp] theorem Ev.openDisp_tables (e : Ev) (d : Nat) : (e.openDisp d).tables = e.tables := by
  unfold Ev.openDisp; dsimp only; (repeat' split) <;> simp [DispenserRec.loaded_eq]

@[simp] theorem Ev.closeDisp_tables (e : Ev) (d : Nat) : (e.closeDisp d).tables = e.tables := by
  unfold Ev.closeDisp; (repeat' split) <;> simp [DispenserRec.loaded_eq]

@[simp] theorem Ev.settleDispenser_tables (e : Ev) (d : Nat) : (e.settleDispenser d).tables = e.tables := by
  unfold Ev.settleDispenser; (repeat' split) <;> simp [DispenserRec.loaded_eq]

@[simp] theorem Ev.settleFuel_tables (e : Ev) : e.settleFuel.tables = e.tables := by
  have h : ∀ f : Ev, ({ f with fuel.committed := 0 } : Ev).tables = f.tables := fun _ => rfl
  unfold Ev.settleFuel
  rw [Ev.deriveReserve_tables, h]
  exact Ev.foldl_tables Ev.settleDispenser (fun e d => by simp) (indices e.fuel.dispensers) e

end Sys2Proof.Machine
end

