-- ==== Sys2Proof/Laws/LoadedYard.lean ====
section
/-! SUPPORT. The loaded fields of the tables, which no operation of the yard, no pass and no end of an event changes. -/

namespace Sys2Proof.Machine

/-! ### One channel's filter -/

@[simp] theorem ChannelRec.fault_loaded (r : ChannelRec) : r.fault.loaded = r.loaded := by cases r; rfl
@[simp] theorem ChannelRec.restart_loaded (r : ChannelRec) : r.restart.loaded = r.loaded := by
  unfold ChannelRec.restart; dsimp only; split <;> rfl
@[simp] theorem ChannelRec.follow_loaded (r : ChannelRec) (o : Option ChannelState) : (r.follow o).loaded = r.loaded := by
  unfold ChannelRec.follow; (repeat' split) <;> rfl
@[simp] theorem ChannelRec.track_loaded (r : ChannelRec) (b a : Nat) : (r.track b a).loaded = r.loaded := by
  unfold ChannelRec.track; split <;> rfl
@[simp] theorem ChannelRec.useAverage_loaded (r : ChannelRec) (a : Nat) : (r.useAverage a).loaded = r.loaded := by
  unfold ChannelRec.useAverage; (repeat' split) <;> first | rfl | simp
@[simp] theorem ChannelRec.gather_loaded (r : ChannelRec) (v : Nat) : (r.gather v).loaded = r.loaded := by
  unfold ChannelRec.gather; split <;> first | rfl | exact (ChannelRec.useAverage_loaded _ _).trans rfl
@[simp] theorem ChannelRec.loaded_goodRun (r : ChannelRec) (n : Nat) : ({ r with goodRun := n } : ChannelRec).loaded = r.loaded := by
  cases r; rfl

/-! ### The operations -/

@[simp] theorem Ev.markUncertain_tables (e : Ev) (l : Nat) : (e.markUncertain l).tables = e.tables := by
  simp [Ev.markUncertain, LaneRec.loaded_eq]

@[simp] theorem Ev.tellContents_tables (e : Ev) (old new : List LaneEntry) : (e.tellContents old new).tables = e.tables :=
  State.tables_eq (by simp) (by simp) (by simp) (by simp) (by simp) (by simp) (by simp) (by simp)

@[simp] theorem Ev.changeContents_tables (e : Ev) (l : Nat) (new : List LaneEntry) : (e.changeContents l new).tables = e.tables := by
  simp [Ev.changeContents, LaneRec.loaded_eq]

@[simp] theorem Ev.joinLane_tables (e : Ev) (l : Nat) (x : LaneEntry) : (e.joinLane l x).tables = e.tables := by
  simp [Ev.joinLane]

@[simp] theorem Ev.park_tables (e : Ev) (b l : Nat) : (e.park b l).tables = e.tables := by
  simp [Ev.park]

@[simp] theorem Ev.removeFromLane_tables (e : Ev) (b l : Nat) : (e.removeFromLane b l).tables = e.tables := by
  simp [Ev.removeFromLane]

@[simp] theorem Ev.overfull_tables (e : Ev) (l : Nat) (b intended : Option Nat) : (e.overfull l b intended).tables = e.tables := by
  simp [Ev.overfull]

@[simp] theorem Ev.overfullBus_tables (e : Ev) (l b : Nat) (intended : Option Nat) : (e.overfullBus l b intended).tables = e.tables := by
  simp [Ev.overfullBus]

@[simp] theorem Ev.matchedEntry_tables (e : Ev) (l : Nat) (d : Direction) : (e.matchedEntry l d).tables = e.tables := by
  simp [Ev.matchedEntry]

@[simp] theorem Ev.misroute_tables (e : Ev) (l : Nat) (d : Direction) : (e.misroute l d).tables = e.tables := by
  simp [Ev.misroute]

@[simp] theorem Ev.unexpectedEntry_tables (e : Ev) (l : Nat) : (e.unexpectedEntry l).tables = e.tables := by
  simp [Ev.unexpectedEntry]

@[simp] theorem Ev.entryPassage_tables (e : Ev) (l : Nat) : (e.entryPassage l).tables = e.tables := by
  unfold Ev.entryPassage; (repeat' split) <;> simp

@[simp] theorem Ev.releasedExit_tables (e : Ev) (l d b : Nat) : (e.releasedExit l d b).tables = e.tables := by
  simp [Ev.releasedExit, DutyRec.loaded_eq]

@[simp] theorem Ev.exitUnreleased_tables (e : Ev) (l d : Nat) : (e.exitUnreleased l d).tables = e.tables := by
  unfold Ev.exitUnreleased; dsimp only; (repeat' split) <;> simp [DutyRec.loaded_eq]

@[simp] theorem Ev.removeExit_tables (e : Ev) (l : Nat) : (e.removeExit l).tables = e.tables := by
  unfold Ev.removeExit; dsimp only; (repeat' split) <;> simp

@[simp] theorem Ev.unexpectedExit_tables (e : Ev) (l : Nat) : (e.unexpectedExit l).tables = e.tables := by
  simp [Ev.unexpectedExit]

@[simp] theorem Ev.exitPassage_tables (e : Ev) (l : Nat) : (e.exitPassage l).tables = e.tables := by
  unfold Ev.exitPassage; (repeat' split) <;> simp

@[simp] theorem Ev.mouthPassage_tables (e : Ev) (l : Nat) : (e.mouthPassage l).tables = e.tables := by
  unfold Ev.mouthPassage; (repeat' split) <;> simp

@[simp] theorem Ev.passage_tables (e : Ev) (c : Nat) : (e.passage c).tables = e.tables := by
  unfold Ev.passage; (repeat' split) <;> simp

@[simp] theorem Ev.route_tables (e : Ev) (b : Nat) : (e.route b).tables = e.tables := by
  simp [Ev.route]

@[simp] theorem Ev.arrive_tables (e : Ev) (b : Nat) (level : Option Nat) : (e.arrive b level).tables = e.tables := by
  simp [Ev.arrive, BusRec.loaded_eq]

@[simp] theorem Ev.takeOut_tables (e : Ev) (b : Nat) : (e.takeOut b).tables = e.tables := by
  unfold Ev.takeOut; (repeat' split) <;> simp

@[simp] theorem Ev.reappear_tables (e : Ev) (b : Nat) (level : Option Nat) : (e.reappear b level).tables = e.tables := by
  unfold Ev.reappear; dsimp only; (repeat' split) <;> simp

@[simp] theorem Ev.gateIn_tables (e : Ev) (b : Nat) (level : Option Nat) : (e.gateIn b level).tables = e.tables := by
  simp [Ev.gateIn]

@[simp] theorem Ev.departByRead_tables (e : Ev) (b : Nat) : (e.departByRead b).tables = e.tables := by
  unfold Ev.departByRead; (repeat' split) <;> simp

@[simp] theorem Ev.gateOutLeaving_tables (e : Ev) (b : Nat) : (e.gateOutLeaving b).tables = e.tables := by
  simp [Ev.gateOutLeaving]

@[simp] theorem Ev.departParked_tables (e : Ev) (b : Nat) : (e.departParked b).tables = e.tables := by
  unfold Ev.departParked; (repeat' split) <;> simp

@[simp] theorem Ev.gateOutParked_tables (e : Ev) (b l : Nat) : (e.gateOutParked b l).tables = e.tables := by
  simp [Ev.gateOutParked]

@[simp] theorem Ev.gateOutOther_tables (e : Ev) (b : Nat) : (e.gateOutOther b).tables = e.tables := by
  simp [Ev.gateOutOther]

@[simp] theorem Ev.gateOutOut_tables (e : Ev) (b : Nat) : (e.gateOutOut b).tables = e.tables := by
  simp [Ev.gateOutOut, BusRec.loaded_eq]

@[simp] theorem Ev.gateOut_tables (e : Ev) (b : Nat) : (e.gateOut b).tables = e.tables := by
  unfold Ev.gateOut; (repeat' split) <;> simp

@[simp] theorem Ev.stranger_tables (e : Ev) (reader code : Nat) : (e.stranger reader code).tables = e.tables :=
  State.tables_eq (by simp) (by simp) (by simp) (by simp) (by simp) (by simp) (by simp) (by simp)

@[simp] theorem Ev.takeTag_tables (e : Ev) (source : Nat) (role : Role) (code : Nat) (level : Option Nat) : (e.takeTag source role code level).tables = e.tables := by
  unfold Ev.takeTag; (repeat' split) <;> simp

@[simp] theorem Ev.leavingExpires_tables (e : Ev) (b : Nat) : (e.leavingExpires b).tables = e.tables := by
  simp [Ev.leavingExpires]

@[simp] theorem Ev.dayStart_tables (e : Ev) : e.dayStart.tables = e.tables := by
  have hb : ∀ j, ((e.dayStart).bus j).loaded = (e.bus j).loaded := fun j =>
    tget_tmap_congr BusRec.loaded _ e.gate.buses j (fun i r => by split <;> rfl)
  have hd : ∀ j, ((e.dayStart).duty j).loaded = (e.duty j).loaded := fun j =>
    tget_tmap_congr DutyRec.loaded _ e.pullOut.duties j (fun i r => by unfold DutyRec.dayReset; split <;> rfl)
  have h : ((e.dayStart).tables) =
      { e.tables with bus := fun n => ((e.dayStart).bus n).loaded, duty := fun n => ((e.dayStart).duty n).loaded } := rfl
  rw [h]
  simp only [hb, hd]
  rfl

@[simp] theorem Ev.directionOutcome_tables (e : Ev) (ticket : Nat) (r : Result3) : (e.directionOutcome ticket r).tables = e.tables := by
  unfold Ev.directionOutcome; (repeat' split) <;> simp

@[simp] theorem Ev.bayCallOutcome_tables (e : Ev) (d ticket : Nat) (r : Result3) : (e.bayCallOutcome d ticket r).tables = e.tables := by
  simp [Ev.bayCallOutcome]

@[simp] theorem Ev.grantOutcome_tables (e : Ev) (d ticket : Nat) (r : Result3) : (e.grantOutcome d ticket r).tables = e.tables := by
  simp [Ev.grantOutcome]

@[simp] theorem Ev.washCallOutcome_tables (e : Ev) (w ticket : Nat) (r : Result3) : (e.washCallOutcome w ticket r).tables = e.tables := by
  simp [Ev.washCallOutcome]

@[simp] theorem Ev.washGoOutcome_tables (e : Ev) (w ticket : Nat) (r : Result3) : (e.washGoOutcome w ticket r).tables = e.tables := by
  simp [Ev.washGoOutcome]

@[simp] theorem Ev.proceedDone_tables (e : Ev) (l d : Nat) (r : ReleaseRec) : (e.proceedDone l d r).tables = e.tables := by
  simp [Ev.proceedDone, DutyRec.loaded_eq]

@[simp] theorem Ev.proceedFailed_tables (e : Ev) (l d : Nat) : (e.proceedFailed l d).tables = e.tables := by
  simp [Ev.proceedFailed, DutyRec.loaded_eq]

@[simp] theorem Ev.releaseOutcome_tables (e : Ev) (l ticket : Nat) (result : Result3) : (e.releaseOutcome l ticket result).tables = e.tables := by
  unfold Ev.releaseOutcome; (repeat' split) <;> simp

@[simp] theorem Ev.stopOutcome_tables (e : Ev) (l ticket : Nat) (result : Result3) : (e.stopOutcome l ticket result).tables = e.tables :=
  State.tables_eq (by simp) (by simp) (by simp) (by simp) (by simp) (by simp) (by simp) (by simp)

@[simp] theorem Ev.forwardOutcome_tables (e : Ev) (destination : Nat) (kind : CommandKind) (result : Result3) : (e.forwardOutcome destination kind result).tables = e.tables :=
  State.tables_eq (by simp) (by simp) (by simp) (by simp) (by simp) (by simp) (by simp) (by simp)

@[simp] theorem Ev.countOutcome_tables (e : Ev) (r : Result3) : (e.countOutcome r).tables = e.tables :=
  State.tables_eq (by simp) (by simp) (by simp) (by simp) (by simp) (by simp) (by simp) (by simp)

@[simp] theorem Ev.deliver_tables (e : Ev) (x : Decided) : (e.deliver x).tables = e.tables := by
  unfold Ev.deliver; (repeat' split) <;> simp

theorem Ev.drainFor_tables (n : Nat) (e : Ev) : (e.drainFor n).tables = e.tables := by
  induction n generalizing e with
  | zero => rfl
  | succ n ih =>
    unfold Ev.drainFor
    split
    · rfl
    · rw [ih, Ev.deliver_tables]

@[simp] theorem Ev.drain_tables (e : Ev) : e.drain.tables = e.tables := Ev.drainFor_tables drainBound e

@[simp] theorem Ev.tellOccupied_tables (e : Ev) (c : Nat) : (e.tellOccupied c).tables = e.tables := by
  unfold Ev.tellOccupied
  split
  · exact Ev.foldl_tables _ (fun e d => by simp) _ e
  · rfl

@[simp] theorem Ev.tellVacant_tables (e : Ev) (c : Nat) (accepted : Bool) : (e.tellVacant c accepted).tables = e.tables := by
  unfold Ev.tellVacant
  split
  · exact Ev.foldl_tables _ (fun e d => by simp) _ e
  · split <;> simp

@[simp] theorem Ev.tellFault_tables (e : Ev) (before : State) (c : Nat) : (e.tellFault before c).tables = e.tables := by
  unfold Ev.tellFault
  dsimp only
  split
  · refine (Ev.foldl_tables _ (fun e d => ?_) _ _).trans (by simp)
    split <;> simp
  · simp

@[simp] theorem Ev.tellChannel_tables (e : Ev) (before : State) (c : Nat) (accepted : Bool) : (e.tellChannel before c accepted).tables = e.tables := by
  unfold Ev.tellChannel; (repeat' split) <;> simp

@[simp] theorem Ev.restartChannel_tables (e : Ev) (c : Nat) : (e.restartChannel c).tables = e.tables := by
  simp [Ev.restartChannel]

@[simp] theorem Ev.restartChannels_tables (e : Ev) : e.restartChannels.tables = e.tables := by
  exact Ev.foldl_tables _ (fun e d => by simp) _ e

@[simp] theorem Ev.faultChannel_tables (e : Ev) (c v : Nat) : (e.faultChannel c v).tables = e.tables := by
  simp [Ev.faultChannel]

@[simp] theorem Ev.recoverChannel_tables (e : Ev) (c : Nat) : (e.recoverChannel c).tables = e.tables := by
  simp [Ev.recoverChannel]

@[simp] theorem Ev.readFaulted_tables (e : Ev) (c v : Nat) : (e.readFaulted c v).tables = e.tables := by
  simp [Ev.readFaulted, ChannelRec.loaded_eq]

@[simp] theorem Ev.takeReading_tables (e : Ev) (c v : Nat) : (e.takeReading c v).tables = e.tables := by
  unfold Ev.takeReading; (repeat' split) <;> simp

@[simp] theorem Ev.takeSample_tables (e : Ev) (node input : Nat) (vs : List Nat) : (e.takeSample node input vs).tables = e.tables := by
  induction vs generalizing e input with
  | nil => rfl
  | cons v vs ih => unfold Ev.takeSample; (repeat' split) <;> simp [ih]

@[simp] theorem Ev.rerunOver_tables (e : Ev) (bs : List Nat) : (e.rerunOver bs).tables = e.tables := by
  induction bs generalizing e with
  | nil => rfl
  | cons b bs ih => unfold Ev.rerunOver; (repeat' split) <;> simp [ih]

@[simp] theorem Ev.rerun_tables (e : Ev) : e.rerun.tables = e.tables := by
  exact (Ev.rerunOver_tables _ _).trans rfl

theorem Ev.fuelCalls_tables (n : Nat) (e : Ev) : (Ev.fuelCalls n e).tables = e.tables := by
  induction n generalizing e with
  | zero => rfl
  | succ n ih => unfold Ev.fuelCalls; split <;> simp [ih]

@[simp] theorem Ev.fuelPass_tables (e : Ev) : e.fuelPass.tables = e.tables := (Ev.fuelCalls_tables 6 _).trans rfl

theorem Ev.washCalls_tables (n : Nat) (e : Ev) : (Ev.washCalls n e).tables = e.tables := by
  induction n generalizing e with
  | zero => rfl
  | succ n ih => unfold Ev.washCalls; split <;> simp [ih]

@[simp] theorem Ev.washPass_tables (e : Ev) : e.washPass.tables = e.tables := (Ev.washCalls_tables 2 _).trans rfl

@[simp] theorem Ev.missDuty_tables (e : Ev) (d : Nat) : (e.missDuty d).tables = e.tables := by
  unfold Ev.missDuty; dsimp only; (repeat' split) <;> simp [DutyRec.loaded_eq]

@[simp] theorem Ev.lateDuty_tables (e : Ev) (d : Nat) : (e.lateDuty d).tables = e.tables := by
  simp [Ev.lateDuty, DutyRec.loaded_eq]

@[simp] theorem Ev.testDuty_tables (e : Ev) (d : Nat) : (e.testDuty d).tables = e.tables := by
  simp [Ev.testDuty]

@[simp] theorem Ev.releaseDuty_tables (e : Ev) (d l : Nat) : (e.releaseDuty d l).tables = e.tables := by
  simp [Ev.releaseDuty, DutyRec.loaded_eq]

@[simp] theorem Ev.releaseOrWait_tables (e : Ev) (d l : Nat) : (e.releaseOrWait d l).tables = e.tables := by
  simp [Ev.releaseOrWait]

@[simp] theorem Ev.blockDuty_tables (e : Ev) (d : Nat) : (e.blockDuty d).tables = e.tables := by
  simp [Ev.blockDuty, DutyRec.loaded_eq]

@[simp] theorem Ev.unbindDuty_tables (e : Ev) (d : Nat) : (e.unbindDuty d).tables = e.tables := by
  unfold Ev.unbindDuty; (repeat' split) <;> simp

@[simp] theorem Ev.bindBoth_tables (e : Ev) (b d : Option Nat) : (e.bindBoth b d).tables = e.tables := by
  unfold Ev.bindBoth; (repeat' split) <;> simp

@[simp] theorem Ev.exchange_tables (e : Ev) (d x : Nat) : (e.exchange d x).tables = e.tables := by
  simp [Ev.exchange]

@[simp] theorem Ev.exchangeOrBlock_tables (e : Ev) (d : Nat) : (e.exchangeOrBlock d).tables = e.tables := by
  unfold Ev.exchangeOrBlock; dsimp only; (repeat' split) <;> simp

@[simp] theorem Ev.takeDue_tables (e : Ev) (d : Nat) : (e.takeDue d).tables = e.tables := by
  unfold Ev.takeDue; (repeat' split) <;> simp

@[simp] theorem Ev.takeDues_tables (e : Ev) (ds : List Nat) : (e.takeDues ds).tables = e.tables := by
  exact Ev.foldl_tables _ (fun e d => by simp) ds e

@[simp] theorem Ev.dueStep_tables (e : Ev) : e.dueStep.tables = e.tables := by
  simp [Ev.dueStep]

@[simp] theorem Ev.pullPass_tables (e : Ev) : e.pullPass.tables = e.tables := by
  unfold Ev.pullPass
  rw [Ev.dueStep_tables, Ev.drain_tables]
  exact (Ev.foldl_tables _ (fun e d => by simp) _ _).trans rfl

@[simp] theorem Ev.runPass_tables (e : Ev) (p : Pass) : (e.runPass p).tables = e.tables := by
  cases p <;> simp [Ev.runPass]

@[simp] theorem Ev.choosePass_tables (e : Ev) (ps : List Pass) : (e.choosePass ps).tables = e.tables := by
  unfold Ev.choosePass
  split
  · exact (Ev.runPass_tables _ _).trans rfl
  · rfl

@[simp] theorem Ev.makePass_tables (e : Ev) (ps : List Pass) : (e.makePass ps).tables = e.tables := by
  unfold Ev.makePass; (repeat' split) <;> simp

end Sys2Proof.Machine
end

