-- ==== Sys2Proof/Laws/LoadedModes.lean ====
section
/-! SUPPORT. The loaded fields of the tables, which no operation of a mode, a port or an order but the loads changes. -/

namespace Sys2Proof.Machine

@[simp] theorem Ev.directionExpires_tables (e : Ev) (d : Direction) : (e.directionExpires d).tables = e.tables := by
  simp [Ev.directionExpires]

@[simp] theorem Ev.releaseTimesOut_tables (e : Ev) (l : Nat) : (e.releaseTimesOut l).tables = e.tables := by
  unfold Ev.releaseTimesOut; (repeat' split) <;> simp [DutyRec.loaded_eq]

@[simp] theorem Ev.takeOverdue_tables (e : Ev) : e.takeOverdue.tables = e.tables := by
  apply Ev.takeOverdue_proj (fun e => e.tables) <;> intros <;> simp

@[simp] theorem Ev.advanceYard_tables (e : Ev) : e.advanceYard.tables = e.tables := rfl

@[simp] theorem Ev.minuteTick_tables (e : Ev) : e.minuteTick.tables = e.tables := by
  unfold Ev.minuteTick; dsimp only; (repeat' split) <;> first | rfl | (simp; rfl)

@[simp] theorem Ev.yardTick_tables (e : Ev) : e.yardTick.tables = e.tables := by
  unfold Ev.yardTick; dsimp only; (repeat' split) <;> first | rfl | simp

@[simp] theorem Ev.closeWindow_tables (e : Ev) (k : NoticeKind) : (e.closeWindow k).tables = e.tables := by
  have h : ∀ (f : Ev) (x : Option Window), ({ f with office.window := x } : Ev).tables = f.tables := fun _ _ => rfl
  unfold Ev.closeWindow
  (repeat' split) <;> simp [h]

@[simp] theorem Ev.cancelDirections_tables (e : Ev) : e.cancelDirections.tables = e.tables := by
  exact (Ev.foldl_tables _ (fun e d => by simp) _ _).trans rfl

@[simp] theorem Ev.emptyHold_tables (e : Ev) : e.emptyHold.tables = e.tables := by
  exact (Ev.foldl_tables _ (fun e d => by simp) _ _).trans rfl

@[simp] theorem Ev.clearReleases_tables (e : Ev) : e.clearReleases.tables = e.tables := by
  have hd : ∀ j, ((e.clearReleases).duty j).loaded = (e.duty j).loaded := fun j =>
    tget_tmap_congr DutyRec.loaded _ e.pullOut.duties j (fun i r => by unfold DutyRec.clearRelease; split <;> rfl)
  have h : ((e.clearReleases).tables) = { e.tables with duty := fun n => ((e.clearReleases).duty n).loaded } := rfl
  rw [h]
  simp only [hd]
  rfl

@[simp] theorem Ev.restoreNodes_tables (e : Ev) : e.restoreNodes.tables = e.tables := by
  exact Ev.foldl_tables _ (fun e d => by simp) _ e

@[simp] theorem Ev.settleTurns_tables (e : Ev) : e.settleTurns.tables = e.tables := by
  simp [Ev.settleTurns]

@[simp] theorem Ev.enterConfigure_tables (e : Ev) : e.enterConfigure.tables = e.tables := by
  simp [Ev.enterConfigure]

@[simp] theorem Ev.enterWatch_tables (e : Ev) (old : Mode) (stop : Bool) : (e.enterWatch old stop).tables = e.tables := by
  simp [Ev.enterWatch]

@[simp] theorem Ev.turnTo_tables (e : Ev) (m : Mode) : (e.turnTo m).tables = e.tables := by
  have h : ∀ (f : Ev) (o : Office), ({ f with office := o } : Ev).tables = f.tables := fun _ _ => rfl
  unfold Ev.turnTo
  dsimp only
  cases m <;> simp [h]

@[simp] theorem Ev.enterMode_tables (e : Ev) (m : Mode) : (e.enterMode m).tables = e.tables := by
  unfold Ev.enterMode
  rw [Ev.turnTo_tables]
  rfl

@[simp] theorem Ev.endPending_tables (e : Ev) : e.endPending.tables = e.tables :=
  State.tables_eq (by simp) (by simp) (by simp) (by simp) (by simp) (by simp) (by simp) (by simp)

@[simp] theorem Ev.changeTakesEffect_tables (e : Ev) (m : Mode) : (e.changeTakesEffect m).tables = e.tables := by
  simp [Ev.changeTakesEffect]

@[simp] theorem Ev.takePending_tables (e : Ev) : e.takePending.tables = e.tables := by
  unfold Ev.takePending; (repeat' split) <;> simp

theorem Ev.settleFor_tables (n : Nat) (e : Ev) : (e.settleFor n).tables = e.tables := by
  induction n generalizing e with
  | zero => rfl
  | succ n ih => unfold Ev.settleFor; dsimp only; (repeat' split) <;> simp [ih]

@[simp] theorem Ev.settle_tables (e : Ev) : e.settle.tables = e.tables := Ev.settleFor_tables settleBound e

@[simp] theorem Ev.restartField_tables (e : Ev) : e.restartField.tables = e.tables :=
  State.tables_eq (by simp) (by simp) (by simp) (by simp) (by simp) (by simp) (by simp) (by simp)

@[simp] theorem Ev.restartCommands_tables (e : Ev) : e.restartCommands.tables = e.tables := by
  simp [Ev.restartCommands]

@[simp] theorem Ev.restartOffice_tables (e : Ev) : e.restartOffice.tables = e.tables :=
  State.tables_eq (by simp) (by simp) (by simp) (by simp) (by simp) (by simp) (by simp) (by simp)

@[simp] theorem Ev.restartTriggers_tables (e : Ev) : e.restartTriggers.tables = e.tables :=
  State.tables_eq (by simp) (by simp) (by simp) (by simp) (by simp) (by simp) (by simp) (by simp)

@[simp] theorem Ev.warmRestart_tables (e : Ev) : e.warmRestart.tables = e.tables := by
  simp [Ev.warmRestart]

@[simp] theorem Ev.requestQuiet_tables (e : Ev) : e.requestQuiet.tables = e.tables := by
  have h : ∀ (f : Ev) (x : Option Nat), ({ f with field.quietTimer := x } : Ev).tables = f.tables := fun _ _ => rfl
  unfold Ev.requestQuiet
  dsimp only
  rw [h, Ev.requestPlain_tables]

@[simp] theorem Ev.quietTest_tables (e : Ev) : e.quietTest.tables = e.tables := by
  simp [Ev.quietTest]

@[simp] theorem Ev.quietExpires_tables (e : Ev) : e.quietExpires.tables = e.tables := by
  unfold Ev.quietExpires; dsimp only; (repeat' split) <;> first | rfl | simp

@[simp] theorem Ev.reject_tables (e : Ev) (f : Frame) (r : RejectReason) : (e.reject f r).tables = e.tables :=
  State.tables_eq (by simp) (by simp) (by simp) (by simp) (by simp) (by simp) (by simp) (by simp)

@[simp] theorem Ev.joinInbox_tables (e : Ev) (x : InboxEntry) : (e.joinInbox x).tables = e.tables := by
  unfold Ev.joinInbox; simp; rfl

@[simp] theorem Ev.overflowInbox_tables (e : Ev) (x : InboxEntry) : (e.overflowInbox x).tables = e.tables := by
  unfold Ev.overflowInbox; dsimp only; (repeat' split) <;> first | rfl | (simp; rfl)

@[simp] theorem Ev.acceptFrame_tables (e : Ev) (source : Nat) (report : FieldReport) : (e.acceptFrame source report).tables = e.tables := by
  simp [Ev.acceptFrame]

@[simp] theorem Ev.takeFrame_tables (e : Ev) (f : Frame) : (e.takeFrame f).tables = e.tables := by
  unfold Ev.takeFrame; (repeat' split) <;> simp

@[simp] theorem Ev.fieldArrival_tables (e : Ev) (f : Frame) : (e.fieldArrival f).tables = e.tables := by
  simp [Ev.fieldArrival]

@[simp] theorem Ev.relay_tables (e : Ev) (x : InboxEntry) : (e.relay x).tables = e.tables :=
  State.tables_eq (by simp) (by simp) (by simp) (by simp) (by simp) (by simp) (by simp) (by simp)

@[simp] theorem Ev.tagDelivered_tables (e : Ev) (x : InboxEntry) (r : Nat × Option Nat) : (e.tagDelivered x r).tables = e.tables := by
  simp [Ev.tagDelivered]

@[simp] theorem Ev.sampleDelivered_tables (e : Ev) (x : InboxEntry) (r : Nat × List Nat) : (e.sampleDelivered x r).tables = e.tables := by
  simp [Ev.sampleDelivered]

@[simp] theorem Ev.healthDelivered_tables (e : Ev) (x : InboxEntry) (ready : Bool) : (e.healthDelivered x ready).tables = e.tables := by
  simp [Ev.healthDelivered]

@[simp] theorem Ev.transmitted_tables (e : Ev) (tx : FieldTx) : (e.transmitted tx).tables = e.tables := by
  unfold Ev.transmitted; dsimp only; (repeat' split) <;> first | rfl | (simp; rfl)

@[simp] theorem Ev.nameCurrent_tables (e : Ev) : e.nameCurrent.tables = e.tables := by
  unfold Ev.nameCurrent; split <;> simp

@[simp] theorem Ev.nameAhead_tables (e : Ev) (m : Mode) : (e.nameAhead m).tables = e.tables := rfl

@[simp] theorem Ev.nameMode_tables (e : Ev) (m : Mode) : (e.nameMode m).tables = e.tables := by
  unfold Ev.nameMode; (repeat' split) <;> first | rfl | simp

@[simp] theorem Ev.openSchedule_tables (e : Ev) (first stop : Nat) : (e.openSchedule first stop).tables = e.tables := by
  unfold Ev.openSchedule
  rw [Ev.clearPins_tables]
  exact Ev.foldl_tables _ (fun e d => by simp) _ e

@[simp] theorem Ev.openWindow_tables (e : Ev) (t : Table) (first stop : Nat) : (e.openWindow t first stop).tables = e.tables := by
  have h : ∀ (f : Ev) (x : Option Window), ({ f with office.window := x } : Ev).tables = f.tables := fun _ _ => rfl
  unfold Ev.openWindow
  dsimp only
  rw [h]
  split <;> simp

@[simp] theorem Ev.setLaneState_tables (e : Ev) (l : Nat) (st : OfficeState) : (e.setLaneState l st).tables = e.tables := by
  simp [Ev.setLaneState, LaneRec.loaded_eq]

@[simp] theorem Ev.parkPlaced_tables (e : Ev) (l : Nat) (x : LaneEntry) : (e.parkPlaced l x).tables = e.tables := by
  unfold Ev.parkPlaced; (repeat' split) <;> simp

@[simp] theorem Ev.placeEntry_tables (e : Ev) (l position : Nat) (x : LaneEntry) : (e.placeEntry l position x).tables = e.tables := by
  simp [Ev.placeEntry, LaneRec.loaded_eq]

@[simp] theorem Ev.loseRemoved_tables (e : Ev) (x : Option LaneEntry) : (e.loseRemoved x).tables = e.tables := by
  unfold Ev.loseRemoved; (repeat' split) <;> simp

@[simp] theorem Ev.removeEntry_tables (e : Ev) (l position : Nat) : (e.removeEntry l position).tables = e.tables := by
  simp [Ev.removeEntry, LaneRec.loaded_eq]

@[simp] theorem Ev.pin_tables (e : Ev) (d b : Nat) : (e.pin d b).tables = e.tables := by
  simp [Ev.pin, DutyRec.loaded_eq]

@[simp] theorem Ev.cancel_tables (e : Ev) (d : Nat) : (e.cancel d).tables = e.tables := by
  simp [Ev.cancel, DutyRec.loaded_eq]

@[simp] theorem Ev.setStock_tables (e : Ev) (litres : Nat) : (e.setStock litres).tables = e.tables :=
  State.tables_eq (by simp) (by simp) (by simp) (by simp) (by simp) (by simp) (by simp) (by simp)

@[simp] theorem Ev.placeForward_tables (e : Ev) (o : Order) : (e.placeForward o).tables = e.tables := by
  simp [Ev.placeForward]

end Sys2Proof.Machine
end

