-- ==== Sys2Proof/Laws/Frames.lean ====
section
/-! SUPPORT. The laws of what the statements speak in: which pieces of the state an operation may change, which notice it has sent, and which
request it has placed. -/

namespace Sys2Proof.Machine

/-! ### Only the named pieces change -/

theorem Part.same_refl (s : State) (p : Part) : p.same s s := by cases p <;> rfl

theorem Part.same_trans {s t u : State} {p : Part} (h : p.same s t) (k : p.same t u) : p.same s u := by
  cases p <;> simp_all [Part.same]

theorem State.OnlyChanged.refl (s : State) (ps : List Part) : s.OnlyChanged s ps := fun p _ => p.same_refl s

theorem State.OnlyChanged.mono {s t : State} {ps qs : List Part} (h : s.OnlyChanged t ps) (hq : ∀ p ∈ ps, p ∈ qs) : s.OnlyChanged t qs :=
  fun p hp => h p fun hp' => hp (hq p hp')

theorem State.OnlyChanged.trans {s t u : State} {ps : List Part} (h : s.OnlyChanged t ps) (k : t.OnlyChanged u ps) : s.OnlyChanged u ps :=
  fun p hp => Part.same_trans (p := p) (h p hp) (k p hp)

/-- Two operations one after another change at most what each changes. -/
theorem State.OnlyChanged.append {s t u : State} {ps qs : List Part} (h : s.OnlyChanged t ps) (k : t.OnlyChanged u qs) :
    s.OnlyChanged u (ps ++ qs) :=
  (h.mono fun _ hp => List.mem_append_left _ hp).trans (k.mono fun _ hp => List.mem_append_right _ hp)

theorem Ev.setBus_only (e : Ev) (b : Nat) (r : BusRec) : e.toState.OnlyChanged (e.setBus b r).toState [.bus b] := by
  intro p hp
  cases p <;> simp_all [Part.same, State.bus, Ev.setBus, tget_tset, State.cls, State.lane, State.dispenser, State.washLane, State.waived,
    State.duty, State.release, State.channel, State.node, State.counter]
  exact fun h _ => absurd h.symm hp

theorem Ev.setClass_only (e : Ev) (c : Nat) (r : ClassRec) : e.toState.OnlyChanged (e.setClass c r).toState [.cls c] := by
  intro p hp
  cases p <;> simp_all [Part.same, State.bus, Ev.setClass, tget_tset, State.cls, State.lane, State.dispenser, State.washLane, State.waived,
    State.duty, State.release, State.channel, State.node, State.counter]
  exact fun h _ => absurd h.symm hp

theorem Ev.setLane_only (e : Ev) (l : Nat) (r : LaneRec) : e.toState.OnlyChanged (e.setLane l r).toState [.lane l] := by
  intro p hp
  cases p <;> simp_all [Part.same, State.bus, Ev.setLane, tget_tset, State.cls, State.lane, State.dispenser, State.washLane, State.waived,
    State.duty, State.release, State.channel, State.node, State.counter]
  exact fun h _ => absurd h.symm hp

theorem Ev.setDuty_only (e : Ev) (d : Nat) (r : DutyRec) : e.toState.OnlyChanged (e.setDuty d r).toState [.duty d] := by
  intro p hp
  cases p <;> simp_all [Part.same, State.bus, Ev.setDuty, tget_tset, State.cls, State.lane, State.dispenser, State.washLane, State.waived,
    State.duty, State.release, State.channel, State.node, State.counter]
  exact fun h _ => absurd h.symm hp

theorem Ev.setRelease_only (e : Ev) (l : Nat) (r : Option ReleaseRec) :
    e.toState.OnlyChanged (e.setRelease l r).toState [.release l] := by
  intro p hp
  cases p <;> simp_all [Part.same, State.bus, Ev.setRelease, tget_tset, State.cls, State.lane, State.dispenser, State.washLane, State.waived,
    State.duty, State.release, State.channel, State.node, State.counter]
  exact fun h _ => absurd h.symm hp

theorem Ev.setDispenser_only (e : Ev) (d : Nat) (r : DispenserRec) :
    e.toState.OnlyChanged (e.setDispenser d r).toState [.dispenser d] := by
  intro p hp
  cases p <;> simp_all [Part.same, State.bus, Ev.setDispenser, tget_tset, State.cls, State.lane, State.dispenser, State.washLane, State.waived,
    State.duty, State.release, State.channel, State.node, State.counter]
  exact fun h _ => absurd h.symm hp

theorem Ev.setWashLane_only (e : Ev) (w : Nat) (r : WashLaneRec) :
    e.toState.OnlyChanged (e.setWashLane w r).toState [.washLane w] := by
  intro p hp
  cases p <;> simp_all [Part.same, State.bus, Ev.setWashLane, tget_tset, State.cls, State.lane, State.dispenser, State.washLane, State.waived,
    State.duty, State.release, State.channel, State.node, State.counter]
  exact fun h _ => absurd h.symm hp

theorem Ev.setChannel_only (e : Ev) (c : Nat) (r : ChannelRec) : e.toState.OnlyChanged (e.setChannel c r).toState [.channel c] := by
  intro p hp
  cases p <;> simp_all [Part.same, State.bus, Ev.setChannel, tget_tset, State.cls, State.lane, State.dispenser, State.washLane, State.waived,
    State.duty, State.release, State.channel, State.node, State.counter]
  exact fun h _ => absurd h.symm hp

/-- A node's record is one piece and its shadow another: a write changes at most both. -/
theorem Ev.setNode_only (e : Ev) (n : Nat) (r : NodeRec) : e.toState.OnlyChanged (e.setNode n r).toState [.node n, .shadow n] := by
  intro p hp
  cases p <;> simp_all [Part.same, State.bus, Ev.setNode, tget_tset, State.cls, State.lane, State.dispenser, State.washLane, State.waived,
    State.duty, State.release, State.channel, State.node, State.counter]
  all_goals split <;> first | (simp; done) | (rw [if_neg (fun h => hp h.1.symm)]; try simp)

/-- A write of a node's record that keeps its shadow changes that record alone. -/
theorem Ev.setNode_only_record (e : Ev) (n : Nat) (r : NodeRec) (h : r.shadow = (e.node n).shadow) :
    e.toState.OnlyChanged (e.setNode n r).toState [.node n] := by
  intro p hp
  by_cases hs : p = .shadow n
  · subst hs
    simp only [Part.same, State.node, Ev.setNode, tget_tset]
    by_cases h0 : n = 0
    · simp [h0]
    · by_cases h1 : n < 64
      · simpa [h0, h1, State.node] using h
      · simp [h0, h1]
  · exact e.setNode_only n r p (by simp_all)

/-- A write of a node's shadow changes that shadow alone. -/
theorem Ev.setNode_only_shadow (e : Ev) (n : Nat) (m : Word16) :
    e.toState.OnlyChanged (e.setNode n { e.node n with shadow := m }).toState [.shadow n] := by
  intro p hp
  by_cases hs : p = .node n
  · subst hs
    simp only [Part.same, State.node, Ev.setNode, tget_tset]
    by_cases h0 : n = 0
    · simp [h0]
    · by_cases h1 : n < 64
      · simp [h0, h1]
      · simp [h0, h1]
  · exact e.setNode_only n _ p (by simp_all)

theorem Ev.setFuelQueue_only (e : Ev) (q : List FuelEntry) : e.toState.OnlyChanged (e.setFuelQueue q).toState [.fuelQueue] := by
  intro p hp; cases p <;> first | rfl | simp at hp

theorem Ev.setWashQueue_only (e : Ev) (q : List WashEntry) : e.toState.OnlyChanged (e.setWashQueue q).toState [.washQueue] := by
  intro p hp; cases p <;> first | rfl | simp at hp

theorem Ev.setDirections_only (e : Ev) (ds : List Direction) : e.toState.OnlyChanged (e.setDirections ds).toState [.directions] := by
  intro p hp; cases p <;> first | rfl | simp at hp

theorem Ev.setHold_only (e : Ev) (bs : List Nat) : e.toState.OnlyChanged (e.setHold bs).toState [.holdList] := by
  intro p hp; cases p <;> first | rfl | simp at hp

theorem Ev.setCommands_only (e : Ev) (q : List CommandEntry) : e.toState.OnlyChanged (e.setCommands q).toState [.commandQueue] := by
  intro p hp; cases p <;> first | rfl | simp at hp

theorem Ev.nextSerial_only (e : Ev) : e.toState.OnlyChanged e.nextSerial.2.toState [.serial] := by
  intro p hp; cases p <;> first | rfl | simp at hp

theorem Ev.setPlace_only (e : Ev) (b : Nat) (p : Place) : e.toState.OnlyChanged (e.setPlace b p).toState [.bus b] := e.setBus_only b _

theorem Counter.code_injective {c k : Counter} (h : c.code = k.code) : c = k := by
  cases c <;> cases k <;> first | rfl | cases h

theorem Ev.countBy_only (e : Ev) (c : Counter) (n : Nat) : e.toState.OnlyChanged (e.countBy c n).toState [.counter c] := by
  intro p hp
  cases p <;> simp_all [Part.same, State.bus, Ev.countBy, tget_tset, State.cls, State.lane, State.dispenser, State.washLane, State.waived,
    State.duty, State.release, State.channel, State.node, State.counter]
  exact fun h _ => absurd (Counter.code_injective h).symm hp

theorem Ev.count_only (e : Ev) (c : Counter) : e.toState.OnlyChanged (e.count c).toState [.counter c] := e.countBy_only c 1

/-- An operation that may change only some pieces keeps every counter that is not among them. -/
theorem State.OnlyChanged.counter {s t : State} {ps : List Part} (h : s.OnlyChanged t ps) (c : Counter) (hc : Part.counter c ∉ ps) :
    t.counter c = s.counter c := h (.counter c) hc

theorem Ev.dropNotice_only (e : Ev) : e.toState.OnlyChanged e.dropNotice.toState Part.notice :=
  ((e.count_only .noticesDropped).mono (by simp [Part.notice])).trans
    (by intro p hp; cases p <;> first | rfl | simp [Part.notice] at hp)

theorem Ev.send_only (e : Ev) (n : Notice) : e.toState.OnlyChanged (e.send n).toState Part.notice := by
  have hq : ∀ (f : Ev) (q : List Notice), f.toState.OnlyChanged ({ f with notices.queue := q } : Ev).toState Part.notice := by
    intro f q p hp; cases p <;> first | rfl | simp [Part.notice] at hp
  unfold Ev.send
  split
  · exact hq e _
  · split
    · exact e.dropNotice_only
    · split
      · exact e.dropNotice_only.trans (hq _ _)
      · exact e.dropNotice_only

theorem Ev.updateShadow_only (e : Ev) (n : Nat) (kind : CommandKind) (mask : Word16) :
    e.toState.OnlyChanged (e.updateShadow n kind mask).toState [.shadow n] := by
  unfold Ev.updateShadow
  dsimp only
  split
  · split
    · exact e.setNode_only_shadow n _
    · exact e.setNode_only_shadow n _
    all_goals exact State.OnlyChanged.refl _ _
  · exact State.OnlyChanged.refl _ _

theorem Ev.failAtOnce_only (e : Ev) : e.toState.OnlyChanged e.failAtOnce.toState [.commandQueue] := by
  intro p hp; cases p <;> first | (simp at hp; done) | (unfold Ev.failAtOnce; rw [Ev.foldl_decideAll]; rfl)

theorem Ev.stripOpposite_only (e : Ev) (k : CommandKind) (n : Nat) (mask : Word16) :
    e.toState.OnlyChanged (e.stripOpposite k n mask).toState [.commandQueue] := by
  intro p hp; cases p <;> first | rfl | simp at hp

theorem Ev.append_only (e : Ev) (n : Nat) (k : CommandKind) (c : Contribution) :
    e.toState.OnlyChanged (e.append n k c).toState [.commandQueue, .serial] := by
  intro p hp; cases p <;> first | rfl | simp at hp

theorem Ev.takeRoom_only (e : Ev) (n : Nat) (k : CommandKind) (c : Contribution) :
    e.toState.OnlyChanged (e.takeRoom n k c).toState [.commandQueue, .serial] := by
  intro p hp
  unfold Ev.takeRoom
  (repeat' split) <;> cases p <;> first | rfl | simp at hp

theorem Ev.takeQueued_only (e : Ev) (n : Nat) (k : CommandKind) (c : Contribution) :
    e.toState.OnlyChanged (e.takeQueued n k c).toState [.commandQueue, .serial] := by
  have hm : ∀ e' : Ev, e.toState.OnlyChanged e'.toState [.commandQueue] → e.toState.OnlyChanged
      (if ((k == .aspectSet || k == .aspectClear) && e'.commands.queue.any fun x => x.mergeable k n) then
        e'.setCommands (addTo k n c e'.commands.queue) else e'.takeRoom n k c).toState [.commandQueue, .serial] := by
    intro e' h
    refine (h.mono (by simp)).trans ?_
    split
    · exact (e'.setCommands_only _).mono (by simp)
    · exact e'.takeRoom_only n k c
  unfold Ev.takeQueued
  cases k <;> first | exact hm _ (e.stripOpposite_only _ _ _) | exact hm _ (State.OnlyChanged.refl _ _)

/-- What a request may change (R167 to R170, R181): the command queue and the number of the next entry, or in SHADOW the shadow and the notices. -/
theorem Ev.request_only (e : Ev) (n : Nat) (k : CommandKind) (c : Contribution) :
    e.toState.OnlyChanged (e.request n k c).toState (Part.request n) := by
  unfold Ev.request
  split
  · intro p _; cases p <;> rfl
  · split
    · unfold Ev.takeShadow
      split
      · intro p _; cases p <;> rfl
      · have h0 : e.toState.OnlyChanged (e.decideAll k n .done [c]).toState (Part.request n) := by intro p _; cases p <;> rfl
        refine (h0.trans ?_).trans (((Ev.send_only _ _)).mono ?_)
        · exact (Ev.updateShadow_only _ _ _ _).mono (by simp [Part.request])
        · intro p hp; exact List.mem_append_right _ hp
    · exact ((e.takeQueued_only n k c).mono (by simp [Part.request])).trans ((Ev.failAtOnce_only _).mono (by simp [Part.request]))

theorem Ev.requestAspect_only (e : Ev) (sig : Signal) (k : CommandKind) (p : Purpose) :
    e.toState.OnlyChanged (e.requestAspect sig k p).toState (Part.request sig.node) := e.request_only _ _ _

theorem Ev.requestClear_only (e : Ev) (sig : Signal) (p : Purpose) :
    e.toState.OnlyChanged (e.requestClear sig p).toState (Part.request sig.node) := e.request_only _ _ _

theorem Ev.requestPlain_only (e : Ev) (n : Nat) (k : CommandKind) (p : Purpose) :
    e.toState.OnlyChanged (e.requestPlain n k p).toState (Part.request n) := e.request_only _ _ _

/-- A stop may change the lane's release record and what a request to its head signal's node may change (R119). -/
theorem Ev.stopRelease_only (e : Ev) (l : Nat) (duty : Option Nat) :
    e.toState.OnlyChanged (e.stopRelease l duty).toState ([.release l] ++ Part.request (e.lane l).head.node) := by
  have h1 := (e.nextSerial_only.mono (qs := [.release l] ++ Part.request (e.lane l).head.node) (by simp [Part.request])).trans
    ((e.nextSerial.2.setRelease_only l (some { duty := duty, phase := .stopping, ticket := e.nextSerial.1 })).mono (by simp))
  exact h1.trans ((Ev.requestClear_only _ _ _).mono fun _ hp => List.mem_append_right _ hp)

theorem Ev.deriveReserve_only (e : Ev) : e.toState.OnlyChanged e.deriveReserve.toState ([.belowReserve] ++ Part.notice) := by
  have h0 : ∀ b, e.toState.OnlyChanged ({ e with fuel.belowReserve := b } : Ev).toState ([.belowReserve] ++ Part.notice) := by
    intro b p hp; cases p <;> first | rfl | simp at hp
  unfold Ev.deriveReserve
  dsimp only
  split
  · exact (h0 _).trans ((Ev.send_only _ _).mono fun _ hp => List.mem_append_right _ hp)
  · exact h0 _

/-- Out of SHADOW a request sends no notice at once (R167, R181). -/
theorem Ev.request_notices (e : Ev) (h : e.mode ≠ .shadow) (n : Nat) (k : CommandKind) (c : Contribution) :
    (e.request n k c).notices = e.notices := by
  unfold Ev.request
  rw [if_neg h]
  split
  · rfl
  · simp

/-! ### What has been told -/

/-- A notice that has just been sent. -/
theorem Ev.told_send (e : Ev) (n : Notice) : (e.send n).Told n := by
  unfold Ev.Told Ev.send
  split
  · simp
  · split
    · intro h; simp [Ev.dropNotice] at h; omega
    · split
      · intro _; simp
      · intro h; simp [Ev.dropNotice] at h; omega

/-- A notice that has been sent stays told when another is sent. -/
theorem Ev.Told.send {e : Ev} {n : Notice} (h : e.Told n) (m : Notice) : (e.send m).Told n := by
  unfold Ev.Told Ev.send at *
  split
  · rename_i h1; intro _; simp [h h1]
  · split
    · intro h2; simp [Ev.dropNotice] at h2; omega
    · split
      · rename_i h1 _ h3
        intro h2
        simp only [List.length_append, List.length_cons, List.length_nil, noticeCapacity] at h2 h1
        have h4 := removeFirst_length (fun m : Notice => m.kind.routine) e.notices.queue
        rw [if_pos h3] at h4
        omega
      · intro h2; simp [Ev.dropNotice] at h2; omega

/-- What leaves the notice queue as it was leaves told what was told. -/
theorem Ev.Told.of_eq {e f : Ev} {n : Notice} (h : e.Told n) (hq : f.notices.queue = e.notices.queue) : f.Told n := by
  unfold Ev.Told at *; rw [hq]; exact h

theorem Ev.Told.request {e : Ev} {n : Notice} (h : e.Told n) (d : Nat) (k : CommandKind) (c : Contribution) : (e.request d k c).Told n := by
  unfold Ev.request
  split
  · exact h.of_eq rfl
  · split
    · unfold Ev.takeShadow
      split
      · exact h.of_eq rfl
      · refine Ev.Told.send ?_ _
        exact h.of_eq (by simp)
    · exact h.of_eq (by simp)

theorem Ev.Told.deriveReserve {e : Ev} {n : Notice} (h : e.Told n) : e.deriveReserve.Told n := by
  unfold Ev.deriveReserve
  dsimp only
  split
  · refine Ev.Told.send ?_ _
    exact h.of_eq rfl
  · exact h.of_eq rfl

/-! ### What has been asked for -/

/-- What keeps the command queue and adds to the outcomes keeps a placed request. -/
theorem Ev.Placed.of_eq {e f : Ev} {d : Nat} {k : CommandKind} {c : Contribution} (h : e.Placed d k c)
    (hq : f.commands.queue = e.commands.queue) (ho : ∀ x ∈ e.outs, x ∈ f.outs) : f.Placed d k c := by
  rcases h with h | ⟨r, h⟩
  · exact .inl (by rw [hq]; exact h)
  · exact .inr ⟨r, ho _ h⟩

/-- What waits after the entries that fail at once are gone waits still, or its outcome is decided (R170). -/
theorem Ev.Placed.failAtOnce {e : Ev} {d : Nat} {k : CommandKind} {c : Contribution} (h : e.Placed d k c) : e.failAtOnce.Placed d k c := by
  unfold Ev.failAtOnce
  rw [Ev.foldl_decideAll]
  rcases h with ⟨x, hx, hw, hk, hd, hc⟩ | ⟨r, h⟩
  · by_cases hf : e.failsNow x
    · refine .inr ⟨.failed, List.mem_append_right _ (List.mem_flatMap.2 ⟨x, by simp [hx, hf], ?_⟩)⟩
      simp only [CommandEntry.decided, List.mem_map]
      exact ⟨c, hc, by rw [hk, hd]⟩
    · exact .inl ⟨x, by simp [Ev.setCommands, hx, hf], hw, hk, hd, hc⟩
  · exact .inr ⟨r, List.mem_append_left _ h⟩

theorem mem_addTo {k : CommandKind} {d : Nat} {c : Contribution} {q : List CommandEntry} (h : q.any (fun x => x.mergeable k d) = true) :
    ∃ x ∈ addTo k d c q, x.waiting = true ∧ x.kind = k ∧ x.destination = d ∧ c ∈ x.contributions := by
  induction q with
  | nil => simp at h
  | cons y ys ih =>
    unfold addTo
    by_cases hy : y.mergeable k d = true
    · simp only [hy, if_true]
      refine ⟨_, List.mem_cons_self .., ?_⟩
      simp only [CommandEntry.mergeable, Bool.and_eq_true, beq_iff_eq] at hy
      exact ⟨hy.1.1, hy.1.2, hy.2, by simp⟩
    · simp only [hy, Bool.false_eq_true, if_false]
      simp only [List.any_cons, hy, Bool.false_or] at h
      obtain ⟨x, hx, hr⟩ := ih h
      exact ⟨x, List.mem_cons_of_mem _ hx, hr⟩

theorem Ev.append_placed (e : Ev) (d : Nat) (k : CommandKind) (c : Contribution) : (e.append d k c).Placed d k c :=
  .inl ⟨_, List.mem_append_right _ (List.mem_singleton.2 rfl), rfl, rfl, rfl, List.mem_singleton.2 rfl⟩

theorem Ev.takeRoom_placed (e : Ev) (d : Nat) (k : CommandKind) (c : Contribution) : (e.takeRoom d k c).Placed d k c := by
  unfold Ev.takeRoom
  (repeat' split) <;> first | exact Ev.append_placed _ _ _ _ | exact .inr ⟨.failed, by simp [Ev.decideAll]⟩

theorem Ev.takeQueued_placed (e : Ev) (d : Nat) (k : CommandKind) (c : Contribution) : (e.takeQueued d k c).Placed d k c := by
  have hm : ∀ e' : Ev, Ev.Placed
      (if ((k == .aspectSet || k == .aspectClear) && e'.commands.queue.any fun x => x.mergeable k d) then
        e'.setCommands (addTo k d c e'.commands.queue) else e'.takeRoom d k c) d k c := by
    intro e'
    split
    · rename_i h
      simp only [Bool.and_eq_true] at h
      exact .inl (mem_addTo h.2)
    · exact Ev.takeRoom_placed _ _ _ _
  unfold Ev.takeQueued
  cases k <;> exact hm _

/-- A request stands in the command queue, or its outcome has been decided (R167, R173, R181). -/
theorem Ev.request_placed (e : Ev) (d : Nat) (k : CommandKind) (c : Contribution) : (e.request d k c).Placed d k c := by
  unfold Ev.request
  split
  · exact .inr ⟨.failed, by simp [Ev.decideAll]⟩
  · split
    · unfold Ev.takeShadow
      split
      · exact .inr ⟨.failed, by simp [Ev.decideAll]⟩
      · exact .inr ⟨.done, by simp [Ev.decideAll]⟩
    · exact (Ev.takeQueued_placed e d k c).failAtOnce

theorem Ev.requestAspect_aspect (e : Ev) (sig : Signal) (k : CommandKind) (p : Purpose) : (e.requestAspect sig k p).Aspect sig k p :=
  e.request_placed _ _ _

theorem Ev.requestClear_aspect (e : Ev) (sig : Signal) (p : Purpose) : (e.requestClear sig p).Aspect sig .aspectClear p :=
  e.request_placed _ _ _

/-- A stop has asked for the clear aspect of the lane's head signal (R119). -/
theorem Ev.stopRelease_aspect (e : Ev) (l : Nat) (duty : Option Nat) :
    (e.stopRelease l duty).Aspect (e.lane l).head .aspectClear (.releaseStop l e.serial) :=
  Ev.requestClear_aspect _ _ _

/-- A later request for a command without outputs keeps a placed request: at most it is evicted, with its outcome decided (R167). -/
theorem Ev.Placed.request {e : Ev} {d : Nat} {k : CommandKind} {c : Contribution} (h : e.Placed d k c) (n : Nat) (k' : CommandKind)
    (c' : Contribution) (h1 : k' ≠ .aspectSet) (h2 : k' ≠ .aspectClear) : (e.request n k' c').Placed d k c := by
  have happ : ∀ f : Ev, f.Placed d k c → (f.append n k' c').Placed d k c := by
    rintro f (⟨x, hx, hr⟩ | hr)
    · exact .inl ⟨x, List.mem_append_left _ hx, hr⟩
    · exact .inr hr
  have hroom : (e.takeRoom n k' c').Placed d k c := by
    unfold Ev.takeRoom
    split
    · exact happ e h
    · split
      · split
        · rename_i rest x hl
          refine happ _ ?_
          rcases h with ⟨y, hy, hr⟩ | ⟨r, hr⟩
          · by_cases hyr : y ∈ rest
            · exact .inl ⟨y, hyr, hr⟩
            · have hm := removeLast_covers CommandEntry.evictable e.commands.queue hy
              simp only [hl, Option.some.injEq] at hm
              obtain rfl := hm.resolve_left hyr
              refine .inr ⟨.aborted, List.mem_append_right _ ?_⟩
              simp only [List.mem_map]
              exact ⟨c, hr.2.2.2, by rw [hr.2.1, hr.2.2.1]⟩
          · exact .inr ⟨r, List.mem_append_left _ hr⟩
        · exact h.of_eq rfl fun _ hx => List.mem_append_left _ hx
      · exact h.of_eq rfl fun _ hx => List.mem_append_left _ hx
  unfold Ev.request
  split
  · exact h.of_eq rfl fun _ hx => List.mem_append_left _ hx
  · split
    · unfold Ev.takeShadow
      split
      · exact h.of_eq rfl fun _ hx => List.mem_append_left _ hx
      · exact h.of_eq (by simp) fun _ hx => by simp [Ev.decideAll, hx]
    · refine Ev.Placed.failAtOnce ?_
      unfold Ev.takeQueued
      cases k' <;> first | exact absurd rfl h1 | exact absurd rfl h2 | exact hroom

end Sys2Proof.Machine
end

