-- ==== Sys2Proof/Tests/Slice0.lean ====
section
/-! SUPPORT. Tests of single commands on a small yard, with what the spec's rules make of them, and for every statement with hypotheses a
concrete state and operands that meet them (`witness_…`). -/

namespace Sys2Proof.Tests

open Sys2Proof.Machine

set_option Elab.async false

/-! ### A small yard -/

/-- The state that a command answers. -/
def ran (c : Instr) (s : State) : State :=
  match exec c s with
  | .next t => t
  | .fault _ => s
  | .refused _ => s

/-- A table with its first records given, and those after them as after a cold reset. -/
def firsts {α : Type} {n : Nat} (v : Vector α n) (rs : List (Nat × α)) : Vector α n := rs.foldl (fun v x => tset v x.1 x.2) v

/-- A bus of class 0, fuelled and not due for a wash. -/
def someBus (tag : Nat) (p : Place) : BusRec :=
  { BusRec.cold with valid := true, fleet := 4401, tag := tag, washInterval := 3, place := p, level := some 90, lastSeen := 4000 }

/-- A THROUGH lane of ten bays. -/
def through : LaneRec :=
  { LaneRec.cold with
    valid := true, length := 10, classMask := 15, entrySignal := { node := 21, output := 0 }, headSignal := { node := 21, output := 1 },
    exitLoop := 1 }

/-- A DEAD-END lane of eight bays. -/
def deadEnd : LaneRec :=
  { LaneRec.cold with
    valid := true, kind := .deadEnd, length := 8, classMask := 15, entrySignal := { node := 22, output := 0 }, entryLoop := 2 }

/-- A dispenser in a state. -/
def dispenser (st : DispenserState) : DispenserRec :=
  { DispenserRec.cold with
    valid := true, classMask := 15, controller := 12, baySignal := { node := 23, output := 0 }, bayLoop := 20, state := st, since := 4000 }

/-- A wash lane in a state. -/
def washLane (st : WashState) : WashLaneRec :=
  { WashLaneRec.cold with
    valid := true, classMask := 15, controller := 15, entrySignal := { node := 23, output := 1 }, fullTime := 300, shortTime := 200,
    clearBase := 10, state := st, since := 4000 }

/-- A node of a role. -/
def someNode (r : Role) : NodeRec := { NodeRec.cold with valid := true, role := r }

/-- A channel of a use, with hold count 1, learned at 40,000. -/
def someChannel (input : Nat) (u : ChannelUse) (st : ChannelState) : ChannelRec :=
  { ChannelRec.cold with
    valid := true, node := 3, input := input, use := u, hold := 1, onDelta := 1200, offDelta := 800, baseline := some 40000, discard := 0,
    state := st }

/-- A duty of class 0, planned at 11:40. -/
def someDuty (st : DutyState) : DutyRec := { DutyRec.cold with valid := true, code := 105, planned := 700, state := st }

/-- The yard at yard second 5000 and 10:00:10, in RUN: buses 1 and 2, lanes 0 and 1, dispenser 0, wash lane 0 and their nodes. -/
def yard : State :=
  { State.reset with
    clock := { yardSecond := 5000, valid := true, minute := 600, second := 10 }
    gate :=
      { classes := firsts State.reset.gate.classes [(0, { valid := true, length := 2, capacity := 250 })]
        buses := firsts State.reset.gate.buses [(1, someBus 1001 .out), (2, someBus 1002 .out)] }
    laneMap.lanes := firsts State.reset.laneMap.lanes [(0, through), (1, deadEnd)]
    fuel.dispensers := firsts State.reset.fuel.dispensers [(0, dispenser .free)]
    fuel.stock := 1000
    wash.lanes := firsts State.reset.wash.lanes [(0, washLane .ready)]
    wash.waived := Vector.replicate 4 false
    pullOut.duties := firsts State.reset.pullOut.duties [(5, someDuty .vacant)]
    channels := firsts State.reset.channels
      [(0, someChannel 0 .laneEntry .vacant), (1, someChannel 1 .laneExit .vacant), (2, someChannel 2 .laneMouth .vacant),
       (20, someChannel 7 .dispenserBay .vacant)]
    nodes := firsts State.reset.nodes
      [(1, someNode .gateIn), (2, someNode .gateOut), (3, someNode .detector), (12, someNode .dispenser), (15, someNode .wash),
       (21, someNode .signal), (22, someNode .signal), (23, someNode .signal)]
    office.mode := .run }

/-- The yard with a bus record written. -/
def withBus (b : Nat) (r : BusRec) (s : State) : State := { s with gate.buses := tset s.gate.buses b r }

/-- The yard with a lane record written. -/
def withLane (l : Nat) (r : LaneRec) (s : State) : State := { s with laneMap.lanes := tset s.laneMap.lanes l r }

/-- The yard with dispenser 0 written. -/
def withDisp (r : DispenserRec) (s : State) : State := { s with fuel.dispensers := tset s.fuel.dispensers 0 r }

/-- The yard with wash lane 0 written. -/
def withWash (r : WashLaneRec) (s : State) : State := { s with wash.lanes := tset s.wash.lanes 0 r }

/-- The yard with duty 5 written. -/
def withDuty (r : DutyRec) (s : State) : State := { s with pullOut.duties := tset s.pullOut.duties 5 r }

/-- The yard with the release record of a lane written. -/
def withRelease (l : Nat) (r : ReleaseRec) (s : State) : State := { s with pullOut.releases := tset s.pullOut.releases l (some r) }

/-- The yard with a channel written. -/
def withChannel (c : Nat) (r : ChannelRec) (s : State) : State := { s with channels := tset s.channels c r }

/-- The yard with a node written. -/
def withNode (n : Nat) (r : NodeRec) (s : State) : State := { s with nodes := tset s.nodes n r }

/-- The yard in a mode. -/
def inMode (m : Mode) (s : State) : State := { s with office.mode := m }

/-- The yard with an order at the head of its order inbox. -/
def ordered (code : Byte) (data : List Byte) (s : State) : State :=
  { s with office.orders := [{ code := code, tag := 7, data := data }] }

/-- The order that `ordered` places. -/
def theOrder (code : Byte) (data : List Byte) : Order := { code := code, tag := 7, data := data }

/-- An inbox entry of a report from a node. -/
def entryFrom (s : State) (n : Nat) (report : FieldReport) : InboxEntry :=
  { source := n, role := (s.node n).role, roleIndex := (s.node n).roleIndex, report := report, acceptedAt := s.now }

/-- The yard with a report from a node at the head of its field inbox. -/
def reported (n : Nat) (report : FieldReport) (s : State) : State := { s with field.inbox := entryFrom s n report :: s.field.inbox }

/-- The result and data of the last answer. -/
def answered (s : State) : Option (ResultCode × List Byte) := s.office.answers.getLast?.map fun a => (a.result, a.data)

/-- The kinds of the notices that wait. -/
def noticed (s : State) : List NoticeKind := s.notices.queue.map fun n => n.kind

/-- The kinds and destinations of the commands that wait. -/
def queued (s : State) : List (CommandKind × Nat) := s.commands.queue.map fun x => (x.kind, x.destination)

/-- A frame to the part from a node, with its check. -/
def frameFrom (source : Byte) (kind : Byte) (payload : List Byte) : Frame :=
  let f : Frame :=
    { destination := 0, source := source, kind := kind, length := BitVec.ofNat 8 payload.length, payload := payload, check := 0 }
  { f with check := crc (frameCovered f) }

/-! ### Well-formed commands -/

theorem test_wf_bus_timers :
    (Instr.leavingTimeout 255).wf = true ∧ (Instr.leavingTimeout 256).wf = false ∧ (Instr.directionExpiry 256).wf = false ∧
      (Instr.deferralEnd 256).wf = false := by decide +kernel

theorem test_wf_dispenser_timers :
    (Instr.callTimeout 5).wf = true ∧ (Instr.callTimeout 6).wf = false ∧ (Instr.dockingTimeout 6).wf = false := by decide +kernel

theorem test_wf_wash_timers :
    (Instr.cycleDeadline 1).wf = true ∧ (Instr.washCallTimeout 2).wf = false ∧ (Instr.cycleDeadline 2).wf = false ∧
      (Instr.endOfClearing 2).wf = false := by decide +kernel

theorem test_wf_lane_and_node_timers :
    (Instr.releaseTimeout 31).wf = true ∧ (Instr.releaseTimeout 32).wf = false ∧ (Instr.acknowledgementTimeout 1).wf = true ∧
      (Instr.acknowledgementTimeout 0).wf = false ∧ (Instr.acknowledgementTimeout 64).wf = false := by decide +kernel

theorem test_wf_frames :
    (Instr.fieldFrameArrival { frameFrom 1 1 [0, 0, 9, 0, 0] with length := 4 }).wf = false ∧
      (Instr.officeFrameArrival { frameFrom 1 1 [0, 0, 9, 0, 0] with length := 6 }).wf = false ∧
      (Instr.officeFrameArrival (frameFrom 0 0x40 [0x1B, 7])).wf = true := by decide +kernel

/-! ### Words and frames -/

/-- No row of the table has bits, so no word is a command and none is put in front. -/
theorem test_no_word_is_a_command : decodeTableWord 16 5 = none ∧ State.reset.withFetchWord 16 5 = State.reset :=
  ⟨rfl, rfl⟩

/-- R149: the check over the bytes 0x31 to 0x39 is 0x29B1. -/
theorem test_check_value : crc [0x31, 0x32, 0x33, 0x34, 0x35, 0x36, 0x37, 0x38, 0x39] = 0x29B1 := by decide +kernel

/-- R209: GRANT of 300 litres to node 12 is header 0, 12, source 0, kind 0x23, length 2, then 0x01 0x2C. -/
theorem test_grant_frame :
    frameCovered (CommandEntry.frame
      { id := 0, kind := .grant 300, destination := 12, contributions := [{ purpose := .grant 0 0, outputs := 0 }], attempts := 0,
        state := .waiting }) = [0, 12, 0, 0x23, 2, 0x01, 0x2C] := by decide +kernel

/-- R209: a TAG of code 1001 with level 90, and one of level unknown. -/
theorem test_tag_payload :
    readReport 0x01 [0, 3, 0xE9, 1, 90] = some (.tag 1001 (some 90)) ∧ readReport 0x01 [0, 3, 0xE9, 0, 90] = some (.tag 1001 none) ∧
      readReport 0x01 [0, 3, 0xE9, 1] = none := by decide +kernel

/-- R209: a SAMPLE of two readings from input 3, a refused ACK, a full DELIVERY of 258 litres. -/
theorem test_other_payloads :
    readReport 0x02 [3, 2, 0x9C, 0x40, 0, 0] = some (.sample 3 [40000, 0]) ∧ readReport 0x03 [0x23, 1] = some (.ack 0x23 false) ∧
      readReport 0x06 [1, 2, 1] = some (.delivery 258 true) := by decide +kernel

/-! ### Time and timeouts -/

theorem test_cold_reset :
    (ran .coldReset yard).mode = .configure ∧ (ran .coldReset yard).clock.yardSecond = 0 ∧ (ran .coldReset yard).fuel.stock = 0 := by
  decide +kernel

/-- 00_scope.md: the yard second wraps at 2^32; R200: the clock advances with it. -/
theorem test_yard_second_wraps :
    (ran .yardSecond { yard with clock.yardSecond := 4294967295 }).clock = { yardSecond := 0, valid := true, minute := 600, second := 11 } := by
  decide +kernel

/-- The last second before the day start, in DOZE. -/
def beforeDayStart : State :=
  withDuty { someDuty .departed with late := true, departedAs := some .late }
    { inMode .doze yard with clock := { yardSecond := 5000, valid := true, minute := 719, second := 59 } }

/-- R17, R115: the tick to the day start, 12:00, adds a night to every valid bus and opens the departed duty. -/
theorem test_minute_tick_at_day_start :
    (ran .minuteTick beforeDayStart).clock.minute = 720 ∧ ((ran .minuteTick beforeDayStart).bus 1).nights = 1 ∧
      ((ran .minuteTick beforeDayStart).bus 3).nights = 0 ∧ (ran .minuteTick beforeDayStart).duty 5 = someDuty .vacant := by decide +kernel

/-- R200: with the clock invalid there is no minute tick. -/
theorem test_no_tick_with_invalid_clock :
    (ran .minuteTick { beforeDayStart with clock.valid := false }).clock.minute = 719 := by decide +kernel

/-- Bus 1 LEAVING since a yard second. -/
def leavingSince (n : Nat) : State := withBus 1 { someBus 1001 .leaving with lastSeen := n } yard

/-- R16: 601 s exceed a leaving timeout of 600 s, and 600 s do not. -/
theorem test_leaving_timeout :
    ((ran (.leavingTimeout 1) (leavingSince 4399)).bus 1).place = .out ∧
      ((ran (.leavingTimeout 1) (leavingSince 4400)).bus 1).place = .leaving := by decide +kernel

/-- Bus 1 directed to lane 0 at a yard second. -/
def directedAt (n : Nat) : State :=
  withBus 1 (someBus 1001 (.directed 0)) { yard with laneMap.directions := [{ bus := 1, lane := 0, issuedAt := n, ticket := 0 }], serial := 1 }

/-- R34, R35, R58: a bus directed to lane 0 that enters lane 1 is PARKED there where there is room, and stays LOST where there is none; the assigner
takes no part. -/
theorem test_misroute :
    (((directedAt 4900).begin.passage 2).bus 1).place = .parked 1 ∧
      ((directedAt 4900).begin.passage 2).holdList = [] ∧ ((directedAt 4900).begin.passage 2).counter .lostBuses = 0 ∧
      (((withLane 1 { deadEnd with length := 1 } (directedAt 4900)).begin.passage 2).bus 1).place = .lost ∧
      ((withLane 1 { deadEnd with length := 1 } (directedAt 4900)).begin.passage 2).counter .lostBuses = 1 := by decide +kernel

/-- R32: 180 s reach the direction timeout; 179 s do not. -/
theorem test_direction_expiry :
    ((ran (.directionExpiry 1) (directedAt 4820)).bus 1).place = .lost ∧
      (ran (.directionExpiry 1) (directedAt 4820)).counter .lostBuses = 1 ∧
      ((ran (.directionExpiry 1) (directedAt 4821)).bus 1).place = .directed 0 := by decide +kernel

/-- Bus 1 called to dispenser 0 at a yard second, with a number of misses behind it. -/
def calledAt (n misses : Nat) : State :=
  withBus 1 (someBus 1001 (.fuelBay 0)) (withDisp
    { dispenser .calling with occupant := some { bus := 1, priority := 1, enqueuedAt := 4000, misses := misses }, since := n } yard)

/-- R70: a second miss defers the bus for two turns and 120 s. -/
theorem test_call_timeout :
    (ran (.callTimeout 0) (calledAt 4880 1)).fuel.queue =
      [{ bus := 1, priority := 1, enqueuedAt := 4000, misses := 2, turnsLeft := 2, deadline := some 5120, front := false }] ∧
      ((ran (.callTimeout 0) (calledAt 4880 1)).dispenser 0).state = .free := by decide +kernel

/-- R70: at the fourth miss the turn is abandoned, and the bus goes on to a lane. -/
theorem test_call_timeout_abandons :
    ((ran (.callTimeout 0) (calledAt 4880 3)).bus 1).place = .directed 1 ∧ ((ran (.callTimeout 0) (calledAt 4880 3)).bus 1).fuelMissed = true ∧
      (ran (.callTimeout 0) (calledAt 4880 3)).counter .fuelAbandoned = 1 := by decide +kernel

/-- Bus 1 waiting for fuel, deferred to a yard second, with dispenser 0 FREE. -/
def deferredTo (n : Nat) : State :=
  withBus 1 (someBus 1001 .fuelWait)
    { yard with
      fuel.queue := [{ bus := 1, priority := 1, enqueuedAt := 4000, misses := 1, turnsLeft := 1, deadline := some n, front := false }] }

/-- R70, R67: at the deadline the deferral ends and the bus is called; before it nothing happens. -/
theorem test_deferral_end :
    ((ran (.deferralEnd 1) (deferredTo 5000)).dispenser 0).state = .calling ∧
      ((ran (.deferralEnd 1) (deferredTo 5001)).dispenser 0).state = .free := by decide +kernel

/-- Bus 1 docked at dispenser 0, with a grant or without. -/
def docked (grant : Option Nat) (level : Option Nat) : State :=
  withBus 1 { someBus 1001 (.fuelBay 0) with level := level }
    (withDisp
      { dispenser .docked with
        occupant := some { bus := 1, priority := 1, enqueuedAt := 4000, misses := 0 }, grant := grant, since := 4700, grantTicket := 0 }
      { yard with fuel.committed := grant.getD 0, serial := 1 })

/-- Dispenser 0 DOCKED since 4700 with its bus taken out, with a grant or without. -/
def dockedEmpty (grant : Option Nat) : State :=
  withDisp { (docked grant none).dispenser 0 with occupant := none } (withBus 1 (someBus 1001 .out) (docked grant none))

/-- R75: 300 s DOCKED without a request end the turn without fuel; R78: over a VACANT bay loop the dispenser is FREE at once.
With no occupant it ends its turn alone. -/
theorem test_docking_timeout :
    ((ran (.dockingTimeout 0) (dockedEmpty none)).dispenser 0).state = .free ∧
      (ran (.dockingTimeout 0) (dockedEmpty none)).counter .fuelAbandoned = 0 ∧
      ((ran (.dockingTimeout 0) (docked none none)).bus 1).fuelMissed = true ∧
      ((ran (.dockingTimeout 0) (docked none none)).dispenser 0).state = .free ∧
      ((ran (.dockingTimeout 0) (docked (some 50) none)).dispenser 0).state = .docked := by decide +kernel

/-- Bus 1 called to wash lane 0 at a yard second. -/
def washCalled (n : Nat) (missed : Bool) : State :=
  withBus 1 (someBus 1001 (.wash 0))
    (withWash
      { washLane .calling with
        occupant := some { bus := 1, enqueuedAt := 4000, missedOnce := missed, retried := false }, programme := some .full, since := n }
      yard)

/-- R95: a second miss skips the wash. -/
theorem test_wash_call_timeout :
    ((ran (.washCallTimeout 0) (washCalled 4880 true)).bus 1).washSkipped = true ∧
      (ran (.washCallTimeout 0) (washCalled 4880 true)).counter .washSkipped = 1 ∧
      ((ran (.washCallTimeout 0) (washCalled 4880 true)).washLane 0).state = .ready := by decide +kernel

/-- Bus 1 in the wash of lane 0 with a deadline. -/
def washing (deadline : Nat) (retried : Bool) : State :=
  withBus 1 { someBus 1001 (.wash 0) with nights := 4 }
    (withWash
      { washLane .washing with
        occupant := some { bus := 1, enqueuedAt := 4000, missedOnce := false, retried := retried }, programme := some .full,
        deadline := some deadline, score := 31, pacing := 1, goTicket := 0 }
      { yard with serial := 1 })

/-- Wash lane 0 in WASHING with its bus taken out. -/
def washingEmpty : State :=
  withWash { (washing 5400 false).washLane 0 with occupant := none } (withBus 1 (someBus 1001 .out) (washing 5400 false))

/-- R99: an abort raises the score by 8 and faults the lane; the bus waits at the head for its retry. R91: 39 is RESTRICTED. -/
theorem test_cycle_deadline :
    ((ran (.cycleDeadline 0) (washing 5000 false)).washLane 0).state = .faulted ∧
      ((ran (.cycleDeadline 0) (washing 5000 false)).washLane 0).score = 39 ∧
      ((ran (.cycleDeadline 0) (washing 5000 false)).washLane 0).pacing = 8 ∧
      (ran (.cycleDeadline 0) (washing 5000 false)).wash.queue = [{ bus := 1, enqueuedAt := 4000, missedOnce := false, retried := true }] := by
  decide +kernel

/-- Wash lane 0 clearing to a deadline, to be closed at the end or not. -/
def clearing (deadline : Nat) (closing : Bool) : State :=
  withWash { washLane .clearing with deadline := some deadline, closeAtEnd := closing } yard

/-- R98, R104: READY at the deadline, or CLOSED. -/
theorem test_end_of_clearing :
    ((ran (.endOfClearing 0) (clearing 5000 false)).washLane 0).state = .ready ∧
      ((ran (.endOfClearing 0) (clearing 5000 true)).washLane 0).state = .closed ∧
      ((ran (.endOfClearing 0) (clearing 5001 false)).washLane 0).state = .clearing := by decide +kernel

/-- Duty 5 RELEASED for bus 1 at the head of lane 0 since a yard second. -/
def shownSince (n : Nat) : State :=
  withBus 1 { someBus 1001 (.parked 0) with boundDuty := some 5 } (withLane 0 { through with contents := [.bus 1] }
    (withDuty { someDuty .released with bus := some 1, releaseLane := some 0 }
      (withRelease 0 { duty := some 5, phase := .showing n, ticket := 0 } { yard with serial := 1 })))

/-- R122: 240 s reach the release timeout: the duty is BOUND again and stop is asked for at the head. -/
theorem test_release_timeout :
    ((ran (.releaseTimeout 0) (shownSince 4760)).duty 5).state = .bound ∧
      (ran (.releaseTimeout 0) (shownSince 4760)).counter .releaseNoShows = 1 ∧
      queued (ran (.releaseTimeout 0) (shownSince 4760)) = [(.aspectClear, 21)] ∧
      ((ran (.releaseTimeout 0) (shownSince 4761)).duty 5).state = .released := by decide +kernel

/-- An entry of the command queue: ASPECT SET of output 0 for node 21, asked for by the direction of ticket 0. -/
def aspectEntry (st : EntryState) (attempts : Nat) : CommandEntry :=
  { id := 1, kind := .aspectSet, destination := 21, contributions := [{ purpose := .direction 0, outputs := 1 }], attempts := attempts,
    state := st }

/-- The yard with that entry, bus 1 being directed to lane 0. -/
def commanded (st : EntryState) (attempts : Nat) : State :=
  withNode 21 { someNode .signal with mark := st != .waiting }
    { directedAt 4900 with commands := { queue := [aspectEntry st attempts], tx := none }, serial := 2 }

/-- R172: a first failed attempt waits for its retry, and the node's score rises by 8. -/
theorem test_acknowledgement_timeout :
    (ran (.acknowledgementTimeout 21) (commanded (.sent true) 1)).commands.queue = [aspectEntry .waiting 1] ∧
      ((ran (.acknowledgementTimeout 21) (commanded (.sent true) 1)).node 21).score = 8 := by decide +kernel

/-- R172, R30, R48: after the third failed attempt the direction ends and the bus goes back to the hold list, passed over in this event. -/
theorem test_acknowledgement_timeout_fails :
    (ran (.acknowledgementTimeout 21) (commanded (.sent true) 3)).holdList = [1] ∧
      (ran (.acknowledgementTimeout 21) (commanded (.sent true) 3)).counter .commandFailures = 1 := by decide +kernel

/-- The field inbox with a number of HEALTH entries, and the quiet timer running. -/
def crowded (n : Nat) : State :=
  { yard with field := { yard.field with inbox := List.replicate n (entryFrom yard 3 (.health true 0)), quietTimer := some 5 } }

/-- R160: QUIET of 2000 ms is asked for again at 16 entries, and the timer runs for 1800 ms; below 16 it is idle. -/
theorem test_quiet_timer_expiry :
    queued (ran .quietTimerExpiry (crowded 16)) = [(.quiet 2000, 64)] ∧ (ran .quietTimerExpiry (crowded 16)).field.quietTimer = some 1800 ∧
      (ran .quietTimerExpiry (crowded 15)).field.quietTimer = none := by decide +kernel

/-- The yard in DOZE, entered from CONFIGURE, where a timer ran out. -/
def held (x : Timer) (s : State) : State :=
  { inMode .doze s with office := { s.office with mode := .doze, dozeFrom := some .configure, overdue := [x] } }

/-- R85, R205: a docking timeout whose second passed in CONFIGURE is not taken in DOZE, and is taken at the next entry to RUN. -/
theorem test_held_docking_timeout :
    ((ran (.dockingTimeout 0) (held (.docking 0 4700) (docked none none))).dispenser 0).state = .docked ∧
      ((ran .setMode (ordered 0x01 [1] (held (.docking 0 4700) (docked none none)))).dispenser 0).state = .free := by decide +kernel

/-- R16, R85, R106: DOZE entered from CONFIGURE holds what ran out there; entered from RUN, nothing. -/
theorem test_doze_holds_timers :
    (ran .setMode (ordered 0x01 [3] (inMode .configure (docked none none)))).office.overdue = [.docking 0 4700] ∧
      (ran .setMode (ordered 0x01 [3] (docked none none))).office.overdue = [] := by decide +kernel

/-- R206: SHADOW named in DOZE is entered at once; the aspect that waited for node 21 is completed there (log 32). -/
theorem test_shadow_from_doze :
    (ran .setMode (ordered 0x01 [2] (inMode .doze (commanded .waiting 0)))).mode = .shadow ∧
      queued (ran .setMode (ordered 0x01 [2] (inMode .doze (commanded .waiting 0)))) = [] ∧
      ((ran .setMode (ordered 0x01 [2] (inMode .doze (commanded .waiting 0)))).node 21).shadow = 1 ∧
      noticed (ran .setMode (ordered 0x01 [2] (inMode .doze (commanded .waiting 0)))) = [.modeChanged, .wouldSend] := by decide +kernel

/-- R116: the pull-out pass comes after the event's re-run; R205: where the event enters RUN or SHADOW it may come first. -/
theorem test_pull_pass_last :
    let e : Ev := { ({ yard with holdList := [1] } : State).begin with rerunDue := true, pullDue := true }
    e.readyPasses = [.rerun] ∧ ({ e with entered := true } : Ev).readyPasses = [.rerun, .pull] ∧
      ({ e with rerunDue := false } : Ev).readyPasses = [.pull] := by decide +kernel

/-! ### The field port -/

/-- R153, R156: an accepted TAG joins the inbox; R149: a damaged frame is counted. -/
theorem test_field_frame_arrival :
    (ran (.fieldFrameArrival (frameFrom 1 1 [0, 3, 0xE9, 1, 90])) yard).field.inbox = [entryFrom yard 1 (.tag 1001 (some 90))] ∧
      (ran (.fieldFrameArrival { frameFrom 1 1 [0, 3, 0xE9, 1, 90] with check := 0 }) yard).counter .badCheckFrames = 1 := by decide +kernel

/-- R154: a GATE-IN node may not send a SAMPLE: rejected with reason 1. -/
theorem test_field_frame_rejected :
    noticed (ran (.fieldFrameArrival (frameFrom 1 2 [0, 1, 0x9C, 0x40])) yard) = [.frameRejected] ∧
      (ran (.fieldFrameArrival (frameFrom 1 2 [0, 1, 0x9C, 0x40])) yard).notices.queue.map (fun n => n.value) = [some 0x0201] := by
  decide +kernel

/-- R10, R12, R50, R55: a fuelled bus arrives, is bound to the next duty, and is directed to lane 1: both lanes are empty and score 320,
and lane 1 leaves 6 open bays where lane 0 leaves 8. -/
theorem test_tag_arrival :
    ((ran .tag (reported 1 (.tag 1001 (some 90)) yard)).bus 1).place = .directed 1 ∧
      ((ran .tag (reported 1 (.tag 1001 (some 90)) yard)).bus 1).boundDuty = some 5 ∧
      queued (ran .tag (reported 1 (.tag 1001 (some 90)) yard)) = [(.aspectSet, 22)] := by decide +kernel

/-- R9: a code that no valid bus carries is a stranger read. -/
theorem test_tag_stranger :
    (ran .tag (reported 1 (.tag 9 none) yard)).counter .strangerReads = 1 ∧ noticed (ran .tag (reported 1 (.tag 9 none) yard)) = [.stranger] := by
  decide +kernel

/-- R144, R69: with hold count 1, a fall of 1200 below the baseline is accepted as OCCUPIED, and docks the called bus. -/
theorem test_sample_docks :
    ((ran .sample (reported 3 (.sample 7 [38800]) (calledAt 4900 0))).dispenser 0).state = .docked ∧
      ((ran .sample (reported 3 (.sample 7 [38801]) (calledAt 4900 0))).dispenser 0).state = .calling := by decide +kernel

/-- R139: a reading of 0 puts the channel in FAULTED; R145: a good one moves the baseline a sixty-fourth of the way. -/
theorem test_sample_fault_and_tracking :
    ((ran .sample (reported 3 (.sample 0 [0]) yard)).channel 0).state = .faulted ∧
      ((ran .sample (reported 3 (.sample 0 [40128]) yard)).channel 0).baseline = some 40002 := by decide +kernel

/-- R172, R174: a good ACK ends the attempt, clears the mark and sets the shadow. -/
theorem test_ack_done :
    (ran .ack (reported 21 (.ack 0x20 true) (commanded (.sent true) 1))).commands.queue = [] ∧
      (ran .ack (reported 21 (.ack 0x20 true) (commanded (.sent true) 1))).node 21 = { someNode .signal with shadow := 1 } := by decide +kernel

/-- R172: an ACK that echoes another kind ends nothing. -/
theorem test_ack_of_another_kind :
    (ran .ack (reported 21 (.ack 0x21 true) (commanded (.sent true) 1))).commands.queue = [aspectEntry (.sent true) 1] := by decide +kernel

/-- R178, R179: the eighth ready HEALTH in a row brings a CUT OFF node back. -/
theorem test_health_recovers :
    (ran .health (reported 22 (.health true 0) (withNode 22 { someNode .signal with score := 200, recovery := 7 } yard))).node 22 =
        someNode .signal ∧
      ((ran .health (reported 22 (.health true 0) (withNode 22 { someNode .signal with score := 200, recovery := 6 } yard))).node 22).recovery =
        7 := by decide +kernel

/-- R73: a tank of 250 litres at level 60 takes 100 litres, and at level 33 it takes 168. -/
theorem test_nozzle_grants :
    ((ran .nozzle (reported 12 (.nozzle 1001) (docked none (some 60)))).dispenser 0).grant = some 100 ∧
      ((ran .nozzle (reported 12 (.nozzle 1001) (docked none (some 33)))).dispenser 0).grant = some 168 ∧
      queued (ran .nozzle (reported 12 (.nozzle 1001) (docked none (some 60)))) = [(.grant 100, 12)] := by decide +kernel

/-- R72: a tag that is not the occupant's is refused as a bay mismatch; with no occupant there is no notice. -/
theorem test_nozzle_mismatch :
    queued (ran .nozzle (reported 12 (.nozzle 1001) (dockedEmpty none))) = [(.refuse, 12)] ∧
      noticed (ran .nozzle (reported 12 (.nozzle 1001) (dockedEmpty none))) = [] ∧
      noticed (ran .nozzle (reported 12 (.nozzle 1002) (docked none (some 60)))) = [.bayMismatch] ∧
      queued (ran .nozzle (reported 12 (.nozzle 1002) (docked none (some 60)))) = [(.refuse, 12)] := by decide +kernel

/-- R76: 120 litres against a grant of 100 take 100 from the stock, and the excess is counted; the level rises by 40 to 100. With no
occupant none is served. -/
theorem test_delivery_settles :
    (ran .delivery (reported 12 (.delivery 40 false) (dockedEmpty (some 50)))).fuel.stock = 960 ∧
      (ran .delivery (reported 12 (.delivery 40 false) (dockedEmpty (some 50)))).counter .fuelServed = 0 ∧
      (ran .delivery (reported 12 (.delivery 120 false) (docked (some 100) (some 60)))).fuel.stock = 900 ∧
      (ran .delivery (reported 12 (.delivery 120 false) (docked (some 100) (some 60)))).fuel.committed = 0 ∧
      ((ran .delivery (reported 12 (.delivery 120 false) (docked (some 100) (some 60)))).bus 1).level = some 100 ∧
      (ran .delivery (reported 12 (.delivery 120 false) (docked (some 100) (some 60)))).counter .meterExcess = 1 := by decide +kernel

/-- R77: a delivery without a grant is taken from the free stock. -/
theorem test_orphan_delivery :
    (ran .delivery (reported 12 (.delivery 120 false) yard)).fuel.stock = 880 ∧
      (ran .delivery (reported 12 (.delivery 120 false) yard)).counter .orphanDeliveries = 1 := by decide +kernel

/-- R81: an alarm closes the dispenser for a fault, releases its grant, and the bus waits again at the head. -/
theorem test_disp_alarm :
    ((ran .dispAlarm (reported 12 (.dispAlarm 4) (docked (some 100) none))).dispenser 0).state = .closed .fault ∧
      (ran .dispAlarm (reported 12 (.dispAlarm 4) (docked (some 100) none))).fuel.committed = 0 ∧
      (ran .dispAlarm (reported 12 (.dispAlarm 4) (docked (some 100) none))).fuel.queue.map (fun x => (x.bus, x.front)) = [(1, true)] := by
  decide +kernel

/-- R96: a full wash of 300 s and a margin of 120 s. -/
theorem test_wash_entered :
    ((ran .washEventEntered (reported 15 (.washEvent 1 0) (washCalled 4900 false))).washLane 0).deadline = some 5420 ∧
      queued (ran .washEventEntered (reported 15 (.washEvent 1 0) (washCalled 4900 false))) = [(.aspectClear, 23), (.washGo .full, 15)] := by
  decide +kernel

/-- R98: a good wash clears the nights, lowers the score by 1, and clears four times as long while it is paced. -/
theorem test_wash_done :
    (ran .washEventDone (reported 15 (.washEvent 2 0) washingEmpty)).counter .washGood = 1 ∧
      ((ran .washEventDone (reported 15 (.washEvent 2 0) washingEmpty)).washLane 0).state = .clearing ∧
      ((ran .washEventDone (reported 15 (.washEvent 2 0) washingEmpty)).bus 1).place = .out ∧
      ((ran .washEventDone (reported 15 (.washEvent 2 0) (washing 5400 false))).bus 1).nights = 0 ∧
      ((ran .washEventDone (reported 15 (.washEvent 2 0) (washing 5400 false))).washLane 0).score = 30 ∧
      ((ran .washEventDone (reported 15 (.washEvent 2 0) (washing 5400 false))).washLane 0).deadline = some 5040 ∧
      ((ran .washEventDone (reported 15 (.washEvent 2 0) (washing 5400 false))).washLane 0).pacing = 0 := by decide +kernel

/-- R99: the bus of a failed retry is skipped. -/
theorem test_wash_aborted_retry :
    ((ran .washEventAborted (reported 15 (.washEvent 3 9) (washing 5400 true))).bus 1).washSkipped = true ∧
      (ran .washEventAborted (reported 15 (.washEvent 3 9) (washing 5400 true))).counter .washAborted = 1 := by decide +kernel

/-- R100: "ready" in FAULTED clears the lane; R101: in READY it is ignored. -/
theorem test_wash_ready :
    ((ran .washEventReady (reported 15 (.washEvent 4 0) (withWash (washLane .faulted) yard))).washLane 0).state = .clearing ∧
      noticed (ran .washEventReady (reported 15 (.washEvent 4 0) yard)) = [.washEventIgnored] := by decide +kernel

/-- R101, R209: an event code outside 1 to 4 is ignored with a notice. -/
theorem test_wash_unknown :
    (ran .washEventUnknown (reported 15 (.washEvent 7 0) yard)).notices.queue.map (fun n => n.value) = [some 7] := by decide +kernel

/-- R157: in CONFIGURE an entry is relayed, with its kind code. -/
theorem test_relay :
    (ran .tag (reported 1 (.tag 1001 none) (inMode .configure yard))).notices.queue.map (fun n => (n.kind, n.node, n.value)) =
      [(.relay, some 1, some 1)] := by decide +kernel

/-- R152: the relay notice of a DETECTOR's entry reports the role index of its acceptance; that of a DISPENSER's reports none. -/
theorem test_relay_role_index :
    (ran .sample (reported 3 (.sample 0 [40000])
        (withNode 3 { someNode .detector with roleIndex := 16 } (inMode .configure yard)))).notices.queue.map
          (fun n => (n.node, n.channel, n.value)) = [(some 3, some 16, some 2)] ∧
      (ran .nozzle (reported 12 (.nozzle 1001) (inMode .configure yard))).notices.queue.map (fun n => (n.node, n.channel)) =
        [(some 12, none)] := by decide +kernel

/-- R171: a transmission marks the node and sends the frame; nothing is sent in SHADOW. -/
theorem test_transmission :
    (ran .transmission (commanded .waiting 0)).commands.queue = [aspectEntry (.sent false) 1] ∧
      ((ran .transmission (commanded .waiting 0)).node 21).mark = true ∧
      (ran .transmission (inMode .shadow (commanded .waiting 0))).commands.tx = none := by decide +kernel

/-- R171: at transmit completion the acknowledgement timeout begins. -/
theorem test_transmit_completion :
    (ran .transmitCompletion (ran .transmission (commanded .waiting 0))).commands =
      { queue := [aspectEntry (.sent true) 1], tx := none } := by decide +kernel

/-! ### The office port -/

/-- The ORDER frame CLEAR FLAGS with order tag 7. -/
def clearFlagsFrame : Frame := frameFrom 0 0x40 [0x1B, 7]

/-- R198, R209: RUN with a valid clock is 0x09; SHADOW with every other item on is 0xFE. -/
theorem test_status_byte :
    yard.status = 0x09 ∧
      ({ withDuty (someDuty .leaving) (inMode .shadow yard) with
        office.mode := .shadow, office.pendingMode := some .run, field.quietTimer := some 1800, notices.dropped := true
        counters := tset yard.counters 7 0x80000000 } : State).status = 0xFE := by decide +kernel

/-- R196, R197: an ORDER frame joins the order inbox; at a full inbox it is answered BUSY. -/
theorem test_office_frame_arrival :
    (ran (.officeFrameArrival clearFlagsFrame) yard).office.orders = [theOrder 0x1B []] ∧
      answered (ran (.officeFrameArrival clearFlagsFrame)
        { yard with office.orders := List.replicate 4 (theOrder 0x1B []) }) = some (.busy, []) := by decide +kernel

/-- R193: an answer is sent before any notice, and its kind is 0x41. -/
theorem test_office_transmission :
    (ran .officeTransmission
        { yard with
          office.answers := [{ status := 4, result := .ok, code := 2, tag := 7, data := [] }]
          notices.queue := [yard.note .restarted] }).office.tx.map (fun f => (f.kind, f.payload)) = some (0x41, [4, 0, 2, 7]) := by
  decide +kernel

/-- R209: a "restarted" notice at yard second 5000 and 10:00: kind 49, NOTABLE, no subject and no value; and a "misroute" of bus 3 into lane 4 with value 9. -/
theorem test_notice_payload :
    (yard.note .restarted).payload.take 9 = [49, 1, 0, 0, 0x13, 0x88, 2, 0x58, 0] ∧
      ({ yard.note .misroute with bus := some 3, lane := some 4, value := some 9 } : Notice).payload.take 11 =
        [7, 1, 0, 0, 0x13, 0x88, 2, 0x58, 0x83, 3, 4] ∧
      ({ yard.note .misroute with bus := some 3, lane := some 4, value := some 9 } : Notice).payload.drop 16 = [0, 0, 0, 9] := by decide +kernel

theorem test_office_transmit_completion :
    (ran .officeTransmitCompletion { yard with office.tx := some clearFlagsFrame }).office.tx = none := by decide +kernel

/-- R204: a pending mode is entered when no command waits, and not before. -/
theorem test_mode_change_takes_effect :
    (ran .modeChangeTakesEffect { yard with office.pendingMode := some .shadow }).mode = .shadow ∧
      (ran .modeChangeTakesEffect { commanded .waiting 0 with office.pendingMode := some .shadow }).mode = .run := by decide +kernel

/-- R204: in RUN another mode becomes pending, and a code above 3 is out of range. -/
theorem test_set_mode :
    (ran .setMode (ordered 0x01 [0] (commanded .waiting 0))).office.pendingMode = some .configure ∧
      answered (ran .setMode (ordered 0x01 [4] yard)) = some (.range, []) := by decide +kernel

/-- R204: DOZE is refused while a bus waits. -/
theorem test_set_mode_refuses_doze : answered (ran .setMode (ordered 0x01 [3] (deferredTo 5001))) = some (.conflict, []) := by decide +kernel

theorem test_set_clock :
    (ran .setClock (ordered 0x02 [5, 159, 59] yard)).clock = { yardSecond := 5000, valid := true, minute := 1439, second := 59 } ∧
      answered (ran .setClock (ordered 0x02 [5, 160, 0] yard)) = some (.range, []) := by decide +kernel

/-- R201: fuel skip level ranges over 50 to 100; the two group tags differ. -/
theorem test_set_parameter :
    (ran .setParameter (ordered 0x03 [4, 0, 0, 0, 50] yard)).params.fuelSkipLevel = 50 ∧
      answered (ran .setParameter (ordered 0x03 [4, 0, 0, 0, 49] yard)) = some (.range, []) ∧
      answered (ran .setParameter (ordered 0x03 [15, 0, 0, 0, 65] yard)) = some (.conflict, []) := by decide +kernel

theorem test_open_load :
    (ran .openLoad (ordered 0x04 [4, 0, 1, 0, 64] yard)).office.window = some { table := .nodes, first := 1, stop := 64, next := 1 } ∧
      answered (ran .openLoad (ordered 0x04 [4, 0, 0, 0, 64] yard)) = some (.range, []) := by decide +kernel

/-- A window on classes 1 and 2. -/
def loadingClasses : State := { yard with office.window := some { table := .classes, first := 1, stop := 3, next := 1 } }

/-- R203, R2: class 1 of 3 bays and 320 litres is written; class 2 of 5 bays is refused, and the window closes. -/
theorem test_load_records :
    (ran .loadRecords (ordered 0x05 [2, 1, 3, 1, 64, 1, 5, 1, 64] loadingClasses)).cls 1 = { valid := true, length := 3, capacity := 320 } ∧
      answered (ran .loadRecords (ordered 0x05 [2, 1, 3, 1, 64, 1, 5, 1, 64] loadingClasses)) = some (.range, [1, 2, 3]) ∧
      (ran .loadRecords (ordered 0x05 [2, 1, 3, 1, 64, 1, 5, 1, 64] loadingClasses)).office.window = none := by decide +kernel

/-- R202: the window that reaches its end is told as completed; R199: a count of 5, or none at all, is out of range (log 44). -/
theorem test_load_completed :
    noticed (ran .loadRecords (ordered 0x05 [2, 1, 3, 1, 64, 1, 4, 1, 64] loadingClasses)) = [.loadCompleted] ∧
      answered (ran .loadRecords (ordered 0x05 [5] loadingClasses)) = some (.range, []) ∧
      answered (ran .loadRecords (ordered 0x05 [] yard)) = some (.range, []) := by decide +kernel

theorem test_abandon_load :
    noticed (ran .abandonLoad (ordered 0x06 [] loadingClasses)) = [.loadAbandoned] ∧
      answered (ran .abandonLoad (ordered 0x06 [] yard)) = some (.window, []) := by decide +kernel

theorem test_read_record :
    answered (ran .readRecord (ordered 0x07 [1, 0] yard)) = some (.ok, [1, 2, 0, 250]) ∧
      answered (ran .readRecord (ordered 0x07 [1, 4] yard)) = some (.range, []) := by decide +kernel

theorem test_read_lane :
    (answered (ran .readLane (ordered 0x08 [0, 0] yard))).map (fun x => x.2.take 3) = some [1, 0, 10] ∧
      answered (ran .readLane (ordered 0x08 [32, 0] yard)) = some (.range, []) := by decide +kernel

/-- R209: the total of the directions and the one record: bus 1, lane 0, yard second 4900. -/
theorem test_read_queue :
    answered (ran .readQueue (ordered 0x09 [3, 0, 0] (directedAt 4900))) = some (.ok, [0, 1, 1, 0, 0, 0, 0x13, 0x24]) ∧
      answered (ran .readQueue (ordered 0x09 [5, 0, 0] yard)) = some (.range, []) := by decide +kernel

/-- Lane 0 with bus 1 at its head and a placeholder behind it. -/
def parked : State := withBus 1 (someBus 1001 (.parked 0)) (withLane 0 { through with contents := [.bus 1, .placeholder] } yard)

/-- R43: the fields of lane 0, four bays used and six free, and its two entries: bus 1 of fleet number 4401, and a placeholder. -/
theorem test_read_lane_entries :
    (answered (ran .readLane (ordered 0x08 [0, 0] parked))).map (fun x => x.2.drop 11) =
      some ([0, 0, 1, 1, 4, 6, 0] ++ [0, 0, 0] ++ [0, 2] ++ [0, 1, 0x11, 0x31, 2, 5, 160] ++ [1, 0, 0, 0, 2, 5, 160]) := by decide +kernel

/-- R41: bus 2 is placed behind bus 1; a bus that is PARKED may not be placed. -/
theorem test_place_bus :
    ((ran .placeBus (ordered 0x0A [0, 1, 0, 2] parked)).lane 0).contents = [.bus 1, .bus 2, .placeholder] ∧
      answered (ran .placeBus (ordered 0x0A [1, 0, 0, 1] parked)) = some (.conflict, []) := by decide +kernel

/-- R42: a removed bus is LOST. -/
theorem test_remove_bus :
    ((ran .removeBus (ordered 0x0B [0, 0] parked)).lane 0).contents = [.placeholder] ∧
      ((ran .removeBus (ordered 0x0B [0, 0] parked)).bus 1).place = .lost ∧
      answered (ran .removeBus (ordered 0x0B [0, 2] parked)) = some (.range, []) := by decide +kernel

theorem test_set_lane_state :
    ((ran .setLaneState (ordered 0x0C [0, 1] (withLane 0 { through with uncertain := true } yard))).lane 0) =
      { through with office := .entryClosed } := by decide +kernel

/-- Bus 1 bound to duty 5, which is pinned to it or not. -/
def boundPair (pin : Option Nat) : State :=
  withBus 1 { someBus 1001 .out with boundDuty := some 5 } (withDuty { someDuty .bound with bus := some 1, pin := pin } yard)

/-- R113: pinning bus 2 to a duty bound to bus 1 frees bus 1. -/
theorem test_pin_duty :
    (ran .pinDuty (ordered 0x0D [5, 2] (boundPair none))).duty 5 = { someDuty .bound with bus := some 2, pin := some 2 } ∧
      ((ran .pinDuty (ordered 0x0D [5, 2] (boundPair none))).bus 1).boundDuty = none := by decide +kernel

theorem test_unpin_duty :
    (ran .unpinDuty (ordered 0x0E [5] (boundPair (some 1)))).duty 5 = { someDuty .bound with bus := some 1 } := by decide +kernel

theorem test_cancel_duty :
    (ran .cancelDuty (ordered 0x0F [5] (boundPair (some 1)))).duty 5 = { someDuty .cancelled with pin := some 1 } ∧
      answered (ran .cancelDuty (ordered 0x0F [5] (shownSince 4900))) = some (.conflict, []) := by decide +kernel

theorem test_wash_now :
    ((ran .washNow (ordered 0x10 [1] yard)).bus 1).washNow = true ∧ answered (ran .washNow (ordered 0x10 [3] yard)) = some (.range, []) := by
  decide +kernel

/-- R83: the stock saturates at 4,000,000 litres. -/
theorem test_add_stock :
    answered (ran .addStock (ordered 0x11 [0, 0x3D, 0x09, 0] yard)) = some (.ok, [0, 0x3D, 0x09, 0, 0, 0, 0, 0, 0, 0x3D, 0x09, 0]) := by
  decide +kernel

/-- R83: the stock may not be set below what is committed. -/
theorem test_set_stock :
    answered (ran .setStock (ordered 0x12 [0, 0, 0, 99] (docked (some 100) none))) = some (.conflict, []) ∧
      (ran .setStock (ordered 0x12 [0, 0, 0, 100] (docked (some 100) none))).fuel.stock = 100 := by decide +kernel

theorem test_reopen_wash_lane :
    (ran .reopenWashLane (ordered 0x13 [0] (withWash { washLane .faulted with score := 39, pacing := 8 } yard))).washLane 0 =
      { washLane .ready with since := 5000 } := by decide +kernel

/-- R104: a lane in use is closed at the end of its cycle. -/
theorem test_close_wash_lane :
    ((ran .closeWashLane (ordered 0x14 [0] yard)).washLane 0).state = .closed ∧
      ((ran .closeWashLane (ordered 0x14 [0] (washing 5400 false))).washLane 0).closeAtEnd = true := by decide +kernel

/-- R82, R78: an opened dispenser clears, and over a VACANT bay loop is FREE at once. -/
theorem test_open_dispenser :
    ((ran .openDispenser (ordered 0x15 [0] (withDisp (dispenser (.closed .office)) yard))).dispenser 0).state = .free := by decide +kernel

/-- R82: a called bus goes back to the queue, and a docked one ends its turn first. -/
theorem test_close_dispenser :
    ((ran .closeDispenser (ordered 0x16 [0] (calledAt 4900 0))).dispenser 0).state = .closed .office ∧
      (ran .closeDispenser (ordered 0x16 [0] (calledAt 4900 0))).fuel.queue.map (fun x => x.bus) = [1] ∧
      ((ran .closeDispenser (ordered 0x16 [0] (docked none none))).dispenser 0).closeAtEnd = true := by decide +kernel

theorem test_reinstate_node :
    (ran .reinstateNode (ordered 0x17 [22] (withNode 22 { someNode .signal with score := 255, recovery := 3 } yard))).node 22 =
        someNode .signal ∧
      answered (ran .reinstateNode (ordered 0x17 [9] yard)) = some (.range, []) := by decide +kernel

/-- R176: waiting entries are withdrawn and counted in the answer; a SENT one is left. -/
theorem test_abort_commands :
    answered (ran .abortCommands (ordered 0x18 [] (commanded .waiting 0))) = some (.ok, [1]) ∧
      (ran .abortCommands (ordered 0x18 [] (commanded (.sent true) 1))).commands.queue = [aspectEntry (.sent true) 1] := by decide +kernel

/-- The yard with 5 stranger reads counted. -/
def counted : State := { yard with counters := tset yard.counters 1 5 }

theorem test_read_statistic :
    answered (ran .readStatistic (ordered 0x19 [1] counted)) = some (.ok, [0, 0, 0, 5]) ∧
      answered (ran .readStatistic (ordered 0x19 [30] counted)) = some (.range, []) := by decide +kernel

/-- R188: a counter is floored at 0. -/
theorem test_decrement_statistic :
    answered (ran .decrementStatistic (ordered 0x1A [1, 0, 0, 0, 2] counted)) = some (.ok, [0, 0, 0, 3]) ∧
      (ran .decrementStatistic (ordered 0x1A [1, 0xFF, 0xFF, 0xFF, 0xFF] counted)).counter .strangerReads = 0 := by decide +kernel

theorem test_clear_flags :
    (ran .clearFlags (ordered 0x1B [] { yard with notices.dropped := true })).notices.dropped = false := by decide +kernel

/-- R207, R87, R175: a restart keeps the mode, asks for ALL STOP in RUN, takes the grant back, and is told. -/
theorem test_restart :
    (ran .restart (ordered 0x1C [] (docked (some 100) none))).mode = .run ∧
      queued (ran .restart (ordered 0x1C [] (docked (some 100) none))) = [(.allStop, 65)] ∧
      (ran .restart (ordered 0x1C [] (docked (some 100) none))).fuel.committed = 0 ∧
      noticed (ran .restart (ordered 0x1C [] (docked (some 100) none))) = [.restarted] := by decide +kernel

/-- A bus called to wash lane 0, the wash queue full, and a window open. -/
def skipAtRestart : State :=
  { washCalled 4900 false with
    wash.queue := List.replicate 24 { bus := 2, enqueuedAt := 4000, missedOnce := false, retried := false }
    office.window := loadingClasses.office.window }

/-- R207: the window closes (step 5) before the blocks make their changes (step 6). -/
theorem test_restart_closes_window_first :
    (noticed (ran .restart (ordered 0x1C [] skipAtRestart))).take 2 = [.loadAbandoned, .washSkipped] := by decide +kernel

/-- R163: a frame of kind 0x30 is placed for node 3; R162: a reserved kind is refused. -/
theorem test_forward :
    queued (ran .forward (ordered 0x1D [0, 3, 0x30, 1, 2] yard)) = [(.forwarded 0x30 [1, 2], 3)] ∧
      answered (ran .forward (ordered 0x1D [0, 3, 0x23, 1, 2] yard)) = some (.conflict, []) := by decide +kernel

theorem test_unknown_order :
    answered (ran .unknownOrder (ordered 0x1E [] yard)) = some (.unknown, []) ∧
      (ran .unknownOrder (ordered 0x1D [] yard)).office.answers = [] := by decide +kernel

/-! ### Witnesses: the machine and its invariants -/

/-- What holds of every record of a table and of a default record holds at every index. -/
theorem tget_all {α : Type} {n : Nat} [Inhabited α] (v : Vector α n) (p : Nat → α → Prop) (hd : ∀ i, n ≤ i → p i default)
    (h : ∀ i, i < n → p i (tget v i)) : ∀ i, p i (tget v i) := by
  intro i
  by_cases hi : i < n
  · exact h i hi
  · simpa [tget, hi] using hd i (by omega)

theorem witness_StepTakesFrontCommand : yard.pending = [] := rfl

theorem witness_EndOfEventKeeps : yard.begin.Quiet :=
  { outs := rfl, pending := .inl rfl, waiver := by decide +kernel, passes := by decide +kernel }

theorem witness_OnlyTheirCommandsChangeThem : exec .tag yard = .next yard ∧ Instr.tag ≠ .coldReset ∧ Instr.tag ≠ .loadRecords :=
  ⟨rfl, by decide, by decide⟩

/-- The docked yard with full inboxes and queues of notices and orders, and a second of the yard to come. -/
def busy : State :=
  { docked (some 100) none with
    field.inbox := List.replicate 32 (entryFrom yard 3 (.health true 0))
    notices.queue := List.replicate 48 (yard.note .restarted)
    office.orders := List.replicate 4 (theOrder 0x1B [])
    pending := [.clearFlags] }

theorem witness_SizesOrderAndRangesHold :
    busy.WithinCapacity ∧ busy.FuelOrdered ∧ busy.ClockInRange ∧ busy.params.InRange ∧ busy.LiveInRange ∧ ∃ t, step busy = .next t := by
  refine ⟨by constructor <;> decide +kernel, by unfold State.FuelOrdered; decide +kernel, by unfold State.ClockInRange; decide +kernel,
    by constructor <;> decide +kernel, ?_, _, rfl⟩
  have hb : ∀ b, (busy.bus b).level.getD 0 ≤ 100 ∧ (busy.bus b).nights ≤ 15 :=
    tget_all busy.gate.buses (fun _ (r : BusRec) => r.level.getD 0 ≤ 100 ∧ r.nights ≤ 15) (fun _ _ => by decide) (by decide +kernel)
  have hn : ∀ n, (tget busy.nodes n).score ≤ 255 ∧ (tget busy.nodes n).recovery ≤ 8 :=
    tget_all busy.nodes (fun _ (r : NodeRec) => r.score ≤ 255 ∧ r.recovery ≤ 8) (fun _ _ => by decide) (by decide +kernel)
  have hw : ∀ w, (busy.washLane w).score ≤ 255 ∧ (busy.washLane w).pacing ≤ 8 :=
    tget_all busy.wash.lanes (fun _ (r : WashLaneRec) => r.score ≤ 255 ∧ r.pacing ≤ 8) (fun _ _ => by decide) (by decide +kernel)
  have hz : ∀ n, (busy.node n).score ≤ 255 ∧ (busy.node n).recovery ≤ 8 := by
    intro n
    unfold State.node
    split
    · decide
    · exact hn n
  exact
    { levels := fun b v h => by simpa [h] using (hb b).1
      nights := fun b => (hb b).2
      nodeScores := fun n => (hz n).1
      recoveries := fun n => (hz n).2
      washScores := fun w => (hw w).1
      pacings := fun w => (hw w).2 }

/-- Stock and grants agree where the sum, the bounds and the dispensers do. -/
theorem stocked (s : State) (sum : s.fuel.committed = s.grants) (covered : s.fuel.committed ≤ s.fuel.stock) (bounded : s.fuel.stock ≤ 4000000)
    (hd : ∀ d, d < 6 → (s.dispenser d).grant.isSome → (s.dispenser d).state = .docked ∨ (s.dispenser d).state = .fuelling) :
    s.StockSound :=
  { sum := sum, covered := covered, bounded := bounded
    held := tget_all s.fuel.dispensers (fun _ (r : DispenserRec) => r.grant.isSome → r.state = .docked ∨ r.state = .fuelling)
      (fun _ _ => by decide) hd }

theorem witness_CommittedIsTheSumOfGrants : busy.StockSound ∧ ∃ t, step busy = .next t :=
  ⟨stocked _ (by decide +kernel) (by decide +kernel) (by decide +kernel) (by decide +kernel), _, rfl⟩

/-- The yard with a SENT entry to node 21 and an acknowledgement timeout to come. -/
def awaiting : State := { commanded (.sent true) 1 with pending := [.acknowledgementTimeout 21] }

theorem sound_commanded (attempts : Nat) : (commanded (.sent true) attempts).CommandsSound := by
  refine { marked := ?_, oneSent := ?_, numbered := ?_, below := ?_ }
  · intro x hx _ _
    simp only [commanded, withNode, List.mem_singleton] at hx
    subst hx
    rfl
  · intro n
    exact Nat.le_trans (List.length_filter_le _ _) (Nat.le_refl 1)
  · simp [commanded, withNode]
  · simp [commanded, withNode, aspectEntry]

theorem witness_OneSentCommandToANode : awaiting.CommandsSound ∧ ∃ t, step awaiting = .next t :=
  ⟨{ marked := (sound_commanded 1).marked
     oneSent := (sound_commanded 1).oneSent
     numbered := (sound_commanded 1).numbered
     below := (sound_commanded 1).below }, _, rfl⟩

/-- A bus in every collection of the yard: parked, waiting for fuel, docked, waiting for the wash, washing, held, directed; and one LEAVING. -/
def everywhere : State :=
  { withBus 1 (someBus 1001 (.parked 0)) (withBus 2 (someBus 1002 .fuelWait) (withBus 3 (someBus 1003 (.fuelBay 0))
      (withBus 4 (someBus 1004 .washWait) (withBus 5 (someBus 1005 (.wash 0)) (withBus 6 (someBus 1006 .hold)
        (withBus 7 (someBus 1007 (.directed 1)) (withBus 8 (someBus 1008 .leaving) (withLane 0 { through with contents := [.bus 1] }
          (withDisp { dispenser .docked with occupant := some { bus := 3, priority := 1, enqueuedAt := 4000, misses := 0 } }
            (withWash
              { washLane .washing with
                occupant := some { bus := 5, enqueuedAt := 4000, missedOnce := false, retried := false }, deadline := some 6000 }
              yard)))))))))) with
    fuel.queue := [{ bus := 2, priority := 1, enqueuedAt := 4100, misses := 0, turnsLeft := 0, deadline := none, front := false }]
    wash.queue := [{ bus := 4, enqueuedAt := 4200, missedOnce := false, retried := false }]
    holdList := [6]
    laneMap.directions := [{ bus := 7, lane := 1, issuedAt := 4950, ticket := 0 }]
    pending := [.yardSecond] }

/-- Every entry of the collections is a bus below 256. -/
def rostered (s : State) : Bool :=
  (List.range 32).all (fun l => (s.lane l).contents.all fun x => match x with | .bus b => decide (b < 256) | .placeholder => true)
    && s.fuel.queue.all (fun x => decide (x.bus < 256)) && (List.range 6).all (fun d => (s.dispenser d).occupant.toList.all fun o => decide (o.bus < 256))
    && s.wash.queue.all (fun x => decide (x.bus < 256)) && (List.range 2).all (fun w => (s.washLane w).occupant.toList.all fun o => decide (o.bus < 256))
    && s.holdList.all (fun b => decide (b < 256)) && s.laneMap.directions.all (fun d => decide (d.bus < 256))

/-- A filter that nothing meets leaves nothing. -/
theorem filter_none {α : Type} (p : α → Bool) (xs : List α) (h : ∀ x ∈ xs, p x = false) : xs.filter p = [] := by
  induction xs with
  | nil => rfl
  | cons x xs ih =>
    have hx : p x = false := h x (List.mem_cons_self ..)
    simp only [List.filter, hx]
    exact ih fun y hy => h y (List.mem_cons_of_mem _ hy)

/-- A number that is no bus of the roster appears nowhere. -/
theorem appears_none (s : State) (b : Nat) (h : rostered s = true) (hb : 256 ≤ b) : s.appears b = [] := by
  simp only [rostered, Bool.and_eq_true, List.all_eq_true, decide_eq_true_eq] at h
  obtain ⟨⟨⟨⟨⟨⟨hl, hf⟩, hd⟩, hq⟩, hw⟩, hh⟩, hx⟩ := h
  have no : ∀ x : Nat, x < 256 → (x == b) = false := fun x hx => by simpa using (show x ≠ b by omega)
  unfold State.appears
  simp only [List.append_eq_nil_iff, List.map_eq_nil_iff, List.flatMap_eq_nil_iff]
  refine ⟨⟨⟨⟨⟨⟨fun l hm => ?_, ?_⟩, fun d hm => ?_⟩, ?_⟩, fun w hm => ?_⟩, ?_⟩, ?_⟩
  · apply filter_none
    intro x hx'
    have := hl l hm x hx'
    cases x with
    | bus c => simpa using (show c ≠ b by simp at this; omega)
    | placeholder => rfl
  · exact filter_none _ _ fun x hx' => no _ (hf x hx')
  · exact filter_none _ _ fun x hx' => no _ (hd d hm x hx')
  · exact filter_none _ _ fun x hx' => no _ (hq x hx')
  · exact filter_none _ _ fun x hx' => no _ (hw w hm x hx')
  · exact filter_none _ _ fun x hx' => no _ (hh x hx')
  · exact filter_none _ _ fun x hx' => no _ (hx x hx')

/-- Buses and collections agree where the entries, the dispensers and the wash lanes do. -/
theorem agrees (s : State) (hr : rostered s = true)
    (hb : ∀ b, b < 256 → s.appears b = if (s.bus b).valid && !(s.bus b).place.outside then [(s.bus b).place] else [])
    (hd : ∀ d, d < 6 → (s.dispenser d).occupant.isSome → (s.dispenser d).state.inTurn = true)
    (hw : ∀ w, w < 2 → (s.washLane w).occupant.isSome → (s.washLane w).occupied = true) : s.YardAgrees := by
  refine { placed := fun b => ?_, bays := ?_, washes := ?_ }
  · by_cases h : b < 256
    · exact hb b h
    · have : s.bus b = default := by simp [State.bus, tget, h]
      rw [appears_none s b hr (by omega), this]
      rfl
  · exact tget_all s.fuel.dispensers (fun _ (r : DispenserRec) => r.occupant.isSome → r.state.inTurn = true) (fun _ _ => by decide) hd
  · exact tget_all s.wash.lanes (fun _ (r : WashLaneRec) => r.occupant.isSome → r.occupied = true) (fun _ _ => by decide) hw

theorem witness_BusesStayInTheirPlaces : everywhere.YardAgrees ∧ ∃ t, step everywhere = .next t :=
  ⟨agrees _ (by decide +kernel) (by decide +kernel) (by decide +kernel) (by decide +kernel), _, rfl⟩

theorem witness_LanesNeverOverfill : everywhere.YardAgrees ∧ everywhere.RoomKept ∧ ∃ t, step everywhere = .next t := by
  refine ⟨witness_BusesStayInTheirPlaces.1, fun l => ?_, _, rfl⟩
  by_cases hl : l < 32
  · revert l
    decide +kernel
  · have : everywhere.lane l = default := by simp [State.lane, tget, hl]
    rw [State.usedBays, this]
    exact Nat.le_refl 0

/-- A yard in CONFIGURE in which a second is to come. -/
def configuring : State := { inMode .configure yard with pending := [.yardSecond] }

theorem witness_ConfigureKeepsStill : configuring.StockSound ∧ configuring.ConfigureStill ∧ ∃ t, step configuring = .next t := by
  refine ⟨stocked _ (by decide +kernel) (by decide +kernel) (by decide +kernel) (by decide +kernel),
          { shadow := fun h => absurd h (by decide), commands := fun _ => rfl, directions := fun _ => rfl, releases := fun _ => ?_, duties := fun _ => ?_, dispensers := fun _ => ?_,
            washLanes := fun _ => ?_ }, _, rfl⟩
  · exact tget_all configuring.pullOut.releases (fun _ (r : Option ReleaseRec) => r = none) (fun _ _ => rfl) (by decide +kernel)
  · exact tget_all configuring.pullOut.duties (fun _ (r : DutyRec) => r.state ≠ .called ∧ r.state ≠ .released) (fun _ _ => by decide)
      (by decide +kernel)
  · exact tget_all configuring.fuel.dispensers (fun _ (r : DispenserRec) => r.state ≠ .calling ∧ r.grant = none) (fun _ _ => by decide)
      (by decide +kernel)
  · exact tget_all configuring.wash.lanes (fun _ (r : WashLaneRec) => r.state ≠ .calling) (fun _ _ => by decide) (by decide +kernel)

/-- Duty 5 RELEASED for bus 1 in lane 0, and a second of the yard to come. -/
def releasing : State := { shownSince 4900 with pending := [.releaseTimeout 0] }

theorem releasing_buses (b : Nat) : (releasing.bus b).boundDuty = if b = 1 then some 5 else none :=
  tget_all releasing.gate.buses (fun b (r : BusRec) => r.boundDuty = if b = 1 then some 5 else none)
    (fun i hi => by rw [if_neg (by omega)]; rfl) (by decide +kernel) b

theorem releasing_duties (d : Nat) : releasing.duty d = if d = 5 then { someDuty .released with bus := some 1, releaseLane := some 0 } else
    if d < 256 then DutyRec.cold else default :=
  tget_all releasing.pullOut.duties
    (fun d (r : DutyRec) => r = if d = 5 then { someDuty .released with bus := some 1, releaseLane := some 0 } else
      if d < 256 then DutyRec.cold else default)
    (fun i hi => by rw [if_neg (by omega), if_neg (by omega)]) (by decide +kernel) d

theorem releasing_releases (l : Nat) :
    releasing.release l = if l = 0 then some { duty := some 5, phase := .showing 4900, ticket := 0 } else none :=
  tget_all releasing.pullOut.releases
    (fun l (r : Option ReleaseRec) => r = if l = 0 then some { duty := some 5, phase := .showing 4900, ticket := 0 } else none)
    (fun i hi => by rw [if_neg (by omega)]; rfl) (by decide +kernel) l

/-- A duty other than 5 is OPEN and names nothing. -/
theorem releasing_others (d : Nat) (h : d ≠ 5) :
    (releasing.duty d).state = .vacant ∧ (releasing.duty d).bus = none ∧ (releasing.duty d).pin = none ∧
      (releasing.duty d).releaseLane = none := by
  rw [releasing_duties, if_neg h]
  split <;> exact ⟨rfl, rfl, rfl, rfl⟩

theorem sound_releasing : releasing.PullOutSound := by
  have h5 : releasing.duty 5 = { someDuty .released with bus := some 1, releaseLane := some 0 } := by
    rw [releasing_duties]; rfl
  have hbus : ∀ d, (releasing.duty d).bus = if d = 5 then some 1 else none := by
    intro d
    by_cases h : d = 5
    · subst h; rw [h5]; rfl
    · rw [(releasing_others d h).2.1, if_neg h]
  refine { symmetric := ?_, bound := ?_, lanes := ?_, agreed := ?_, pins := ?_, window := ?_, called := ?_, released := ?_, unnamed := ?_ }
  · intro b d
    rw [releasing_buses, hbus]
    by_cases hb : b = 1 <;> by_cases hd : d = 5 <;> simp [hb, hd, Ne.symm, eq_comm]
  · intro d
    by_cases h : d = 5
    · subst h; rw [h5]; rfl
    · rw [(releasing_others d h).1, (releasing_others d h).2.1]; rfl
  · intro d
    by_cases h : d = 5
    · subst h; rw [h5]; rfl
    · rw [(releasing_others d h).1, (releasing_others d h).2.2.2]; rfl
  · intro b d h
    rw [hbus] at h
    split at h
    · next hd =>
      cases h
      subst hd
      decide +kernel
    · cases h
  · intro b d h
    by_cases hd : d = 5
    · subst hd; rw [h5] at h; cases h
    · rw [(releasing_others d hd).2.2.1] at h; cases h
  · intro h
    exact absurd h (by decide)
  · intro d l
    constructor
    · rintro ⟨h, -⟩
      by_cases hd : d = 5
      · subst hd; rw [h5] at h; cases h
      · rw [(releasing_others d hd).1] at h; cases h
    · rintro ⟨r, hr, -, hp⟩
      rw [releasing_releases] at hr
      split at hr
      · cases hr; cases hp
      · cases hr
  · intro d l
    constructor
    · rintro ⟨h, hl⟩
      by_cases hd : d = 5
      · subst hd
        rw [h5] at hl
        cases hl
        exact ⟨_, 4900, by rw [releasing_releases]; rfl, rfl, rfl⟩
      · rw [(releasing_others d hd).1] at h; cases h
    · rintro ⟨r, t, hr, hn, -⟩
      rw [releasing_releases] at hr
      split at hr
      · next hl => cases hr; cases hn; subst hl; rw [h5]; exact ⟨rfl, rfl⟩
      · cases hr
  · intro l r hr hn
    rw [releasing_releases] at hr
    split at hr
    · cases hr; cases hn
    · cases hr

theorem witness_BindingsAndReleasesAgree :
    releasing.YardAgrees ∧ releasing.PullOutSound ∧ releasing.MouthsClear ∧ ∃ t, step releasing = .next t := by
  refine ⟨agrees _ (by decide +kernel) (by decide +kernel) (by decide +kernel) (by decide +kernel), sound_releasing, fun l h => ?_, _, rfl⟩
  by_cases hl : l = 0
  · subst hl
    exact absurd h (by decide +kernel)
  · right
    rw [releasing_releases, if_neg hl]

/-- The valid records of the yard. -/
theorem yard_valid :
    (∀ i, (yard.bus i).valid = true → i = 1 ∨ i = 2) ∧
    (∀ i, (tget yard.nodes i).valid = true → i ∈ [1, 2, 3, 12, 15, 21, 22, 23]) ∧
    (∀ i, (yard.channel i).valid = true → i ∈ [0, 1, 2, 20]) ∧ ∀ i, (yard.lane i).valid = true → i = 0 ∨ i = 1 :=
  ⟨tget_all yard.gate.buses (fun i (r : BusRec) => r.valid = true → i = 1 ∨ i = 2) (fun _ _ h => by cases h) (by decide +kernel),
   tget_all yard.nodes (fun i (r : NodeRec) => r.valid = true → i ∈ [1, 2, 3, 12, 15, 21, 22, 23]) (fun _ _ h => by cases h)
    (by decide +kernel),
   tget_all yard.channels (fun i (r : ChannelRec) => r.valid = true → i ∈ [0, 1, 2, 20]) (fun _ _ h => by cases h) (by decide +kernel),
   tget_all yard.laneMap.lanes (fun i (r : LaneRec) => r.valid = true → i = 0 ∨ i = 1) (fun _ _ h => by cases h) (by decide +kernel)⟩

/-- The valid duties, dispensers and wash lanes of the yard. -/
theorem yard_plant :
    (∀ d, (yard.duty d).valid = true → d = 5) ∧ (∀ d, (yard.dispenser d).valid = true → d = 0) ∧
      ∀ w, (yard.washLane w).valid = true → w = 0 :=
  ⟨tget_all yard.pullOut.duties (fun i (r : DutyRec) => r.valid = true → i = 5) (fun _ _ h => by cases h) (by decide +kernel),
   tget_all yard.fuel.dispensers (fun i (r : DispenserRec) => r.valid = true → i = 0) (fun _ _ h => by cases h) (by decide +kernel),
   tget_all yard.wash.lanes (fun i (r : WashLaneRec) => r.valid = true → i = 0) (fun _ _ h => by cases h) (by decide +kernel)⟩

/-- A valid node of the yard is one of its list. -/
theorem yard_node (i : Nat) (h : (yard.node i).valid = true) : i ∈ [1, 2, 3, 12, 15, 21, 22, 23] := by
  unfold State.node at h
  split at h
  · cases h
  · exact yard_valid.2.1 i h

theorem witness_LoadChecksHoldInTheTables : yard.TablesSound := by
  have hl0 : yard.lane 0 = through := by decide +kernel
  have hl1 : yard.lane 1 = deadEnd := by decide +kernel
  refine { classes := by decide +kernel, lanes := ?_, duties := ?_, roleIndices := ?_, channels := ?_, dispensers := ?_, washLanes := ?_,
           buses := ?_, tags := ?_, roles := ?_, inputs := ?_, loops := ?_, signals := ?_ }
  · intro l h
    rcases yard_valid.2.2.2 l h with rfl | rfl <;> (simp only [Signal.InRange]; decide +kernel)
  · intro d h
    rw [yard_plant.1 d h]
    decide +kernel
  · intro n h
    rw [(by decide +kernel : ∀ i ∈ [1, 2, 3, 12, 15, 21, 22, 23], (yard.node i).roleIndex = 0) n (yard_node n h)]
    exact Nat.zero_le _
  · intro c h
    have := yard_valid.2.2.1 c h
    simp only [List.mem_cons, List.not_mem_nil, or_false] at this
    rcases this with rfl | rfl | rfl | rfl <;> decide +kernel
  · intro d h
    rw [yard_plant.2.1 d h]
    simp only [Signal.InRange]
    decide +kernel
  · intro w h
    rw [yard_plant.2.2 w h]
    simp only [Signal.InRange]
    decide +kernel
  · intro i h
    rcases yard_valid.1 i h with rfl | rfl <;> decide +kernel
  · intro i j hi hj
    rcases yard_valid.1 i hi with rfl | rfl <;> rcases yard_valid.1 j hj with rfl | rfl <;> decide +kernel
  · intro i j hi hj
    have : ∀ i ∈ [1, 2, 3, 12, 15, 21, 22, 23], ∀ j ∈ [1, 2, 3, 12, 15, 21, 22, 23], (yard.node i).role = (yard.node j).role →
        (yard.node i).role = .dispenser ∨ (yard.node i).role = .wash → (yard.node i).roleIndex = (yard.node j).roleIndex → i = j := by
      decide +kernel
    exact this i (yard_node i hi) j (yard_node j hj)
  · intro i j hi hj
    have : ∀ i ∈ [0, 1, 2, 20], ∀ j ∈ [0, 1, 2, 20], (yard.channel i).node = (yard.channel j).node →
        (yard.channel i).input = (yard.channel j).input → i = j := by decide +kernel
    exact this i (yard_valid.2.2.1 i hi) j (yard_valid.2.2.1 j hj)
  · intro i j c hi hj h k
    have u0 : (yard.lane 0).usesLoop c = true → c = 0 ∨ c = 1 := by
      rw [hl0]
      intro h
      simp only [LaneRec.usesLoop, LaneRec.exitEndLoop, through, LaneRec.cold, Bool.or_eq_true, beq_iff_eq] at h
      omega
    have u1 : (yard.lane 1).usesLoop c = true → c = 2 := by
      rw [hl1]
      intro h
      simp only [LaneRec.usesLoop, LaneRec.exitEndLoop, deadEnd, LaneRec.cold, Bool.or_eq_true, beq_iff_eq] at h
      omega
    rcases yard_valid.2.2.2 i hi with rfl | rfl <;> rcases yard_valid.2.2.2 j hj with rfl | rfl
    · rfl
    · have := u0 h; have := u1 k; omega
    · have := u1 h; have := u0 k; omega
    · rfl
  · intro i j sig hi hj h k
    have u0 : (yard.lane 0).usesSignal sig = true → sig.node = 21 := by
      rw [hl0]
      intro h
      simp only [LaneRec.usesSignal, LaneRec.head, through, LaneRec.cold, Bool.or_eq_true, beq_iff_eq] at h
      rcases h with h | h <;> rw [← h]
    have u1 : (yard.lane 1).usesSignal sig = true → sig.node = 22 := by
      rw [hl1]
      intro h
      simp only [LaneRec.usesSignal, LaneRec.head, deadEnd, LaneRec.cold, Bool.or_eq_true, beq_iff_eq] at h
      rcases h with h | h <;> rw [← h]
    rcases yard_valid.2.2.2 i hi with rfl | rfl <;> rcases yard_valid.2.2.2 j hj with rfl | rfl
    · rfl
    · have := u0 h; have := u1 k; omega
    · have := u1 h; have := u0 k; omega
    · rfl

/-! ### Witnesses: the rules that commands share -/

/-- Lane 0 with bus 1, bound to duty 5, at its back; lane 1 with a placeholder at its mouth; inversions not allowed. -/
def scoring : State :=
  { withBus 1 { someBus 1001 (.parked 0) with boundDuty := some 5 } (withLane 0 { through with contents := [.bus 1], cost := 31 }
      (withLane 1 { deadEnd with contents := [.placeholder] } (withDuty { someDuty .bound with bus := some 1 } yard))) with
    params.allowInversion := false }

/-- R53: a spare, departure 1440, behind a departure of 1420 scores 20 and the cost of 31; duty 1419 would invert it by 1. -/
theorem test_score : scoring.score 0 1440 = 51 ∧ scoring.score 0 1419 = 1059 ∧ scoring.score 1 1419 = 21 ∧ yard.score 0 700 = 320 := by
  decide +kernel

theorem witness_LaneScoresFollowTheTable :
    yard.joinEnd 0 = none ∧ scoring.joinEnd 0 = some (.bus 1) ∧ (scoring.lane 0).kind = .through ∧ scoring.entryDeparture (.bus 1) = 1420 ∧
      scoring.joinEnd 1 = some .placeholder ∧ (scoring.lane 1).kind = .deadEnd ∧ (scoring.lane 0).cost = 31 ∧
      scoring.params.allowInversion = false ∧ scoring.chosenLane 2 = some 1 ∧ (yard.bus 1).boundDuty = none ∧
      (scoring.bus 1).boundDuty = some 5 := by decide +kernel

/-- Bus 1, bound to duty 5, at the mouth of lane 1: a spare in front of it would be an inversion. -/
def burying : State :=
  withBus 1 { someBus 1001 (.parked 1) with boundDuty := some 5 } (withLane 1 { deadEnd with contents := [.bus 1] }
    (withDuty { someDuty .bound with bus := some 1 } yard))

theorem witness_LaneScoresFollowTheTable_deadEnd :
    burying.joinEnd 1 = some (.bus 1) ∧ (burying.lane 1).kind = .deadEnd ∧ burying.entryDeparture (.bus 1) < 1440 := by decide +kernel

theorem witness_BestEligibleLaneIsChosen :
    yard.chosenLane 1 = some 1 ∧ yard.laneEligible 0 1 = true ∧
      (withLane 0 { through with office := .closed } (withLane 1 { deadEnd with office := .closed } yard)).chosenLane 1 = none := by
  decide +kernel

/-- Eight directions of bus 2 to lane 0, which is long enough for them. -/
def crowdedDirections : State :=
  withLane 0 { through with length := 60 }
    { boundPair none with laneMap.directions := List.replicate 8 { bus := 2, lane := 0, issuedAt := 4900, ticket := 0 } }

theorem witness_AttemptDirectsOrHolds :
    ((boundPair none).begin.bindProvisional 1).restricted = false ∧ ((boundPair none).begin.bindProvisional 1).chosenLane 1 = some 1 ∧
      ((boundPair none).begin.bindProvisional 1).laneMap.directions.length < 8 ∧
      ((inMode .doze (boundPair none)).begin.bindProvisional 1).restricted = true ∧ 1 ∉ (inMode .doze (boundPair none)).begin.holdList ∧
      1 ∈ ({ inMode .doze (boundPair none) with holdList := [1] } : State).begin.holdList ∧
      ((withLane 0 LaneRec.cold (withLane 1 LaneRec.cold (boundPair none))).begin.bindProvisional 1).chosenLane 1 = none ∧
      8 ≤ (crowdedDirections.begin.bindProvisional 1).laneMap.directions.length := by decide +kernel

/-- Only duty 5 of the yard is valid. -/
theorem only_duty (r : DutyRec) (x : Nat) (h : ((withDuty r yard).duty x).valid = true) : x = 5 := by
  have := tget_all yard.pullOut.duties (fun i (r : DutyRec) => i ≠ 5 → r.valid = false) (fun _ _ _ => rfl) (by decide +kernel) x
  apply Decidable.byContradiction
  intro hx
  have h5 : (withDuty r yard).duty x = yard.duty x := by
    simp only [withDuty, State.duty, tget, tset]
    split
    · exact Vector.getElem_setIfInBounds_ne _ (by omega)
    · rfl
  rw [h5, State.duty, this hx] at h
  cases h

theorem witness_AttemptBindsTheNextDuty :
    ((boundPair none).bus 1).boundDuty ≠ none ∧
      ({ yard with office.window := some { table := .schedule, first := 0, stop := 1, next := 0 } } : State).scheduleWindow = true ∧
      (yard.bus 1).boundDuty = none ∧ yard.scheduleWindow = false ∧
      ((yard.duty 5).valid = true ∧ (yard.duty 5).state = .vacant ∧ (yard.duty 5).pin = none ∧ (yard.duty 5).cls = (yard.bus 1).cls ∧
        yard.nowS + yard.params.callLead < yard.plannedS 5) ∧
      ∀ x, (yard.duty x).valid = true → x = 5 := by
  refine ⟨by decide +kernel, by decide +kernel, by decide +kernel, by decide +kernel, by decide +kernel, fun x h => ?_⟩
  exact tget_all yard.pullOut.duties (fun i (r : DutyRec) => r.valid = true → i = 5) (fun _ _ h => by cases h) (by decide +kernel) x h

/-- Duty 5 pinned to bus 1, and OPEN. -/
theorem witness_AttemptBindsTheNextDuty_pinned :
    ((withDuty { someDuty .vacant with pin := some 1 } yard).duty 5).pin = some 1 ∧
      ∀ x, ((withDuty { someDuty .vacant with pin := some 1 } yard).duty x).valid = true → x = 5 :=
  ⟨by decide +kernel, only_duty _⟩

/-- The yard with the wash of every class waived. -/
def allWaived : State := { withWash (washLane .closed) yard with wash.waived := Vector.replicate 4 true }

/-- A full wash queue. -/
def washFull : State :=
  { yard with wash.queue := List.replicate 24 { bus := 2, enqueuedAt := 4000, missedOnce := false, retried := false } }

theorem witness_RoutingTestsInTurn :
    ((withBus 1 { someBus 1001 .out with level := none } yard).bus 1).level = none ∧ yard.fuel.queue.length < 40 ∧
      ((withBus 1 { someBus 1001 .out with level := some 84 } yard).bus 1).level = some 84 ∧ (84 : Nat) < yard.params.fuelSkipLevel ∧
      ((withBus 1 { someBus 1001 .out with level := some 85 } yard).bus 1).level = some 85 ∧ yard.params.fuelSkipLevel ≤ 85 ∧
      ((withBus 1 { someBus 1001 .out with nights := 3 } yard).bus 1).washInterval ≤ 3 ∧ yard.waived 0 = false ∧ yard.wash.queue.length < 24 ∧
      allWaived.waived (allWaived.bus 1).cls = true ∧
      ¬ ((yard.bus 1).washInterval ≤ (yard.bus 1).nights ∨ (yard.bus 1).washNow = true) ∧
      (withBus 1 { someBus 1001 .out with washNow := true } washFull).waived 0 = false ∧
      24 ≤ (withBus 1 { someBus 1001 .out with washNow := true } washFull).wash.queue.length ∧
      ((withBus 1 { someBus 1001 .out with washNow := true } washFull).bus 1).washNow = true := by decide +kernel

/-- A fuel queue of forty of a priority. -/
def fuelFull (p : Nat) : State :=
  { yard with
    fuel.queue := List.replicate 40 { bus := 2, priority := p, enqueuedAt := 4000, misses := 0, turnsLeft := 0, deadline := none, front := false } }

theorem witness_FuelTurnsBeginAndEnd :
    yard.fuel.queue.length < 40 ∧ 40 ≤ (fuelFull 2).fuel.queue.length ∧
      (∀ z ∈ (fuelFull 2).fuel.queue, 2 ≤ z.priority ∧ z.enqueuedAt ≤ 4000 ∧
        z = { bus := 2, priority := 2, enqueuedAt := 4000, misses := 0, turnsLeft := 0, deadline := none, front := false }) ∧
      (∀ z ∈ (fuelFull 3).fuel.queue, 3 ≤ z.priority) ∧ (fuelFull 2).fuel.queue = List.replicate 39 (fuelFull 2).fuel.queue.head! ++
        (fuelFull 2).fuel.queue.head! :: [] ∧
      ((withDisp { dispenser .docked with closeAtEnd := true } yard).dispenser 0).closeAtEnd = true ∧
      (yard.dispenser 0).closeAtEnd = false ∧ (yard.channel (yard.dispenser 0).bayLoop).state = .vacant ∧
      ((withChannel 20 (someChannel 7 .dispenserBay .occupied) yard).channel 20).state = .occupied := by decide +kernel

/-- Bus 1 waiting for fuel, not deferred, with dispenser 0 FREE. -/
def waitingForFuel : State :=
  { deferredTo 5000 with
    fuel.queue := [{ bus := 1, priority := 1, enqueuedAt := 4000, misses := 0, turnsLeft := 0, deadline := none, front := false }] }

theorem witness_FuelTurnsBeginAndEnd_calls :
    waitingForFuel.begin.nextFuelCall waitingForFuel.begin.fuel.queue =
        some ({ bus := 1, priority := 1, enqueuedAt := 4000, misses := 0, turnsLeft := 0, deadline := none, front := false }, 0) ∧
      (deferredTo 5000).begin.nextFuelCall (deferredTo 5000).begin.fuel.queue = none ∧
      ((calledAt 4900 0).dispenser 0).state = .calling ∧ (((calledAt 4900 0).dispenser 0).occupant.map fun o => o.bus) = some 1 ∧
      (yard.dispenser 0).state ≠ .calling ∧ (docked none none).mode ≠ .configure ∧ (yard.channel 20).use = .dispenserBay ∧
      (yard.channel 20).state = .vacant ∧
      ((withChannel 20 (someChannel 7 .dispenserBay .faulted) yard).channel 20).state = .faulted ∧
      ((docked (some 50) none).dispenser 0).grant ≠ none ∧ ((docked none none).dispenser 0).grant = none ∧
      ((withDisp (dispenser .docked) yard).dispenser 0).occupant = none ∧ ((docked none none).dispenser 0).occupant.isSome = true ∧
      ((withDisp (dispenser .clearing) yard).dispenser 0).state = .clearing := by decide +kernel

theorem witness_DepartureTakesTheDominantName :
    ((shownSince 4900).duty 5).state = .released ∧ ((shownSince 4900).duty 5).releaseLane = some 0 ∧
      ¬ (((boundPair none).duty 5).state = .called ∨ ((boundPair none).duty 5).state = .released) := by decide +kernel

/-- Bus 1 LEAVING since a yard second for duty 5, which has its release lane. -/
def leavingBound (n : Nat) : State :=
  withBus 1 { someBus 1001 .leaving with boundDuty := some 5, lastSeen := n }
    (withDuty { someDuty .leaving with bus := some 1, releaseLane := some 0 } yard)

theorem witness_UnbindingFollowsTheDutysState :
    ((boundPair none).bus 1).boundDuty = some 5 ∧ ((boundPair none).duty 5).state = .bound ∧
      ((shownSince 4900).bus 1).boundDuty = some 5 ∧ ((shownSince 4900).duty 5).releaseLane = some 0 ∧
      ((leavingBound 4000).bus 1).boundDuty = some 5 ∧ ((leavingBound 4000).duty 5).state = .leaving ∧
      ((withDuty { someDuty .departed with bus := some 1 } (boundPair none)).duty 5).state = .departed := by decide +kernel

/-- A full notice queue: a NOTABLE notice, then ROUTINE ones or NOTABLE ones. -/
def noticesFull (k : NoticeKind) : State :=
  { yard with notices.queue := yard.note .restarted :: List.replicate 47 (yard.note k) }

theorem witness_NoticesOverflowByClass :
    yard.notices.queue.length < 48 ∧ 48 ≤ (noticesFull .held).notices.queue.length ∧ (yard.note .held).kind.routine = true ∧
      (yard.note .restarted).kind.routine = false ∧ (∀ m ∈ (noticesFull .restarted).notices.queue, m.kind.routine = false) ∧
      (noticesFull .held).notices.queue = [yard.note .restarted] ++ yard.note .held :: List.replicate 46 (yard.note .held) := by
  decide +kernel

/-- A full command queue. -/
def commandsFull : State :=
  { yard with
    commands.queue := List.replicate 24
      { id := 1, kind := .forwarded 0x30 [], destination := 3, contributions := [{ purpose := .forward, outputs := 0 }], attempts := 0,
        state := .waiting } }

theorem witness_RequestsAreTaken :
    (inMode .configure yard).begin.mode = .configure ∧ ({ yard with office.pendingMode := some .shadow } : State).changePending = true ∧
      (Purpose.grant 0 0).priority < 3 ∧ ¬ (yard.begin.mode = .configure ∨ (yard.begin.changePending = true ∧ 2 < 3)) ∧
      (inMode .shadow yard).begin.mode = .shadow ∧ yard.begin.mode = .run ∧ (inMode .doze yard).begin.mode = .doze ∧
      24 ≤ commandsFull.commands.queue.length ∧ commandsFull.commands.queue.length ≤ 24 ∧
      (commanded (.sent true) 1).commands.queue = [aspectEntry (.sent true) 1] ∧ (aspectEntry (.sent true) 1).waiting = false := by
  decide +kernel

/-- In RUN: a second output joins the waiting entry; the other aspect of its output takes its place; a request that merges with none stands at the tail; at a
full queue priority 3 takes the place of a FORWARD, and priority 1 fails. A waiting entry for a CUT OFF node fails. -/
theorem witness_RequestsAreTaken_taken :
    ((commanded .waiting 0).begin.request 21 .aspectSet { purpose := .direction 1, outputs := 2 }).commands.queue =
        [{ aspectEntry .waiting 0 with contributions := [{ purpose := .direction 0, outputs := 1 }, { purpose := .direction 1, outputs := 2 }] }] ∧
      (((commanded .waiting 0).begin.request 21 .aspectClear { purpose := .laneClear, outputs := 1 }).commands.queue.map fun x => x.kind) =
        [.aspectClear] ∧
      (((commanded (.sent true) 1).begin.request 21 .aspectSet { purpose := .direction 1, outputs := 2 }).commands.queue.map fun x => x.id) =
        [1, 2] ∧
      (commandsFull.begin.request 12 .refuse { purpose := .refuse, outputs := 0 }).commands.queue.length = 24 ∧
      ((commandsFull.begin.request 12 .refuse { purpose := .refuse, outputs := 0 }).outs.map fun x => x.result) = [.aborted] ∧
      ((commandsFull.begin.request 12 (.grant 9) { purpose := .grant 0 0, outputs := 0 }).outs.map fun x => x.result) = [.failed] ∧
      ((withNode 21 { someNode .signal with score := 255 } yard).begin.request 21 .aspectSet
        { purpose := .direction 1, outputs := 2 }).commands.queue = [] := by decide +kernel

theorem witness_ArbiterTakesTheEarliestOfHighestPriority :
    (commanded .waiting 0).arbiter = some (aspectEntry .waiting 0) ∧ yard.arbiter = none ∧
      (commanded .waiting 0).commands.queue = [] ++ aspectEntry .waiting 0 :: [] := by decide +kernel

theorem witness_FramesCarryTheirCheck : (List.replicate 48 (0 : Byte)).length ≤ 48 := by decide

theorem witness_ReadsAnswerWhatStands_loaded :
    (yard.bus 1).badFields = false ∧ (yard.cls 0).length < 256 ∧ (yard.cls 0).capacity < 65536 ∧ (yard.lane 0).badFields = false ∧
      (yard.lane 1).badFields = false ∧ (yard.duty 5).code < 65536 ∧ (yard.duty 5).planned < 65536 ∧ (yard.node 12).roleIndex < 256 ∧
      (yard.channel 20).onDelta < 65536 ∧ (yard.dispenser 0).baySignal.node < 256 ∧ (yard.washLane 0).fullTime < 65536 ∧
      yard.params.InRange := by
  and_intros <;> first | decide +kernel | (constructor <;> decide +kernel)

/-- A grant asked for at dispenser 0, ticket 0. -/
def granting : State := docked (some 50) none

/-- Bus 1 called to dispenser 0 and to wash lane 0, each by ticket 0. -/
theorem witness_OutcomesReachTheirRequesters :
    ((directedAt 4900).laneMap.directions = [] ++ { bus := 1, lane := 0, issuedAt := 4900, ticket := 0 } :: [] ∧
        yard.laneMap.directions = []) ∧
      (((calledAt 4900 0).dispenser 0).state = .calling ∧ ((calledAt 4900 0).dispenser 0).callTicket = 0 ∧
        ((calledAt 4900 0).dispenser 0).occupant.isSome = true ∧ (yard.dispenser 0).state ≠ .calling) ∧
      ((granting.dispenser 0).grant = some 50 ∧ (granting.dispenser 0).grantTicket = 0 ∧ (granting.dispenser 0).occupant.isSome = true ∧
        ((withDisp { dispenser .docked with grant := some 50 } yard).dispenser 0).occupant = none ∧ (yard.dispenser 0).grant = none) ∧
      (((washCalled 4900 false).washLane 0).state = .calling ∧ ((washCalled 4900 false).washLane 0).callTicket = 0 ∧
        ((washCalled 4900 false).washLane 0).occupant.isSome = true ∧ (yard.washLane 0).state ≠ .calling) ∧
      (((washing 5400 false).washLane 0).state = .washing ∧ ((washing 5400 false).washLane 0).goTicket = 0 ∧
        ((washing 5400 false).washLane 0).occupant.map (fun y => y.retried) = some false ∧
        ((washing 5400 true).washLane 0).occupant.map (fun y => y.retried) = some true ∧
        ((withWash (washLane .washing) yard).washLane 0).occupant = none) ∧
      ((withRelease 0 { duty := some 5, phase := .calling, ticket := 0 } yard).release 0 = some { duty := some 5, phase := .calling, ticket := 0 } ∧
        (withRelease 0 { duty := none, phase := .stopping, ticket := 0 } yard).release 0 = some { duty := none, phase := .stopping, ticket := 0 } ∧
        yard.release 0 = none) := by decide +kernel

/-! ### Witnesses: time and the timeouts -/

theorem witness_TimeAdvances :
    ({ yard with clock.valid := false } : State).clock.valid = false ∧ yard.clock.valid = true ∧
      ({ yard with clock.second := 58 } : State).clock.second < 59 ∧ 59 ≤ ({ yard with clock.second := 59 } : State).clock.second ∧
      (yard.clock.minute + 1) % 1440 ≠ yard.params.dayStart ∧ beforeDayStart.clock.second = 59 ∧
      (beforeDayStart.clock.minute + 1) % 1440 = beforeDayStart.params.dayStart := by decide +kernel

theorem witness_YardTimeoutsRunOut :
    (leavingSince 4399).mode ≠ .configure ∧ ((leavingSince 4399).bus 1).valid = true ∧ ((leavingSince 4399).bus 1).place = .leaving ∧
      (leavingSince 4399).params.leavingTimeout < (leavingSince 4399).now - ((leavingSince 4399).bus 1).lastSeen ∧
      ((leavingSince 4399).bus 1).boundDuty = none ∧ ((leavingBound 4399).bus 1).boundDuty = some 5 ∧
      ((leavingBound 4399).duty 5).state = .leaving ∧
      (leavingBound 4399).params.leavingTimeout < (leavingBound 4399).now - ((leavingBound 4399).bus 1).lastSeen ∧
      (directedAt 4820).laneMap.directions = [] ++ { bus := 1, lane := 0, issuedAt := 4820, ticket := 0 } :: [] ∧
      4820 + (directedAt 4820).params.directionTimeout ≤ (directedAt 4820).now ∧
      (shownSince 4760).mode = .run ∧ (shownSince 4760).release 0 = some { duty := some 5, phase := .showing 4760, ticket := 0 } ∧
      4760 + (shownSince 4760).params.releaseTimeout ≤ (shownSince 4760).now ∧
      Timer.leaving 1 4399 ∉ (leavingSince 4399).office.overdue ∧
      Timer.leaving 1 ((leavingSince 4399).bus 1).lastSeen ∈ (held (.leaving 1 4399) (leavingSince 4399)).office.overdue := by decide +kernel

theorem witness_FuelTimeoutsRunOut_empty :
    ((dockedEmpty none).mode ≠ .configure ∧ ((dockedEmpty none).dispenser 0).state = .docked ∧ ((dockedEmpty none).dispenser 0).grant = none ∧
      ((dockedEmpty none).dispenser 0).occupant = none) ∧
      ((dockedEmpty none).dispenser 0).since + (dockedEmpty none).params.dockingTimeout = (dockedEmpty none).now ∧
      Timer.docking 0 ((dockedEmpty none).dispenser 0).since ∉ (dockedEmpty none).office.overdue := by decide +kernel

theorem witness_FuelTimeoutsRunOut :
    (calledAt 4880 2).mode ≠ .configure ∧ ((calledAt 4880 2).dispenser 0).state = .calling ∧
      ((calledAt 4880 2).dispenser 0).occupant = some { bus := 1, priority := 1, enqueuedAt := 4000, misses := 2 } ∧
      ((calledAt 4880 2).dispenser 0).since + (calledAt 4880 2).params.callTimeout ≤ (calledAt 4880 2).now ∧
      ((calledAt 4880 3).dispenser 0).occupant = some { bus := 1, priority := 1, enqueuedAt := 4000, misses := 3 } ∧
      ((deferredTo 5000).fuel.queue.map fun x => x.deadline) = [some 5000] ∧ 5000 ≤ (deferredTo 5000).now ∧
      ((docked none none).dispenser 0).state = .docked ∧ ((docked none none).dispenser 0).grant = none ∧
      ((docked none none).dispenser 0).occupant = some { bus := 1, priority := 1, enqueuedAt := 4000, misses := 0 } ∧
      ((docked none none).dispenser 0).since + (docked none none).params.dockingTimeout ≤ (docked none none).now ∧
      Timer.docking 0 4700 ∉ (docked none none).office.overdue ∧
      Timer.docking 0 ((docked none none).dispenser 0).since ∈ (held (.docking 0 4700) (docked none none)).office.overdue := by decide +kernel

/-- A report at the head of the inbox is the entry the yard's node table makes of it. -/
theorem headed {n : Nat} {report : FieldReport} {s : State} (h : entryFrom s n report = entryFrom yard n report) :
    (reported n report s).HeadIs (entryFrom yard n report) report :=
  ⟨by simp [reported, h], rfl⟩

/-! ### Witnesses: the wash scheduler -/

theorem witness_WashReturnsAndSkips :
    allWaived.begin.waived (allWaived.begin.bus 1).cls = true ∧ washFull.begin.waived (washFull.begin.bus 1).cls = false ∧
      24 ≤ washFull.begin.wash.queue.length ∧ yard.begin.waived (yard.begin.bus 1).cls = false ∧ yard.begin.wash.queue.length < 24 := by
  decide +kernel

theorem witness_WashCallsTimeOut :
    (washCalled 4880 true).mode ≠ .configure ∧ ((washCalled 4880 true).washLane 0).state = .calling ∧
      ((washCalled 4880 true).washLane 0).occupant = some { bus := 1, enqueuedAt := 4000, missedOnce := true, retried := false } ∧
      ((washCalled 4880 true).washLane 0).since + (washCalled 4880 true).params.callTimeout ≤ (washCalled 4880 true).now ∧
      ((washCalled 4880 false).washLane 0).occupant = some { bus := 1, enqueuedAt := 4000, missedOnce := false, retried := false } ∧
      ((washCalled 4880 true).washLane 0).closeAtEnd = false := by decide +kernel

theorem witness_WashAbortsRetryOnce :
    (washing 5000 false).mode ≠ .configure ∧ ((washing 5000 false).washLane 0).state = .washing ∧
      ((washing 5000 false).washLane 0).deadline = some 5000 ∧ 5000 ≤ (washing 5000 false).now ∧
      (reported 15 (.washEvent 3 9) (washing 5400 true)).HeadIs (entryFrom yard 15 (.washEvent 3 9)) (.washEvent 3 9) ∧
      (entryFrom yard 15 (.washEvent 3 9)).roleIndex = 0 ∧
      ((washing 5400 true).washLane 0).occupant = some { bus := 1, enqueuedAt := 4000, missedOnce := false, retried := true } ∧
      ((washing 5000 false).washLane 0).occupant = some { bus := 1, enqueuedAt := 4000, missedOnce := false, retried := false } ∧
      gradeOf 39 ≠ ((washing 5000 false).washLane 0).grade ∧
      ((withWash { washLane .washing with deadline := some 5000 } yard).washLane 0).occupant = none ∧
      Timer.cycle 0 5000 ∉ (washing 5000 false).office.overdue ∧
      Timer.cycle 0 5000 ∈ (held (.cycle 0 5000) (washing 5000 false)).office.overdue := by
  and_intros <;> decide +kernel

theorem witness_WashCyclesRun_empty :
    (reported 15 (.washEvent 2 0) washingEmpty).HeadIs (entryFrom yard 15 (.washEvent 2 0)) (.washEvent 2 0) ∧
      (entryFrom yard 15 (.washEvent 2 0)).roleIndex = 0 ∧ washingEmpty.mode ≠ .configure ∧ (washingEmpty.washLane 0).state = .washing ∧
      (washingEmpty.washLane 0).occupant = none := by
  and_intros <;> decide +kernel

theorem witness_WashCyclesRun :
    (reported 15 (.washEvent 1 0) (washCalled 4900 false)).HeadIs (entryFrom yard 15 (.washEvent 1 0)) (.washEvent 1 0) ∧
      (entryFrom yard 15 (.washEvent 1 0)).roleIndex = 0 ∧ ((washCalled 4900 false).washLane 0).state = .calling ∧
      (washCalled 4900 false).changePending = false ∧
      ({ washCalled 4900 false with office.pendingMode := some .shadow } : State).changePending = true ∧
      (reported 15 (.washEvent 2 0) (washing 5400 false)).HeadIs (entryFrom yard 15 (.washEvent 2 0)) (.washEvent 2 0) ∧
      ((washing 5400 false).washLane 0).state = .washing ∧ gradeOf (33 - 1) = .restricted ∧ gradeOf (32 - 1) = .normal := by
  and_intros <;> decide +kernel

/-- Bus 1 waiting for a wash, with wash lane 0 READY. -/
def waitingForWash : State :=
  withBus 1 (someBus 1001 .washWait)
    { yard with wash.queue := [{ bus := 1, enqueuedAt := 4000, missedOnce := false, retried := false }] }

theorem witness_WashLanesClearCallAndWaive_calls :
    waitingForWash.begin.nextWashCall waitingForWash.begin.wash.queue =
        some ({ bus := 1, enqueuedAt := 4000, missedOnce := false, retried := false }, 0) ∧
      yard.begin.nextWashCall yard.begin.wash.queue = none ∧
      (withWash (washLane .closed) yard).waiverDue 0 = true ∧ (withWash (washLane .closed) yard).waived 0 = false ∧
      yard.waiverDue 0 = false ∧ ({ yard with wash.waived := Vector.replicate 4 true } : State).waived 0 = true ∧
      Timer.clearing 0 5000 ∉ (clearing 5000 false).office.overdue ∧
      Timer.clearing 0 5000 ∈ (held (.clearing 0 5000) (clearing 5000 false)).office.overdue := by decide +kernel

theorem witness_WashLanesClearCallAndWaive :
    (clearing 5000 false).mode ≠ .configure ∧ ((clearing 5000 false).washLane 0).state = .clearing ∧
      ((clearing 5000 false).washLane 0).deadline = some 5000 ∧ 5000 ≤ (clearing 5000 false).now ∧
      (reported 15 (.washEvent 4 0) (withWash (washLane .faulted) yard)).HeadIs (entryFrom yard 15 (.washEvent 4 0)) (.washEvent 4 0) ∧
      ((withWash (washLane .faulted) yard).washLane 0).state = .faulted ∧ ((withWash (washLane .faulted) yard).washLane 0).grade ≠ .out ∧
      ((withWash { washLane .faulted with score := 255 } yard).washLane 0).grade = .out ∧ (yard.washLane 0).state ≠ .faulted ∧
      (reported 15 (.washEvent 1 0) yard).HeadIs (entryFrom yard 15 (.washEvent 1 0)) (.washEvent 1 0) ∧ (yard.washLane 0).state ≠ .calling ∧
      (reported 15 (.washEvent 2 0) yard).HeadIs (entryFrom yard 15 (.washEvent 2 0)) (.washEvent 2 0) ∧ (yard.washLane 0).state ≠ .washing ∧
      (reported 15 (.washEvent 3 0) yard).HeadIs (entryFrom yard 15 (.washEvent 3 0)) (.washEvent 3 0) ∧
      (reported 15 (.washEvent 0 0) yard).HeadIs (entryFrom yard 15 (.washEvent 0 0)) (.washEvent 0 0) ∧
      (reported 15 (.washEvent 5 0) yard).HeadIs (entryFrom yard 15 (.washEvent 5 0)) (.washEvent 5 0) := by
  and_intros <;> decide +kernel

/-! ### Witnesses: the field port -/

theorem witness_ConfigureRelaysEveryEntry :
    (reported 1 (.tag 1001 none) (inMode .configure yard)).field.inbox.head? = some (entryFrom yard 1 (.tag 1001 none)) ∧
      (reported 1 (.tag 1001 none) (inMode .configure yard)).mode = .configure ∧
      (entryFrom yard 1 (.tag 1001 none)).role ≠ .detector ∧
      (reported 3 (.sample 0 [40000]) (inMode .configure yard)).field.inbox.head? = some (entryFrom yard 3 (.sample 0 [40000])) ∧
      (entryFrom yard 3 (.sample 0 [40000])).role = .detector := ⟨rfl, rfl, by decide, rfl, rfl⟩

/-- A field inbox of a number of reports, the quiet timer running or idle. -/
def inboxOf (n : Nat) (report : FieldReport) (timer : Option Nat) : State :=
  { yard with field := { yard.field with inbox := List.replicate n (entryFrom yard 3 report), quietTimer := timer } }

theorem witness_FramesAreAcceptedOrCounted :
    frameGood { frameFrom 1 1 [0, 3, 0xE9, 1, 90] with check := 0 } = false ∧ frameGood (frameFrom 1 1 [0, 3, 0xE9, 1, 90]) = true ∧
      frameGood { frameFrom 1 1 [0, 3, 0xE9, 1, 90] with destination := 9, check := 0x3B20 } = false ∧
      (frameFrom 1 1 [0, 3, 0xE9, 1, 90]).destination = 0 ∧ (yard.node 9).valid = false ∧ (yard.node 1).valid = true ∧
      (yard.node 1).role.maySend 2 = false ∧ (yard.node 1).role.maySend 1 = true ∧ readReport 1 [0, 3, 0xE9, 1] = none ∧
      readReport 1 [0, 3, 0xE9, 1, 90] = some (.tag 1001 (some 90)) ∧ (inMode .doze yard).mode = .doze ∧
      FieldReport.isSample (.sample 0 [40000]) = true ∧ FieldReport.isSample (.tag 1001 (some 90)) = false ∧
      (inboxOf 22 (.health true 0) none).field.inbox.length < 23 ∧ 23 ≤ (inboxOf 23 (.health true 0) none).field.inbox.length ∧
      (inboxOf 31 (.health true 0) none).field.inbox.length < 32 ∧ (inboxOf 31 (.health true 0) none).field.quietTimer = none ∧
      32 ≤ (inboxOf 32 (.health true 0) none).field.inbox.length ∧
      (∀ y ∈ (inboxOf 32 (.health true 0) none).field.inbox, y.report.isSample = false) ∧
      (inboxOf 32 (.sample 0 [40000]) (some 5)).field.inbox =
        List.replicate 31 (entryFrom yard 3 (.sample 0 [40000])) ++ entryFrom yard 3 (.sample 0 [40000]) :: [] ∧
      (inboxOf 32 (.sample 0 [40000]) (some 5)).field.quietTimer ≠ none ∧
      (inboxOf 32 (.sample 0 [40000]) none).field.inbox = (inboxOf 32 (.sample 0 [40000]) (some 5)).field.inbox ∧
      (inboxOf 32 (.sample 0 [40000]) none).field.quietTimer = none ∧ yard.mode ≠ .configure ∧ 16 ≤ (crowded 16).field.inbox.length ∧
      (crowded 15).field.inbox.length < 16 ∧ (crowded 15).field.quietTimer ≠ none := by decide +kernel

/-- A good frame for another party: its destination is node 9. -/
def foreign : Frame :=
  let f : Frame := { destination := 9, source := 1, kind := 1, length := 5, payload := [0, 3, 0xE9, 1, 90], check := 0 }
  { f with check := crc (frameCovered f) }

theorem witness_FramesAreAcceptedOrCounted_foreign :
    frameGood foreign = true ∧ ¬ (foreign.destination = 0 ∨ foreign.destination.toNat = yard.params.detectorTag ∨
      foreign.destination.toNat = yard.params.signalTag) := by decide +kernel

/-- The yard in a DOZE entered from a mode, with a bus's tag read at a gate. -/
def dozing (n : Nat) (old : Mode) (s : State) : State :=
  reported n (.tag 1001 (some 90)) { s with office.mode := .doze, office.dozeFrom := some old }

/-- The event of the wake to RUN, before the read. -/
def woken (s : State) : Ev := ({ s.taken with office.pendingMode := none } : State).begin.turnTo .run

/-- In DOZE too every clause on the read of a bus has its case, after the wake. The wake requests ALL STOP from a DOZE entered from SHADOW and none from one
entered from RUN (R175), and restarts the channels (R141). -/
theorem witness_TagsMoveBusesThroughTheGates_wakes :
    (dozing 1 .run yard).HeadIs (entryFrom yard 1 (.tag 1001 (some 90))) (.tag 1001 (some 90)) ∧ (dozing 1 .run yard).mode = .doze ∧
      (woken (dozing 1 .run yard)).findTag 1001 = some 1 ∧ ((woken (dozing 1 .run yard)).bus 1).place = .out ∧
      ((woken (dozing 1 .run parked)).bus 1).place = .parked 0 ∧ ((woken (dozing 2 .run (leavingBound 4900))).bus 1).place = .leaving ∧
      (woken (dozing 1 .run yard)).findTag 9 = none ∧
      (woken (dozing 1 .shadow yard)).commands.queue.map (fun x => x.kind) = [.allStop] ∧ (woken (dozing 1 .run yard)).commands.queue = [] ∧
      ((woken (dozing 1 .run (withChannel 0 { someChannel 0 .laneEntry .faulted with sum := 9 } yard))).channel 0).sum = 0 := by
  and_intros <;> decide +kernel

theorem witness_TagsMoveBusesThroughTheGates :
    (reported 1 (.tag 1001 (some 90)) yard).HeadIs (entryFrom yard 1 (.tag 1001 (some 90))) (.tag 1001 (some 90)) ∧ yard.mode ≠ .configure ∧
      yard.mode ≠ .doze ∧ (inMode .doze yard).mode = .doze ∧ yard.findTag 1001 = some 1 ∧ (entryFrom yard 1 (.tag 1001 none)).role = .gateIn ∧
      (yard.bus 1).place = .out ∧ (parked.bus 1).place = .parked 0 ∧ parked.findTag 1001 = some 1 ∧
      (entryFrom yard 2 (.tag 1001 none)).role = .gateOut ∧ (leavingBound 4900).findTag 1001 = some 1 ∧
      ((leavingBound 4900).bus 1).place = .leaving ∧ ((leavingBound 4900).bus 1).boundDuty = some 5 ∧
      ((leavingBound 4900).duty 5).state = .leaving ∧ ((leavingSince 4900).bus 1).boundDuty = none ∧
      (deferredTo 5001).findTag 1001 = some 1 ∧ ((deferredTo 5001).bus 1).place = .fuelWait ∧
      headBus ((withLane 0 { through with contents := [.placeholder, .bus 1] } parked).lane 0).contents ≠ some 1 := by
  and_intros <;> decide +kernel

/-- Two directions to lane 1, and buses 1 and 2 in lane 0. -/
def directedTwice : State :=
  { withBus 1 (someBus 1001 (.parked 0)) (withLane 0 { through with contents := [.bus 1, .bus 2] } yard) with
    laneMap.directions := [{ bus := 7, lane := 1, issuedAt := 4950, ticket := 0 }, { bus := 8, lane := 1, issuedAt := 4950, ticket := 1 }] }

theorem witness_TagsMoveBusesThroughTheGates_holders :
    (everywhere.begin.bus 2).place = .fuelWait ∧ (everywhere.begin.bus 4).place = .washWait ∧ (everywhere.begin.bus 6).place = .hold ∧
      (everywhere.begin.bus 8).place = .leaving ∧ (everywhere.begin.bus 7).place = .directed 1 ∧
      everywhere.begin.laneMap.directions = [] ++ { bus := 7, lane := 1, issuedAt := 4950, ticket := 0 } :: [] ∧
      (∃ y ∈ directedTwice.begin.laneMap.directions.tail, y.lane = 1) ∧ (everywhere.begin.bus 1).place = .parked 0 ∧
      headBus ((directedTwice.begin.lane 0).contents.filter fun y => y != .bus 1) = some 2 ∧
      (everywhere.begin.bus 3).place = .fuelBay 0 ∧ (everywhere.begin.dispenser 0).grant = none ∧
      ((calledAt 4900 0).begin.bus 1).place = .fuelBay 0 ∧ ((calledAt 4900 0).begin.dispenser 0).state = .calling ∧
      ((docked (some 50) none).begin.dispenser 0).grant ≠ none ∧ ((washCalled 4900 false).begin.bus 1).place = .wash 0 ∧
      ((washCalled 4900 false).begin.washLane 0).state = .calling ∧ (everywhere.begin.bus 5).place = .wash 0 ∧
      (everywhere.begin.washLane 0).state = .washing := by decide +kernel

theorem witness_TagsMoveBusesThroughTheGates_departures :
    (shownSince 4900).findTag 1001 = some 1 ∧ ((shownSince 4900).bus 1).place = .parked 0 ∧ ((shownSince 4900).bus 1).boundDuty = some 5 ∧
      ((shownSince 4900).duty 5).state = .released ∧ (parked.bus 1).boundDuty = none ∧
      headBus (parked.lane 0).contents = some 1 ∧ ((deferredTo 5001).bus 1).boundDuty = none ∧
      ((withBus 1 { someBus 1001 .lost with boundDuty := some 5 } yard).bus 1).boundDuty = some 5 := by decide +kernel

theorem witness_TagsMoveBusesThroughTheGates_stranger : yard.findTag 9 = none ∧ yard.findTag 0 = none := by decide +kernel

/-- A reading of channel 0 in a state. -/
def reading (r : ChannelRec) (v : Nat) : State := reported 3 (.sample 0 [v]) (withChannel 0 r yard)

theorem witness_ReadingsAreFiltered :
    (reading (someChannel 0 .laneEntry .vacant) 38800).HeadIs (entryFrom yard 3 (.sample 0 [38800])) (.sample 0 [38800]) ∧
      yard.mode = .run ∧ (inMode .doze yard).mode = .doze ∧ yard.channelOf 3 3 = none ∧ yard.channelOf 3 0 = some 0 ∧
      ((yard.channel 0).state ≠ .faulted ∧ 2 ^ (yard.channel 0).k ≤ (yard.channel 0).count + 1 ∧ (yard.channel 0).discard = 0 ∧
        (yard.channel 0).baseline = some 40000) ∧
      ((38800 : Nat) ≤ 40000 - (yard.channel 0).onDelta ∧ ¬ ((38801 : Nat) ≤ 40000 - (yard.channel 0).onDelta) ∧
        40000 - (yard.channel 0).offDelta ≤ 39200 ∧ ¬ (40000 - (yard.channel 0).offDelta ≤ 39199)) ∧
      ((yard.channel 0).hold ≤ (yard.channel 0).run + 1 ∧
        ({ someChannel 0 .laneEntry .vacant with hold := 2 } : ChannelRec).run + 1 < 2) ∧
      (someChannel 0 .laneEntry .occupied).state = .occupied ∧ (someChannel 0 .laneEntry .faulted).goodRun < 7 ∧
      7 ≤ ({ someChannel 0 .laneEntry .faulted with goodRun := 7 } : ChannelRec).goodRun ∧
      ({ someChannel 0 .laneEntry .vacant with k := 1 } : ChannelRec).count + 1 < 2 ^ 1 ∧
      0 < ({ someChannel 0 .laneEntry .vacant with discard := 2 } : ChannelRec).discard ∧
      ({ someChannel 0 .laneEntry .vacant with baseline := none } : ChannelRec).baseline = none := by
  and_intros <;> decide +kernel

theorem witness_PassagesMoveBuses_told :
    (yard.begin.channel 0).use = .laneEntry ∧ (yard.begin.channel 1).use = .laneExit ∧ (yard.begin.channel 2).use = .laneMouth ∧
      ((withChannel 0 (someChannel 0 .laneEntry .occupied) yard).channel 0).state = .occupied ∧ (yard.begin.channel 0).state = .vacant ∧
      yard.begin.laneOfLoop 20 = none ∧ yard.begin.laneOfLoop 0 = some 0 := by decide +kernel

theorem witness_PassagesMoveBuses :
    (yard.begin.laneOfLoop 0 = some 0 ∧ (yard.begin.lane 0).entryLoop = 0) ∧
      (directedAt 4900).begin.directionsTo 0 = [{ bus := 1, lane := 0, issuedAt := 4900, ticket := 0 }] ∧
      (directedAt 4900).begin.usedBays 0 + (directedAt 4900).begin.busLength 1 ≤ ((directedAt 4900).begin.lane 0).length ∧
      ((withLane 0 { through with length := 2, contents := [.placeholder] } (directedAt 4900)).begin.lane 0).length <
        (withLane 0 { through with length := 2, contents := [.placeholder] } (directedAt 4900)).begin.usedBays 0 +
          (directedAt 4900).begin.busLength 1 ∧
      (directedAt 4900).begin.laneOfLoop 2 = some 1 ∧ (directedAt 4900).begin.directionsTo 1 = [] ∧
      (directedAt 4900).begin.releasedDuty 1 = none ∧ yard.begin.laneMap.directions = [] ∧
      (shownSince 4900).begin.laneOfLoop 1 = some 0 ∧ ((shownSince 4900).begin.lane 0).entryLoop ≠ 1 ∧
      (shownSince 4900).begin.releasedDuty 0 = some 5 ∧ ((shownSince 4900).begin.lane 0).contents = .bus 1 :: [] ∧
      ((shownSince 4900).begin.duty 5).bus = some 1 ∧ parked.begin.releasedDuty 0 = none ∧ headBus (parked.begin.lane 0).contents = some 1 := by
  decide +kernel

theorem witness_NodesComeBack :
    (reported 22 (.health true 0) yard).HeadIs (entryFrom yard 22 (.health true 0)) (.health true 0) ∧
      (entryFrom yard 22 (.health true 0)).source = 22 ∧ (entryFrom yard 22 (.health true 0)).role ≠ .dispenser ∧
      (entryFrom yard 12 (.health true 0)).role = .dispenser ∧ (entryFrom yard 12 (.health true 0)).roleIndex = 0 ∧
      ((withDisp (dispenser (.closed .fault)) yard).dispenser 0).state = .closed .fault ∧ yard.cutOff 22 = false ∧
      (withNode 22 { someNode .signal with score := 255, recovery := 6 } yard).cutOff 22 = true ∧
      7 ≤ ((withNode 22 { someNode .signal with score := 255, recovery := 7 } yard).node 22).recovery ∧
      (ordered 0x17 [22] yard).OrderAt 0x17 (theOrder 0x17 [22]) ∧ (theOrder 0x17 [22]).data.length = 1 ∧ (theOrder 0x17 [22]).byte 0 = 22 ∧
      (yard.node 22).valid = true := by
  and_intros <;> first | decide +kernel | exact headed (by decide +kernel) | (constructor <;> decide +kernel)

theorem witness_NozzleRequestsAreGrantedOrRefused_empty :
    (reported 12 (.nozzle 1001) (dockedEmpty none)).HeadIs (entryFrom yard 12 (.nozzle 1001)) (.nozzle 1001) ∧
      ((dockedEmpty none).dispenser 0).valid = true ∧ ((dockedEmpty none).dispenser 0).state = .docked ∧
      ((dockedEmpty none).dispenser 0).grant = none ∧ ((dockedEmpty none).dispenser 0).occupant = none ∧ (dockedEmpty none).mode = .run := by
  and_intros <;> decide +kernel

theorem witness_NozzleRequestsAreGrantedOrRefused :
    (reported 12 (.nozzle 1001) (docked none (some 60))).HeadIs (entryFrom yard 12 (.nozzle 1001)) (.nozzle 1001) ∧
      (entryFrom yard 12 (.nozzle 1001)).roleIndex = 0 ∧
      ((docked none (some 60)).dispenser 0).valid = true ∧ ((docked none (some 60)).dispenser 0).state = .docked ∧
      ((docked none (some 60)).dispenser 0).occupant = some { bus := 1, priority := 1, enqueuedAt := 4000, misses := 0 } ∧
      ((docked (some 50) none).dispenser 0).grant ≠ none ∧ (yard.dispenser 0).state ≠ .docked ∧
      (1001 ≠ 0 ∧ ((docked none (some 60)).bus 1).tag = 1001) ∧ ¬ (1002 ≠ 0 ∧ ((docked none (some 60)).bus 1).tag = 1002) ∧
      ({ docked none (some 60) with office.pendingMode := some .shadow } : State).changePending = true ∧
      (docked none (some 60)).changePending = false ∧ (docked none (some 60)).fuel.stock - (docked none (some 60)).fuel.committed = 1000 ∧
      min 100 20 = (docked none (some 60)).params.minimumGrant ∧ min 100 19 < (docked none (some 60)).params.minimumGrant := by
  and_intros <;> decide +kernel

theorem witness_DeliveriesSettleGrants_empty :
    (reported 12 (.delivery 51 false) (dockedEmpty (some 50))).HeadIs (entryFrom yard 12 (.delivery 51 false)) (.delivery 51 false) ∧
      (dockedEmpty (some 50)).mode ≠ .configure ∧ ((dockedEmpty (some 50)).dispenser 0).valid = true ∧
      ((dockedEmpty (some 50)).dispenser 0).grant = some 50 ∧ ((dockedEmpty (some 50)).dispenser 0).occupant = none := by
  and_intros <;> decide +kernel

theorem witness_DeliveriesSettleGrants :
    (reported 12 (.delivery 120 false) (docked (some 100) (some 60))).HeadIs (entryFrom yard 12 (.delivery 120 false)) (.delivery 120 false) ∧
      ((docked (some 100) (some 60)).dispenser 0).valid = true ∧ ((docked (some 100) (some 60)).dispenser 0).grant = some 100 ∧
      ((docked (some 100) (some 60)).dispenser 0).occupant = some { bus := 1, priority := 1, enqueuedAt := 4000, misses := 0 } ∧
      (yard.dispenser 0).grant = none ∧ ((withDisp DispenserRec.cold yard).dispenser 0).valid = false := by
  and_intros <;> decide +kernel

theorem witness_DispensersCloseAndOpen :
    (reported 12 (.dispAlarm 4) (docked (some 100) none)).HeadIs (entryFrom yard 12 (.dispAlarm 4)) (.dispAlarm 4) ∧
      ((docked (some 100) none).dispenser 0).state = .docked ∧ ((calledAt 4900 0).dispenser 0).state = .calling ∧
      ((withDisp (dispenser (.closed .office)) yard).dispenser 0).state = .closed .office ∧
      (ordered 0x16 [0] (calledAt 4900 0)).OrderAt 0x16 (theOrder 0x16 [0]) ∧ (theOrder 0x16 [0]).byte 0 = 0 ∧
      (ordered 0x15 [0] yard).OrderAt 0x15 (theOrder 0x15 [0]) ∧ (yard.dispenser 0).state = .free ∧ (yard.dispenser 0).valid = true := by
  and_intros <;> first | decide +kernel | exact headed (by decide +kernel) | (constructor <;> decide +kernel)

/-! ### Witnesses: the command queue and the transmitters -/

theorem witness_AttemptsEnd :
    (commanded (.sent true) 3).CommandsSound ∧ (commanded (.sent true) 3).sentTo 21 = some (aspectEntry (.sent true) 3) ∧
      (reported 21 (.ack 0x20 true) (commanded (.sent true) 1)).HeadIs (entryFrom yard 21 (.ack 0x20 true)) (.ack 0x20 true) ∧
      (aspectEntry (.sent true) 1).kind.code = 0x20 ∧ (aspectEntry (.sent true) 1).kind.code ≠ 0x21 ∧ (aspectEntry (.sent true) 2).attempts < 3 ∧
      3 ≤ (aspectEntry (.sent true) 3).attempts ∧ yard.sentTo 21 = none ∧ (commanded (.sent false) 1).sentTo 21 = some (aspectEntry (.sent false) 1) ∧
      ((commanded (.sent true) 2).node 21).valid = true ∧ min 255 (((commanded (.sent true) 2).node 21).score + 8) < 192 ∧
      (Purpose.direction 0).oneShot = false := by
  refine ⟨sound_commanded 3, by decide +kernel, headed (by decide +kernel), ?_⟩
  decide +kernel

/-- R172: at node 21 the acknowledgement and the timeout complete, the retry waits, and the third failure is the end. -/
theorem test_attempts_complete :
    (ran .ack (reported 21 (.ack 0x20 false) (commanded (.sent true) 2))).commands.queue = [aspectEntry .waiting 2] ∧
      (ran .ack (reported 21 (.ack 0x20 true) (commanded (.sent true) 3))).commands.queue = [] := by decide +kernel

/-- QUIET on the line to the detector group. -/
def quietSent : State :=
  { yard with
    commands :=
      { queue :=
          [{ id := 0, kind := .quiet 2000, destination := 64, contributions := [{ purpose := .quiet, outputs := 0 }], attempts := 1,
             state := .sent false }]
        tx := some { frame := foreign, entry := 0 } }
    serial := 1 }

theorem sound_quietSent : quietSent.CommandsSound := by
  refine { marked := ?_, oneSent := fun n => Nat.le_trans (List.length_filter_le _ _) (Nat.le_refl 1), numbered := ?_, below := ?_ }
  · intro x hx _ hn
    simp only [quietSent, List.mem_singleton] at hx
    subst hx
    exact absurd hn (by decide)
  · simp [quietSent]
  · simp [quietSent]

theorem witness_TransmissionsBeginAndComplete :
    (commanded .waiting 0).commands.tx = none ∧ (commanded .waiting 0).mode = .run ∧
      (commanded .waiting 0).arbiter = some (aspectEntry .waiting 0) ∧ quietSent.CommandsSound ∧
      ((quietSent.sentEntry 0).map fun x => x.destination) = some 64 ∧
      (((ran .transmission (commanded .waiting 0)).sentEntry 1).map fun x => x.destination) = some 21 ∧
      ({ yard with commands.tx := some { frame := foreign, entry := 0 } } : State).sentEntry 0 = none :=
  ⟨by decide +kernel, by decide +kernel, by decide +kernel, sound_quietSent, by decide +kernel, by decide +kernel, by decide +kernel⟩

theorem witness_OfficePortTakesAndSends :
    frameGood clearFlagsFrame = true ∧ clearFlagsFrame.destination = 0 ∧ clearFlagsFrame.kind = 0x40 ∧ clearFlagsFrame.payload = [0x1B, 7] ∧
      frameGood foreign = true ∧ foreign.destination ≠ 0 ∧
      ({ yard with office.orders := List.replicate 3 (theOrder 0x1B []) } : State).office.orders.length < 4 ∧
      4 ≤ busy.office.orders.length ∧ busy.office.answers.length < 8 ∧ yard.office.tx = none ∧
      ({ yard with notices.queue := [yard.note .restarted] } : State).notices.queue = yard.note .restarted :: [] := by decide +kernel

/-! ### Witnesses: the orders -/

/-- The order that `ordered` places is performed while the answer list has room. -/
theorem placed (code : Byte) (data : List Byte) (s : State) (h : s.office.answers.length < 8) :
    (ordered code data s).OrderAt code (theOrder code data) :=
  { head := rfl, code := rfl, room := h }

theorem witness_OrdersAreAnsweredInTurn :
    (yard.office.orders = [] ∧ 8 ≤ ({ yard with office.answers := List.replicate 8 default } : State).office.answers.length) ∧
      (ordered 0x02 [5, 159, 59] yard).OrderAt 0x02 (theOrder 0x02 [5, 159, 59]) ∧
      (ordered 0x10 [1] yard).OrderAt 0x10 (theOrder 0x10 [1]) ∧ (ordered 0x0E [5] yard).OrderAt 0x0E (theOrder 0x0E [5]) ∧
      (ordered 0x1B [] yard).OrderAt 0x1B (theOrder 0x1B []) ∧ (ordered 0x1E [] yard).OrderAt 0x1E (theOrder 0x1E []) ∧
      (29 < (0x1E : Byte).toNat ∧ (0x00 : Byte).toNat = 0) := by
  refine ⟨by decide +kernel, ?_⟩
  and_intros <;> first
    | decide
    | exact placed _ _ _ (by decide +kernel)

theorem witness_StatisticsAreReadAndLowered :
    (ordered 0x19 [29] yard).OrderAt 0x19 (theOrder 0x19 [29]) ∧ (theOrder 0x19 [29]).data.length = 1 ∧
      Counter.noticesDropped.code = (theOrder 0x19 [29]).byte 0 ∧ 29 < (theOrder 0x19 [30]).byte 0 ∧
      (ordered 0x1A [1, 0, 0, 0, 2] counted).OrderAt 0x1A (theOrder 0x1A [1, 0, 0, 0, 2]) ∧ (theOrder 0x1A [1, 0, 0, 0, 2]).data.length = 5 ∧
      Counter.strangerReads.code = (theOrder 0x1A [1, 0, 0, 0, 2]).byte 0 :=
  ⟨placed _ _ _ (by decide +kernel), by decide, by decide, by decide, placed _ _ _ (by decide +kernel), by decide, by decide⟩

theorem witness_ReadsAnswerWhatStands :
    (ordered 0x07 [9, 0] yard).OrderAt 0x07 (theOrder 0x07 [9, 0]) ∧ Table.parameters.code = (theOrder 0x07 [9, 0]).byte 0 ∧
      9 < (theOrder 0x07 [10, 0]).byte 0 ∧ (ordered 0x08 [31, 0] yard).OrderAt 0x08 (theOrder 0x08 [31, 0]) ∧
      (ordered 0x09 [4, 0, 0] yard).OrderAt 0x09 (theOrder 0x09 [4, 0, 0]) ∧ (theOrder 0x09 [4, 0, 0]).data.length = 3 ∧
      (theOrder 0x09 [4, 0, 0]).byte 0 = 4 ∧ 4 < (theOrder 0x09 [5, 0, 0]).byte 0 ∧ 31 < (theOrder 0x08 [32, 0]).byte 0 ∧
      (ordered 0x08 [0, 1] parked).OrderAt 0x08 (theOrder 0x08 [0, 1]) ∧ (theOrder 0x08 [0, 1]).byte 0 ≤ 31 :=
  ⟨placed _ _ _ (by decide +kernel), by decide, by decide, placed _ _ _ (by decide +kernel), placed _ _ _ (by decide +kernel), by decide, by decide,
   by decide, by decide, placed _ _ _ (by decide +kernel), by decide⟩

theorem witness_StockOrdersWriteAndAnswer :
    (ordered 0x11 [0, 0x3D, 0x09, 0] yard).OrderAt 0x11 (theOrder 0x11 [0, 0x3D, 0x09, 0]) ∧ numAt [0, 0x3D, 0x09, 0] 0 4 = 4000000 ∧
      (ordered 0x12 [0, 0, 0, 100] (docked (some 100) none)).OrderAt 0x12 (theOrder 0x12 [0, 0, 0, 100]) ∧
      numAt [0, 0, 0, 100] 0 4 = (docked (some 100) none).fuel.committed ∧ numAt [0, 0, 0, 99] 0 4 < (docked (some 100) none).fuel.committed ∧
      4000000 < numAt [0, 0x3D, 0x09, 1] 0 4 :=
  ⟨placed _ _ _ (by decide +kernel), by decide, placed _ _ _ (by decide +kernel), by decide +kernel, by decide +kernel, by decide⟩

theorem witness_OrdersAreAnsweredInTurn_parameter :
    (ordered 0x03 [4, 0, 0, 0, 50] yard).OrderAt 0x03 (theOrder 0x03 [4, 0, 0, 0, 50]) ∧ Params.ranges[(4 : Nat)]? = some (50, 100) ∧
      numAt [4, 0, 0, 0, 50] 1 4 = 50 ∧ numAt [4, 0, 0, 0, 49] 1 4 < 50 ∧ numAt [15, 0, 0, 0, 65] 1 4 = yard.params.signalTag ∧
      numAt [16, 0, 0, 0, 64] 1 4 = yard.params.detectorTag :=
  ⟨placed _ _ _ (by decide +kernel), by decide, by decide, by decide, by decide +kernel, by decide +kernel⟩

theorem witness_LoadWindowsOpenAndClose :
    (ordered 0x04 [3, 0, 0, 1, 0] releasing).OrderAt 0x04 (theOrder 0x04 [3, 0, 0, 1, 0]) ∧ Table.schedule.code = 3 ∧
      numAt [3, 0, 0, 1, 0] 3 2 = Table.schedule.limit ∧ (releasing.duty 5).valid = true ∧ (releasing.duty 5).state = .released ∧
      yard.office.window = none ∧ loadingClasses.office.window ≠ none ∧ (ordered 0x06 [] loadingClasses).OrderAt 0x06 (theOrder 0x06 []) :=
  ⟨placed _ _ _ (by decide +kernel), by decide, by decide, by decide +kernel, by decide +kernel, rfl, by decide, placed _ _ _ (by decide +kernel)⟩

theorem witness_RecordsAreLoadedOneByOne :
    (ordered 0x05 [1, 1, 3, 1, 64] loadingClasses).OrderAt 0x05 (theOrder 0x05 [1, 1, 3, 1, 64]) ∧ (theOrder 0x05 [1, 1, 3, 1, 64]).data ≠ [] ∧
      loadingClasses.office.window = some { table := .classes, first := 1, stop := 3, next := 1 } ∧
      (theOrder 0x05 [1, 1, 3, 1, 64]).byte 0 = 1 ∧ (theOrder 0x05 [1, 1, 3, 1, 64]).data.length = 1 + 1 * Table.classes.recordSize ∧
      (1 + 1 < 3 ∧ 3 ≤ 1 + 2) ∧ (yard.bus 3).valid = false ∧ (ordered 0x05 [] yard).OrderAt 0x05 (theOrder 0x05 []) ∧
      (theOrder 0x05 []).data = [] ∧ 4 < (theOrder 0x05 [5]).byte 0 :=
  ⟨placed _ _ _ (by decide +kernel), by decide, rfl, by decide, by decide, by decide, by decide +kernel, placed _ _ _ (by decide +kernel), rfl,
   by decide⟩

/-- R203: the checks of every table meet their first and later codes, and accept the records of the yard. -/
theorem test_record_checks :
    yard.checkRecord .roster 3 [1, 0, 1, 0, 3, 0xE9, 0, 3] = some .conflict ∧ yard.checkRecord .roster 3 [1, 0, 1, 0, 3, 0xE9, 1, 3] = some .range ∧
      yard.checkRecord .classes 0 [0, 2, 0, 100] = some .conflict ∧ yard.checkRecord .classes 1 [1, 5, 0, 100] = some .range ∧
      yard.checkRecord .lanes 2 [1, 0, 10, 15, 0, 21, 0, 21, 2, 3, 4] = some .conflict ∧
      yard.checkRecord .lanes 2 [1, 0, 10, 15, 0, 21, 2, 21, 3, 3, 3] = some .range ∧
      yard.checkRecord .lanes 2 [1, 1, 10, 15, 0, 21, 2, 0, 0, 3, 0] = none ∧ yard.checkRecord .schedule 6 [1, 0, 1, 0, 0, 1, 0] = some .range ∧
      yard.checkRecord .nodes 40 [1, 4, 0] = some .conflict ∧ yard.checkRecord .nodes 40 [1, 2, 80] = some .range ∧
      (commanded (.sent true) 1).checkRecord .nodes 21 [0, 3, 0] = some .conflict ∧
      yard.checkRecord .channels 5 [1, 3, 0, 4, 0, 1, 0, 9, 0, 8] = some .conflict ∧
      yard.checkRecord .channels 5 [1, 3, 3, 4, 0, 1, 0, 9, 0, 9] = some .range ∧
      (docked none none).checkRecord .dispensers 0 [0, 0, 0, 1, 1, 0, 0] = some .conflict ∧
      yard.checkRecord .washLanes 0 [1, 1, 15, 23, 1, 0, 119, 0, 200, 10] = some .range ∧ yard.checkRecord .groupHash 0 [2] = some .range := by
  decide +kernel

theorem witness_RecordsAreLoadedOneByOne_writes :
    (parked.bus 1).valid = true ∧ (parked.bus 1).place = .parked 0 ∧ (releasing.bus 1).boundDuty = some 5 ∧ everywhere.YardAgrees ∧
      LaneKind.deadEnd.code = numAt [1, 1, 10, 15, 0, 21, 2, 0, 0, 3, 0] 1 1 ∧ yard.mode ≠ .configure ∧ Role.signal.code = numAt [0, 3, 0] 1 1 ∧
      96 ≤ ((withNode 21 { someNode .signal with score := 96 } (commanded .waiting 0)).node 21).score ∧ flagAt [0, 3, 0] 0 = false ∧
      ((commanded .waiting 0).node 21).mark = false ∧ (aspectEntry .waiting 0).waiting = true ∧ (aspectEntry .waiting 0).destination = 21 ∧
      ChannelUse.laneEntry.code = numAt [1, 3, 0, 0, 0, 1, 0, 9, 0, 8] 3 1 ∧ (yard.channel 0).state ≠ .faulted ∧
      32 ≤ ((withWash { washLane .ready with score := 32 } yard).washLane 0).score ∧ yard.fuel.belowReserve = false ∧
      ({ yard with params.allowInversion := false } : State).params.allowInversion = false := by
  and_intros <;> first | decide +kernel | exact witness_BusesStayInTheirPlaces.1

theorem witness_ModesChange :
    (ordered 0x01 [3] yard).OrderAt 0x01 (theOrder 0x01 [3]) ∧ Mode.doze.code = (theOrder 0x01 [3]).byte 0 ∧ 3 < (theOrder 0x01 [4]).byte 0 ∧
      (yard.fuel.queue = [] ∧ yard.wash.queue = [] ∧ yard.holdList = [] ∧ yard.laneMap.directions = [] ∧ ∀ l, l < 32 → yard.release l = none) ∧
      (deferredTo 5001).fuel.queue ≠ [] ∧ ({ yard with office.pendingMode := some .doze } : State).office.pendingMode = some .doze ∧
      yard.commands.queue = [] ∧ (inMode .configure yard).mode = .configure ∧ (inMode .doze yard).mode = .doze ∧
      ({ yard with office.pendingMode := some .doze } : State).changePending = true ∧ (commanded .waiting 0).commands.queue ≠ [] ∧
      (held (.docking 0 4700) yard).office.dozeFrom = some .configure ∧ yard.office.overdue = [] := by
  refine ⟨placed _ _ _ (by decide +kernel), ?_⟩
  decide +kernel

theorem witness_ModesChange_shadow :
    (inMode .doze (commanded (.sent true) 1)).mode = .doze ∧ (inMode .doze (commanded (.sent true) 1)).commands.queue ≠ [] ∧
      ((commanded (.sent true) 1).begin.node 21).role = .signal ∧ (commanded (.sent true) 1).begin.cutOff 21 = false ∧
      ((commanded (.sent true) 1).begin.node 21).valid = true ∧ (aspectEntry (.sent true) 1).contributions ≠ [] ∧
      (withNode 21 { someNode .signal with score := 192 } yard).cutOff 21 = true := by decide +kernel

/-- CONFIGURE with a bus in every collection, which its entry empties. -/
theorem witness_ModesChange_configure : (inMode .configure everywhere).YardAgrees ∧ (inMode .configure everywhere).mode = .configure ∧
    (inMode .configure everywhere).holdList ≠ [] ∧ (inMode .configure everywhere).laneMap.directions ≠ [] := by
  have h := witness_BusesStayInTheirPlaces.1
  refine ⟨{ placed := h.placed, bays := h.bays, washes := h.washes }, ?_⟩
  decide +kernel

theorem witness_OfficeCorrectsLanes :
    (ordered 0x0C [0, 2] yard).OrderAt 0x0C (theOrder 0x0C [0, 2]) ∧ OfficeState.closed.code = (theOrder 0x0C [0, 2]).byte 1 ∧
      2 < (theOrder 0x0C [0, 3]).byte 1 ∧ (parked.lane 0).valid = true ∧ (parked.lane 2).valid = false ∧
      (ordered 0x0A [0, 255, 0, 2] parked).OrderAt 0x0A (theOrder 0x0A [0, 255, 0, 2]) ∧ (parked.bus 2).valid = true ∧
      (parked.bus 2).place = .out ∧ 2 ≤ parked.freeBays 0 ∧ parked.release 0 = none ∧ (parked.bus 1).place = .parked 0 ∧
      (ordered 0x0B [0, 1] parked).OrderAt 0x0B (theOrder 0x0B [0, 1]) ∧ (parked.lane 0).contents[1]? = some .placeholder ∧
      (parked.lane 0).contents[0]? = some (.bus 1) ∧ (parked.lane 0).contents.length ≤ (theOrder 0x0B [0, 2]).byte 1 ∧
      ((shownSince 4900).release 0).map (fun r => r.duty) = some (some 5) ∧ ((shownSince 4900).duty 5).bus = some 1 :=
  ⟨placed _ _ _ (by decide +kernel), by decide, by decide, by decide +kernel, by decide +kernel, placed _ _ _ (by decide +kernel), by decide +kernel,
   by decide +kernel, by decide +kernel, by decide +kernel, by decide +kernel, placed _ _ _ (by decide +kernel), by decide +kernel, by decide +kernel,
   by decide +kernel, by decide +kernel, by decide +kernel⟩

/-- Bus 1 bound to duty 5, pinned to it: the other duties name nothing. -/
theorem pair_duties (d : Nat) (h : d ≠ 5) :
    ((boundPair (some 1)).duty d).state = .vacant ∧ ((boundPair (some 1)).duty d).bus = none ∧ ((boundPair (some 1)).duty d).pin = none ∧
      ((boundPair (some 1)).duty d).releaseLane = none :=
  tget_all (boundPair (some 1)).pullOut.duties
    (fun d (r : DutyRec) => d ≠ 5 → r.state = .vacant ∧ r.bus = none ∧ r.pin = none ∧ r.releaseLane = none)
    (fun _ _ _ => ⟨rfl, rfl, rfl, rfl⟩) (by decide +kernel) d h

theorem sound_pair : (boundPair (some 1)).PullOutSound := by
  have h5 : (boundPair (some 1)).duty 5 = { someDuty .bound with bus := some 1, pin := some 1 } := by decide +kernel
  have hb : ∀ b, ((boundPair (some 1)).bus b).boundDuty = if b = 1 then some 5 else none :=
    tget_all (boundPair (some 1)).gate.buses (fun b (r : BusRec) => r.boundDuty = if b = 1 then some 5 else none)
      (fun i hi => by rw [if_neg (by omega)]; rfl) (by decide +kernel)
  have hr : ∀ l, (boundPair (some 1)).release l = none :=
    tget_all (boundPair (some 1)).pullOut.releases (fun _ (r : Option ReleaseRec) => r = none) (fun _ _ => rfl) (by decide +kernel)
  have hd : ∀ d, ((boundPair (some 1)).duty d).bus = if d = 5 then some 1 else none := by
    intro d
    by_cases h : d = 5
    · subst h; rw [h5]; rfl
    · rw [(pair_duties d h).2.1, if_neg h]
  have hs : ∀ d, ((boundPair (some 1)).duty d).state ≠ .called ∧ ((boundPair (some 1)).duty d).state ≠ .released := by
    intro d
    by_cases h : d = 5
    · subst h; rw [h5]; decide
    · rw [(pair_duties d h).1]; decide
  refine { symmetric := ?_, bound := ?_, lanes := ?_, agreed := ?_, pins := ?_, window := ?_, called := ?_, released := ?_, unnamed := ?_ }
  · intro b d
    rw [hb, hd]
    by_cases hb : b = 1 <;> by_cases hd : d = 5 <;> simp [hb, hd, Ne.symm, eq_comm]
  · intro d
    by_cases h : d = 5
    · subst h; rw [h5]; rfl
    · rw [(pair_duties d h).1, (pair_duties d h).2.1]; rfl
  · intro d
    by_cases h : d = 5
    · subst h; rw [h5]; rfl
    · rw [(pair_duties d h).1, (pair_duties d h).2.2.2]; rfl
  · intro b d h
    rw [hd] at h
    split at h
    · next hd =>
      cases h
      subst hd
      decide +kernel
    · cases h
  · intro b d h
    by_cases hd : d = 5
    · subst hd
      rw [h5] at h
      cases h
      decide +kernel
    · rw [(pair_duties d hd).2.2.1] at h; cases h
  · intro h
    exact absurd h (by decide)
  · intro d l
    exact ⟨fun h => absurd h.1 (hs d).1, fun ⟨r, h, _⟩ => by rw [hr] at h; cases h⟩
  · intro d l
    exact ⟨fun h => absurd h.1 (hs d).2, fun ⟨r, _, h, _⟩ => by rw [hr] at h; cases h⟩
  · intro l r h
    rw [hr] at h
    cases h

/-- An order in the inbox leaves duties and buses as they were. -/
theorem sound_ordered (code : Byte) (data : List Byte) {s : State} (h : s.PullOutSound) : (ordered code data s).PullOutSound :=
  { symmetric := h.symmetric, bound := h.bound, lanes := h.lanes, agreed := h.agreed, pins := h.pins, window := h.window, called := h.called,
    released := h.released, unnamed := h.unnamed }

theorem witness_LoadWindowsOpenAndClose_schedule :
    (ordered 0x04 [3, 0, 5, 0, 6] (boundPair (some 1))).PullOutSound ∧ (boundPair (some 1)).office.window = none ∧
      ¬ ∃ d, d < 256 ∧ ((boundPair (some 1)).duty d).valid = true ∧ (((boundPair (some 1)).duty d).state = .called ∨
        ((boundPair (some 1)).duty d).state = .released ∨ ((boundPair (some 1)).duty d).state = .leaving) := by
  refine ⟨sound_ordered _ _ sound_pair, rfl, ?_⟩
  rintro ⟨d, -, -, h⟩
  by_cases hd : d = 5
  · subst hd
    exact absurd h (by decide +kernel)
  · rw [(pair_duties d hd).1] at h
    exact absurd h (by decide)

/-- Bus 1 at the head of lane 0, unbound, and duty 5 OPEN: nothing is bound. -/
theorem parked_unbound :
    (∀ d, (parked.duty d).state = .vacant ∧ (parked.duty d).bus = none ∧ (parked.duty d).pin = none ∧ (parked.duty d).releaseLane = none) ∧
      (∀ b, (parked.bus b).boundDuty = none) ∧ ∀ l, parked.release l = none :=
  ⟨tget_all parked.pullOut.duties (fun _ (r : DutyRec) => r.state = .vacant ∧ r.bus = none ∧ r.pin = none ∧ r.releaseLane = none)
    (fun _ _ => ⟨rfl, rfl, rfl, rfl⟩) (by decide +kernel),
   tget_all parked.gate.buses (fun _ (r : BusRec) => r.boundDuty = none) (fun _ _ => rfl) (by decide +kernel),
   tget_all parked.pullOut.releases (fun _ (r : Option ReleaseRec) => r = none) (fun _ _ => rfl) (by decide +kernel)⟩

theorem sound_parked : parked.PullOutSound := by
  obtain ⟨hd, hb, hr⟩ := parked_unbound
  refine { symmetric := fun b d => ?_, bound := fun d => ?_, lanes := fun d => ?_, agreed := fun b d h => ?_, pins := fun b d h => ?_,
           window := fun _ d => (hd d).2.1, called := fun d l => ?_, released := fun d l => ?_, unnamed := fun l r h => ?_ }
  · simp [hb, (hd d).2.1]
  · simp [(hd d).1, (hd d).2.1, DutyState.holdsBus]
  · simp [(hd d).1, (hd d).2.2.2, DutyState.onItsWay]
  · simp [(hd d).2.1] at h
  · simp [(hd d).2.2.1] at h
  · simp [(hd d).1, hr]
  · simp [(hd d).1, hr]
  · simp [hr] at h

/-- Duty 5 is due at call lead 20 and 11:40 from 11:20 on, and exchanges its absent bus for bus 1, the one candidate; missed after 12:25 of its day. -/
theorem witness_PassesTakeHeldBusesAndDueDuties :
    parked.PullOutSound ∧ parked.scheduleWindow = false ∧ (parked.duty 5).valid = true ∧ (parked.duty 5).state = .vacant ∧
      (parked.duty 5).pin = none ∧ (parked.duty 5).bus = none ∧
      ((parked.bus 1).place = .parked 0 ∧ headBus (parked.lane 0).contents = some 1 ∧ parked.releaseAllowed 0 = true ∧
        (parked.duty 5).minLevel = 0 ∧ parked.release 0 = none ∧ (parked.lane 0).kind = .through ∧ (parked.bus 1).cls = (parked.duty 5).cls ∧
        (parked.bus 1).boundDuty = none) ∧
      (∀ m, m < 32 → m ≠ 0 → headBus (parked.lane m).contents = none) ∧
      (8 ≤ crowdedDirections.laneMap.directions.length ∧ yard.laneMap.directions.length < 8 ∧
        1 ∈ ({ yard with holdList := [1] } : State).begin.holdList ∧ 1 ∉ yard.begin.holdList) ∧
      (yard.plannedS 5 = 1420 ∧ ¬ (yard.plannedS 5 + yard.params.abandon < yard.nowS) ∧
        (withDuty { someDuty .vacant with planned := 596 } yard).plannedS 5 + yard.params.grace <
          (withDuty { someDuty .vacant with planned := 596 } yard).nowS ∧
        (withDuty { someDuty .vacant with planned := 554 } yard).plannedS 5 + yard.params.abandon <
          (withDuty { someDuty .vacant with planned := 554 } yard).nowS) ∧
      ((withDuty { someDuty .vacant with pin := some 2, blocked := true } yard).duty 5).blocked = true ∧
      (((boundPair none).duty 5).bus = some 1 ∧ (boundPair none).bus 1 ≠ (parked.bus 1)) ∧
      ((withDuty { someDuty .vacant with pin := some 2 } yard).bus 2).boundDuty = none ∧
      ({ parked with office.pendingMode := some .doze } : State).changePending = true ∧
      ({ yard with office.window := some { table := .schedule, first := 0, stop := 1, next := 0 } } : State).scheduleWindow = true := by
  refine ⟨sound_parked, ?_⟩
  decide +kernel

/-- A class with a waiting bus is due to be waived in SHADOW. -/
def waiverDue : State :=
  inMode .shadow
    { withBus 1 (someBus 1001 .washWait) (withWash (washLane .closed) yard) with
      wash.queue := [{ bus := 1, enqueuedAt := 4000, missedOnce := false, retried := false }] }

theorem witness_PassesTakeHeldBusesAndDueDuties_order :
    (let e := yard.begin.drain.takePending.deriveWaiver
    e.outs = [] ∧ e.readyPasses = []) ∧
    (let e := ({ ({ yard with holdList := [1] } : State).begin with rerunDue := true } : Ev).drain.takePending.deriveWaiver
    e.outs = [] ∧ e.readyPasses ≠ []) ∧
    waiverDue.begin.drain.takePending.deriveWaiver.outs ≠ [] := by decide +kernel

/-- R131: duty 5 is bound to bus 1, at position 0. -/
theorem test_rebinding : ((parked.begin.rebindOne 5).duty 5).bus = some 1 ∧ parked.rebindable 0 = [(0, 1)] := by decide +kernel

theorem witness_OfficePinsAndCancelsDuties :
    (ordered 0x0D [5, 2] (boundPair (some 1))).PullOutSound ∧ (ordered 0x0D [5, 2] (boundPair (some 1))).OrderAt 0x0D (theOrder 0x0D [5, 2]) ∧
      ((boundPair (some 1)).duty 5).state = .bound ∧ ((boundPair (some 1)).duty 5).bus = some 1 ∧ ((boundPair (some 1)).bus 2).valid = true ∧
      ((boundPair (some 1)).bus 2).cls = ((boundPair (some 1)).duty 5).cls ∧ ((boundPair (some 1)).bus 2).boundDuty = none ∧
      (boundPair (some 1)).scheduleWindow = false ∧ ((boundPair (some 1)).duty 6).valid = false ∧
      (ordered 0x0F [5] (boundPair (some 1))).PullOutSound ∧ (ordered 0x0F [5] (boundPair (some 1))).OrderAt 0x0F (theOrder 0x0F [5]) ∧
      (ordered 0x0F [5] releasing).PullOutSound ∧ (releasing.duty 5).state = .released :=
  ⟨sound_ordered _ _ sound_pair, placed _ _ _ (by decide +kernel), by decide +kernel, by decide +kernel, by decide +kernel, by decide +kernel,
   by decide +kernel, by decide +kernel, by decide +kernel, sound_ordered _ _ sound_pair, placed _ _ _ (by decide +kernel),
   sound_ordered _ _ sound_releasing, by decide +kernel⟩

theorem witness_OfficeClosesAndReopensWashLanes :
    (theOrder 0x14 [0]).data.length = 1 ∧ (ordered 0x14 [0] yard).OrderAt 0x14 (theOrder 0x14 [0]) ∧ (theOrder 0x14 [0]).byte 0 = 0 ∧
      (yard.washLane 0).valid = true ∧ (yard.washLane 1).valid = false ∧ (yard.washLane 0).state = .ready ∧
      (allWaived.washLane 0).state = .closed ∧ ((washing 5400 false).washLane 0).state = .washing ∧
      (ordered 0x13 [0] yard).OrderAt 0x13 (theOrder 0x13 [0]) ∧
      ((withWash { washLane .faulted with score := 32 } yard).washLane 0).grade ≠ .normal :=
  ⟨by decide, placed _ _ _ (by decide +kernel), by decide, by decide +kernel, by decide +kernel, by decide +kernel, by decide +kernel,
   by decide +kernel, placed _ _ _ (by decide +kernel), by decide +kernel⟩

theorem witness_OfficeAbortsAndForwards :
    (ordered 0x18 [] (commanded .waiting 0)).OrderAt 0x18 (theOrder 0x18 []) ∧ (theOrder 0x18 []).data = [] ∧
      (ordered 0x1D [0, 3, 0x30] yard).OrderAt 0x1D (theOrder 0x1D [0, 3, 0x30]) ∧ 3 ≤ (theOrder 0x1D [0, 3, 0x30]).data.length ∧
      ((yard.node 3).valid = true ∧ (yard.node 9).valid = false ∧ yard.mode = .run ∧ yard.cutOff 3 = false) ∧
      (tget yard.field.groupHash 0 = false ∧ 24 ≤ commandsFull.commands.queue.length ∧ yard.commands.queue.length < 24) ∧
      numAt [0, 3, 0x30] 0 2 = 3 ∧ ¬ (0x20 ≤ 0x30 ∧ 0x30 ≤ 0x26) :=
  ⟨placed _ _ _ (by decide +kernel), by decide, placed _ _ _ (by decide +kernel), by decide, by decide +kernel, by decide +kernel, by decide,
   by decide⟩

theorem witness_RestartSettlesEveryBlock :
    (ordered 0x1C [] (docked (some 100) none)).StockSound ∧ (ordered 0x1C [] (docked (some 100) none)).OrderAt 0x1C (theOrder 0x1C []) ∧
      (theOrder 0x1C []).data = [] ∧ (ordered 0x1C [] everywhere).YardAgrees ∧ (ordered 0x1C [] everywhere).mode = .run ∧
      ((calledAt 4900 0).dispenser 0).state = .calling ∧ ((calledAt 4900 0).dispenser 0).occupant.isSome = true ∧
      ((washCalled 4900 false).washLane 0).state = .calling ∧ ((washCalled 4900 false).washLane 0).occupant.isSome = true ∧
      (ordered 0x1C [] loadingClasses).office.window ≠ none ∧ (ordered 0x1C [] yard).office.window = none ∧
      (∀ x ∈ (commanded (.sent true) 1).commands.queue, x.id < (commanded (.sent true) 1).serial) ∧
      (commanded (.sent true) 1).commands.queue ≠ [] ∧ 64 ≤ yard.params.signalTag ∧ (inMode .shadow yard).mode = .shadow ∧
      ((docked (some 100) none).dispenser 0).state = .docked ∧ ((docked (some 100) none).dispenser 0).grant ≠ none := by
  have h := witness_BusesStayInTheirPlaces.1
  refine ⟨stocked _ (by decide +kernel) (by decide +kernel) (by decide +kernel) (by decide +kernel), placed _ _ _ (by decide +kernel), by decide,
    { placed := h.placed, bays := h.bays, washes := h.washes }, ?_⟩
  decide +kernel

end Sys2Proof.Tests
end

/-! # O8: buses stay in their places (R7) -/

namespace Sys2Proof.Machine

/-! ### A family of values with one of them replaced -/

/-- The values of a family, but for one index, which has a new one. -/
def putAt {α : Type} (f : Nat → α) (i : Nat) (a : α) : Nat → α := fun j => if j = i then a else f j

@[simp] theorem putAt_same {α : Type} (f : Nat → α) (i : Nat) (a : α) : putAt f i a i = a := if_pos rfl

@[simp] theorem putAt_other {α : Type} (f : Nat → α) {i j : Nat} (a : α) (h : j ≠ i) : putAt f i a j = f j := if_neg h

@[simp] theorem putAt_self {α : Type} (f : Nat → α) (i : Nat) : putAt f i (f i) = f := by
  funext j
  by_cases h : j = i
  · rw [h, putAt_same]
  · rw [putAt_other f _ h]

@[simp] theorem putAt_putAt {α : Type} (f : Nat → α) (i : Nat) (a c : α) : putAt (putAt f i a) i c = putAt f i c := by
  funext j
  by_cases h : j = i
  · rw [h, putAt_same, putAt_same]
  · rw [putAt_other _ _ h, putAt_other _ _ h, putAt_other _ _ h]

/-! ### The yard: who stands where -/

/-- What R7 speaks of: the place each valid bus has, and the collections by the buses that stand in them. A seat of a dispenser or wash lane
holds the occupant's bus and whether the record serves a turn. -/
structure Yard where
  home : Nat → Option Place
  contents : Nat → List LaneEntry
  fuelQueue : List Nat
  bay : Nat → Option (Nat × Bool)
  washQueue : List Nat
  washBay : Nat → Option (Nat × Bool)
  hold : List Nat
  directions : List (Nat × Nat)

/-- The bus seated in a dispenser, and whether the dispenser serves a turn. -/
def DispenserRec.seat (r : DispenserRec) : Option (Nat × Bool) := r.occupant.map fun o => (o.bus, r.state.inTurn)

/-- The bus seated in a wash lane, and whether the lane is occupied. -/
def WashLaneRec.seat (r : WashLaneRec) : Option (Nat × Bool) := r.occupant.map fun o => (o.bus, r.occupied)

/-- The place of a valid bus record. -/
def BusRec.home (r : BusRec) : Option Place := if r.valid then some r.place else none

/-- The yard of a state. -/
def State.yard (s : State) : Yard where
  home b := (s.bus b).home
  contents l := (s.lane l).contents
  fuelQueue := s.fuel.queue.map FuelEntry.bus
  bay d := (s.dispenser d).seat
  washQueue := s.wash.queue.map WashEntry.bus
  washBay w := (s.washLane w).seat
  hold := s.holdList
  directions := s.laneMap.directions.map fun d => (d.bus, d.lane)

namespace Yard

/-- How often a bus stands in the collection that a place names. -/
def standing (y : Yard) (b : Nat) : Place → Nat
  | .parked l => (y.contents l).count (.bus b)
  | .fuelWait => y.fuelQueue.count b
  | .fuelBay d => ((y.bay d).toList.map Prod.fst).count b
  | .washWait => y.washQueue.count b
  | .wash w => ((y.washBay w).toList.map Prod.fst).count b
  | .hold => y.hold.count b
  | .directed l => y.directions.count (b, l)
  | .out | .leaving | .lost => 0

/-- A bus's place changes; an invalid record has none. -/
def setHome (y : Yard) (b : Nat) (p : Place) : Yard :=
  { y with home := putAt y.home b ((y.home b).map fun _ => p) }

/-- A lane's contents change. -/
def setContents (y : Yard) (l : Nat) (c : List LaneEntry) : Yard := { y with contents := putAt y.contents l c }

/-- A dispenser's seat changes. -/
def setBay (y : Yard) (d : Nat) (x : Option (Nat × Bool)) : Yard := { y with bay := putAt y.bay d x }

/-- A wash lane's seat changes. -/
def setWashBay (y : Yard) (w : Nat) (x : Option (Nat × Bool)) : Yard := { y with washBay := putAt y.washBay w x }

/-- Every seated bus has its turn (R65, R91). -/
structure InTurn (y : Yard) : Prop where
  bays : ∀ d x, y.bay d = some x → x.2 = true
  washes : ∀ w x, y.washBay w = some x → x.2 = true

/-- Buses and collections agree but for some loose buses (R7): those are valid and stand nowhere, and every other bus stands once in the
collection of its place, if its place names one. Within an event a bus is loose from where it is taken out until it is handed on. -/
structure Agrees (y : Yard) (loose : List Nat) : Prop where
  placed : ∀ b p, y.standing b p = if b ∉ loose ∧ y.home b = some p ∧ p.outside = false then 1 else 0
  valid : ∀ b ∈ loose, (y.home b).isSome
  apart : loose.Nodup
  turns : y.InTurn

end Yard

/-! ### The yard says what R7 says -/

theorem State.lane_outside (s : State) {l : Nat} (h : 32 ≤ l) : (s.lane l).contents = [] := by
  simp [State.lane, tget_outside s.laneMap.lanes (i := l) (by omega)]; rfl

theorem State.dispenser_outside (s : State) {d : Nat} (h : 6 ≤ d) : (s.dispenser d).occupant = none := by
  simp [State.dispenser, tget_outside s.fuel.dispensers (i := d) (by omega)]; rfl

theorem State.washLane_outside (s : State) {w : Nat} (h : 2 ≤ w) : (s.washLane w).occupant = none := by
  simp [State.washLane, tget_outside s.wash.lanes (i := w) (by omega)]; rfl

theorem State.bus_outside (s : State) {b : Nat} (h : 256 ≤ b) : (s.bus b).valid = false := by
  simp [State.bus, tget_outside s.gate.buses (i := b) (by omega)]; rfl

/-- The places that a table of lanes, dispensers or wash lanes gives, counted at the place of one index. -/
theorem count_places_same {n k : Nat} {mk : Nat → Place} (m : Nat → Nat) (hmk : ∀ i, mk i = mk k → i = k) (hout : n ≤ k → m k = 0) :
    ((List.range n).flatMap fun i => List.replicate (m i) (mk i)).count (mk k) = m k := by
  have hcount : ((List.range n).flatMap fun i => List.replicate (m i) (mk i)).count (mk k) = if k < n then m k else 0 := by
    clear hout
    induction n with
    | zero => rfl
    | succ n ih =>
      rw [List.range_succ, List.flatMap_append, List.count_append, ih, List.flatMap_singleton, List.count_replicate]
      by_cases hn : n = k
      · subst hn
        rw [if_neg (Nat.lt_irrefl n), if_pos (beq_self_eq_true _), if_pos (Nat.lt_succ_self n), Nat.zero_add]
      · have hne : (mk n == mk k) = false := beq_eq_false_iff_ne.2 fun h => hn (hmk n h)
        have hlt : k < n + 1 ↔ k < n := by omega
        simp only [hne, hlt, Bool.false_eq_true, if_false, Nat.add_zero]
  rw [hcount]
  split
  · rfl
  · exact (hout (by omega)).symm

/-- A place that no index of a table gives is not among the places the table gives. -/
theorem count_places_other {n : Nat} {mk : Nat → Place} {p : Place} (m : Nat → Nat) (hmk : ∀ i, mk i ≠ p) :
    ((List.range n).flatMap fun i => List.replicate (m i) (mk i)).count p = 0 := by
  rw [List.count_eq_zero, List.mem_flatMap]
  rintro ⟨i, -, hi⟩
  exact hmk i (List.eq_of_mem_replicate hi).symm

theorem length_filter_eq_count_map {α : Type} (f : α → Nat) (b : Nat) (xs : List α) :
    (xs.filter fun x => f x == b).length = (xs.map f).count b := by
  rw [← List.countP_eq_length_filter, List.count, List.countP_map]
  rfl

theorem count_map_directed (ds : List Direction) (b l : Nat) :
    ((ds.filter fun d => d.bus == b).map fun d => Place.directed d.lane).count (.directed l)
      = (ds.map fun d => (d.bus, d.lane)).count (b, l) := by
  induction ds with
  | nil => rfl
  | cons d ds ih => by_cases hb : d.bus = b <;> simp [List.count_cons, hb, ih]

theorem count_map_directed_other (ds : List Direction) {p : Place} (h : ∀ l, p ≠ .directed l) :
    (ds.map fun d => Place.directed d.lane).count p = 0 := by
  rw [List.count_eq_zero, List.mem_map]
  rintro ⟨d, -, rfl⟩
  exact h d.lane rfl

theorem length_filter_seat {α : Type} (f : α → Nat) (t : Bool) (b : Nat) (o : Option α) :
    (o.toList.filter fun x => f x == b).length = ((o.map fun x => (f x, t)).toList.map Prod.fst).count b := by
  cases o with
  | none => rfl
  | some x => exact length_filter_eq_count_map f b [x]

/-- The place list of R7 holds each place as often as the bus stands there. -/
theorem State.count_appears (s : State) (b : Nat) (p : Place) : (s.appears b).count p = s.yard.standing b p := by
  have hlane (l : Nat) := count_places_same (n := 32) (k := l) (mk := Place.parked)
    (fun l => ((s.lane l).contents.filter fun x => x == .bus b).length) (fun _ => Place.parked.inj)
    fun hl => by rw [s.lane_outside hl]; rfl
  have hbay (d : Nat) := count_places_same (n := 6) (k := d) (mk := Place.fuelBay)
    (fun d => ((s.dispenser d).occupant.toList.filter fun o => o.bus == b).length) (fun _ => Place.fuelBay.inj)
    fun hd => by rw [s.dispenser_outside hd]; rfl
  have hwash (w : Nat) := count_places_same (n := 2) (k := w) (mk := Place.wash)
    (fun w => ((s.washLane w).occupant.toList.filter fun x => x.bus == b).length) (fun _ => Place.wash.inj)
    fun hw => by rw [s.washLane_outside hw]; rfl
  have hnoLane := count_places_other (n := 32) (mk := Place.parked) (p := p)
    fun l => ((s.lane l).contents.filter fun x => x == .bus b).length
  have hnoBay := count_places_other (n := 6) (mk := Place.fuelBay) (p := p)
    fun d => ((s.dispenser d).occupant.toList.filter fun o => o.bus == b).length
  have hnoWash := count_places_other (n := 2) (mk := Place.wash) (p := p)
    fun w => ((s.washLane w).occupant.toList.filter fun x => x.bus == b).length
  have hnoDirection := count_map_directed_other (s.laneMap.directions.filter fun d => d.bus == b) (p := p)
  unfold State.appears
  simp only [List.count_append, List.map_const']
  cases p with
  | parked l =>
    rw [hlane, hnoBay (by simp), hnoWash (by simp), hnoDirection (by simp)]
    simp [Yard.standing, State.yard, List.count_eq_length_filter]
  | fuelBay d =>
    rw [hnoLane (by simp), hbay, hnoWash (by simp), hnoDirection (by simp)]
    simpa [Yard.standing, State.yard, DispenserRec.seat, List.count_replicate] using length_filter_seat FuelOccupant.bus _ b _
  | wash w =>
    rw [hnoLane (by simp), hnoBay (by simp), hwash, hnoDirection (by simp)]
    simpa [Yard.standing, State.yard, WashLaneRec.seat, List.count_replicate] using length_filter_seat WashEntry.bus _ b _
  | directed l =>
    rw [hnoLane (by simp), hnoBay (by simp), hnoWash (by simp), count_map_directed]
    simp [Yard.standing, State.yard, List.count_replicate]
  | fuelWait | washWait | hold | out | leaving | lost =>
    rw [hnoLane (by simp), hnoBay (by simp), hnoWash (by simp), hnoDirection (by simp)]
    simp [Yard.standing, State.yard, List.count_replicate, length_filter_eq_count_map]

theorem eq_nil_iff_count {α : Type} [DecidableEq α] {xs : List α} : xs = [] ↔ ∀ q, xs.count q = 0 := by
  simp [List.eq_nil_iff_forall_not_mem, List.count_eq_zero]

theorem eq_singleton_iff_count {α : Type} [DecidableEq α] {xs : List α} {p : α} :
    xs = [p] ↔ ∀ q, xs.count q = if q = p then 1 else 0 := by
  rw [← List.perm_singleton, List.perm_iff_count]
  exact forall_congr' fun q => by simp only [List.count_singleton, beq_iff_eq, @eq_comm _ q p]

/-- A valid record has its place as its home, and an invalid one has none. -/
theorem BusRec.home_eq_some {r : BusRec} {p : Place} : r.home = some p ↔ r.valid = true ∧ r.place = p := by
  unfold BusRec.home
  split <;> simp_all

theorem State.yardAgrees_iff (s : State) : s.YardAgrees ↔ s.yard.Agrees [] := by
  have hplaced (b : Nat) :
      s.appears b = (if (s.bus b).valid && !(s.bus b).place.outside then [(s.bus b).place] else []) ↔
        ∀ p, s.yard.standing b p = if s.yard.home b = some p ∧ p.outside = false then 1 else 0 := by
    have hhome (p : Place) : s.yard.home b = some p ↔ (s.bus b).valid = true ∧ (s.bus b).place = p := BusRec.home_eq_some
    simp only [← s.count_appears, hhome]
    by_cases hv : (s.bus b).valid = true ∧ (s.bus b).place.outside = false
    · rw [if_pos (by simp [hv]), eq_singleton_iff_count]
      have hpick (p : Place) : p = (s.bus b).place ↔ ((s.bus b).valid = true ∧ (s.bus b).place = p) ∧ p.outside = false :=
        ⟨by rintro rfl; exact ⟨⟨hv.1, rfl⟩, hv.2⟩, fun h => h.1.2.symm⟩
      simp only [hpick]
    · rw [if_neg (by simpa using hv), eq_nil_iff_count]
      exact forall_congr' fun p => by
        rw [if_neg]
        rintro ⟨⟨h, rfl⟩, ho⟩
        exact hv ⟨h, ho⟩
  have hbay (d : Nat) :
      ((s.dispenser d).occupant.isSome → (s.dispenser d).state.inTurn = true) ↔ ∀ x, s.yard.bay d = some x → x.2 = true := by
    simp only [State.yard, DispenserRec.seat]
    cases (s.dispenser d).occupant <;> simp
  have hwash (w : Nat) :
      ((s.washLane w).occupant.isSome → (s.washLane w).occupied = true) ↔ ∀ x, s.yard.washBay w = some x → x.2 = true := by
    simp only [State.yard, WashLaneRec.seat]
    cases (s.washLane w).occupant <;> simp
  constructor
  · intro h
    exact ⟨fun b p => by simpa using (hplaced b).1 (h.placed b) p, by simp, List.nodup_nil,
      ⟨fun d => (hbay d).1 (h.bays d), fun w => (hwash w).1 (h.washes w)⟩⟩
  · intro h
    exact ⟨fun b => (hplaced b).2 fun p => by simpa using h.placed b p, fun d => (hbay d).2 (h.turns.bays d),
      fun w => (hwash w).2 (h.turns.washes w)⟩

/-! ### Rules of the yard: a bus taken out, a bus handed on -/

namespace Yard
variable {y z : Yard} {L : List Nat} {b : Nat} {p : Place}

@[simp] theorem setHome_standing (y : Yard) (b : Nat) (p : Place) : (y.setHome b p).standing = y.standing := by
  funext c q; cases q <;> rfl

@[simp] theorem standing_of_outside (h : p.outside = true) : y.standing b p = 0 := by
  cases p <;> simp_all [Place.outside, standing]

theorem Agrees.standing_le_one (h : y.Agrees L) (b : Nat) (p : Place) : y.standing b p ≤ 1 := by
  rw [h.placed]; split <;> simp

/-- A bus that stands somewhere is no loose bus, and the place is its home. -/
theorem Agrees.of_standing (h : y.Agrees L) (hb : y.standing b p ≠ 0) : b ∉ L ∧ y.home b = some p ∧ p.outside = false :=
  Classical.byContradiction fun hn => hb (by rw [h.placed, if_neg hn])

theorem Agrees.standing_loose (h : y.Agrees L) (hb : b ∈ L) (p : Place) : y.standing b p = 0 := by
  rw [h.placed, if_neg (fun hn => hn.1 hb)]

theorem Agrees.standing_home (h : y.Agrees L) (hb : b ∉ L) (hp : y.home b = some p) (ho : p.outside = false) : y.standing b p = 1 := by
  rw [h.placed, if_pos ⟨hb, hp, ho⟩]

/-- The yard with one bus more in the collection that a place names, and nothing else changed. -/
structure Gains (y : Yard) (b : Nat) (p : Place) (z : Yard) : Prop where
  standing : ∀ c q, z.standing c q = y.standing c q + if c = b ∧ q = p then 1 else 0
  home : z.home = y.home
  turns : z.InTurn ↔ y.InTurn

theorem Gains.outside (g : y.Gains b p z) : p.outside = false := by
  refine Bool.eq_false_iff.2 fun ho => ?_
  have hb := g.standing b p
  rw [standing_of_outside ho, if_pos ⟨rfl, rfl⟩] at hb
  omega

/-- One bus taken out of one collection is loose. -/
theorem Agrees.release_one (h : y.Agrees L) (g : z.Gains b p y) : z.Agrees (b :: L) := by
  obtain ⟨hbL, hp, -⟩ := h.of_standing (b := b) (p := p) (by rw [g.standing, if_pos ⟨rfl, rfl⟩]; omega)
  refine ⟨fun c q => ?_, fun c hc => ?_, List.nodup_cons.2 ⟨hbL, h.apart⟩, g.turns.1 h.turns⟩
  · have hsum := g.standing c q
    have hplaced := h.placed c q
    by_cases hc : c = b
    · subst hc
      by_cases hq : q = p
      · subst hq
        have hone := h.standing_le_one c q
        simp at hsum ⊢
        omega
      · simp [hq, hp, Ne.symm hq] at hsum hplaced ⊢
        omega
    · simp [hc, ← g.home] at hsum hplaced ⊢
      omega
  · rw [← g.home]
    rcases List.mem_cons.1 hc with rfl | hc
    · simp [hp]
    · exact h.valid c hc

/-- A loose bus put into the collection of its new place is loose no more. -/
theorem Agrees.seat (h : y.Agrees (b :: L)) (g : y.Gains b p z) : (z.setHome b p).Agrees L := by
  obtain ⟨hbL, hL⟩ := List.nodup_cons.1 h.apart
  obtain ⟨p', hp'⟩ := Option.isSome_iff_exists.1 (h.valid b List.mem_cons_self)
  have ht := g.turns.2 h.turns
  refine ⟨fun c q => ?_, fun c hc => ?_, hL, ⟨ht.bays, ht.washes⟩⟩
  · rw [setHome_standing, g.standing]
    by_cases hc : c = b
    · subst hc
      rw [h.standing_loose List.mem_cons_self]
      by_cases hq : q = p
      · subst hq; simp [setHome, g.home, hbL, hp', g.outside]
      · simp [setHome, g.home, hp', hq, Ne.symm hq]
    · rw [h.placed]
      simp [setHome, g.home, hc]
  · have hcb : c ≠ b := fun hcb => hbL (hcb ▸ hc)
    simpa [setHome, g.home, hcb] using h.valid c (List.mem_cons_of_mem b hc)

/-- A loose bus whose new place names no collection is loose no more. -/
theorem Agrees.setHome_outside (h : y.Agrees (b :: L)) (hp : p.outside = true) : (y.setHome b p).Agrees L := by
  obtain ⟨hbL, hL⟩ := List.nodup_cons.1 h.apart
  refine ⟨fun c q => ?_, fun c hc => ?_, hL, ⟨h.turns.bays, h.turns.washes⟩⟩
  · rw [setHome_standing, h.placed]
    by_cases hc : c = b
    · subst hc
      by_cases hq : q = p
      · subst hq; simp [hp]
      · rw [if_neg (by simp), if_neg]
        rintro ⟨-, hq', -⟩
        exact hq (by simpa [setHome] using hq' : _ ∧ p = q).2.symm
    · simp [setHome, hc]
  · have hcb : c ≠ b := fun hcb => hbL (hcb ▸ hc)
    simpa [setHome, hcb] using h.valid c (List.mem_cons_of_mem b hc)

/-- A record that stands nowhere is replaced by one that stands nowhere. -/
theorem Agrees.rehome_outside {x : Option Place} (h : y.Agrees L) (hb : b ∉ L) (hold : ∀ p, y.home b = some p → p.outside = true)
    (hnew : ∀ p, x = some p → p.outside = true) : ({ y with home := putAt y.home b x } : Yard).Agrees L where
  placed c q := by
    rw [show ({ y with home := putAt y.home b x } : Yard).standing c q = y.standing c q by cases q <;> rfl, h.placed]
    by_cases hc : c = b
    · subst hc
      rw [if_neg, if_neg]
      · rintro ⟨-, hq, hin⟩
        simp [hnew q (by simpa using hq)] at hin
      · rintro ⟨-, hq, hin⟩
        simp [hold q hq] at hin
    · simp [hc]
  valid c hc := by
    have hcb : c ≠ b := fun hcb => hb (hcb ▸ hc)
    simpa [hcb] using h.valid c hc
  apart := h.apart
  turns := ⟨h.turns.bays, h.turns.washes⟩

/-- A loose bus may be given any place. -/
theorem Agrees.setHome_loose (h : y.Agrees L) (hb : b ∈ L) : (y.setHome b p).Agrees L where
  placed c q := by
    rw [setHome_standing, h.placed]
    by_cases hc : c = b
    · subst hc; simp [hb]
    · simp [setHome, hc]
  valid c hc := by
    by_cases hcb : c = b
    · subst hcb; simpa [setHome] using h.valid c hc
    · simpa [setHome, hcb] using h.valid c hc
  apart := h.apart
  turns := ⟨h.turns.bays, h.turns.washes⟩

/-- A bus whose place names no collection may be handed on as a loose one. -/
theorem Agrees.loosen (h : y.Agrees L) (hb : b ∉ L) (hp : y.home b = some p) (ho : p.outside = true) : y.Agrees (b :: L) where
  placed c q := by
    rw [h.placed]
    by_cases hc : c = b
    · subst hc
      rw [if_neg, if_neg (by simp)]
      rintro ⟨-, hq, hin⟩
      rw [hp] at hq
      cases hq
      simp [ho] at hin
    · simp [hc]
  valid c hc := by
    rcases List.mem_cons.1 hc with rfl | hc
    · simp [hp]
    · exact h.valid c hc
  apart := List.nodup_cons.2 ⟨hb, h.apart⟩
  turns := h.turns

/-! ### One bus more in each collection -/

theorem count_of_perm_cons {α : Type} [DecidableEq α] [BEq α] [LawfulBEq α] {a : α} {xs ys : List α} (h : xs.Perm (a :: ys)) (c : α) :
    xs.count c = ys.count c + if c = a then 1 else 0 := by
  rw [h.count_eq, List.count_cons]
  simp only [beq_iff_eq, @eq_comm _ a c]

theorem setBay_self {d : Nat} {x : Option (Nat × Bool)} (h : y.bay d = x) : y.setBay d x = y := by
  subst h; simp [setBay]

@[simp] theorem setBay_setBay (y : Yard) (d : Nat) (a x : Option (Nat × Bool)) : (y.setBay d a).setBay d x = y.setBay d x := by
  simp [setBay]

theorem setWashBay_self {w : Nat} {x : Option (Nat × Bool)} (h : y.washBay w = x) : y.setWashBay w x = y := by
  subst h; simp [setWashBay]

@[simp] theorem setWashBay_setWashBay (y : Yard) (w : Nat) (a x : Option (Nat × Bool)) :
    (y.setWashBay w a).setWashBay w x = y.setWashBay w x := by
  simp [setWashBay]

theorem gains_hold {q : List Nat} (hq : q.Perm (b :: y.hold)) : y.Gains b .hold { y with hold := q } where
  standing c r := by
    cases r with
    | hold => simp [Yard.standing, count_of_perm_cons hq]
    | _ => simp [Yard.standing]
  home := rfl
  turns := ⟨fun t => ⟨t.bays, t.washes⟩, fun t => ⟨t.bays, t.washes⟩⟩

theorem gains_fuelQueue {q : List Nat} (hq : q.Perm (b :: y.fuelQueue)) : y.Gains b .fuelWait { y with fuelQueue := q } where
  standing c r := by
    cases r with
    | fuelWait => simp [Yard.standing, count_of_perm_cons hq]
    | _ => simp [Yard.standing]
  home := rfl
  turns := ⟨fun t => ⟨t.bays, t.washes⟩, fun t => ⟨t.bays, t.washes⟩⟩

theorem gains_washQueue {q : List Nat} (hq : q.Perm (b :: y.washQueue)) : y.Gains b .washWait { y with washQueue := q } where
  standing c r := by
    cases r with
    | washWait => simp [Yard.standing, count_of_perm_cons hq]
    | _ => simp [Yard.standing]
  home := rfl
  turns := ⟨fun t => ⟨t.bays, t.washes⟩, fun t => ⟨t.bays, t.washes⟩⟩

theorem gains_directions {l : Nat} {ds : List (Nat × Nat)} (hd : ds.Perm ((b, l) :: y.directions)) :
    y.Gains b (.directed l) { y with directions := ds } where
  standing c r := by
    cases r with
    | directed m => simp [Yard.standing, count_of_perm_cons hd]
    | _ => simp [Yard.standing]
  home := rfl
  turns := ⟨fun t => ⟨t.bays, t.washes⟩, fun t => ⟨t.bays, t.washes⟩⟩

theorem gains_contents {l : Nat} {xs : List LaneEntry} (hx : xs.Perm (.bus b :: y.contents l)) :
    y.Gains b (.parked l) (y.setContents l xs) where
  standing c r := by
    cases r with
    | parked m =>
      by_cases hm : m = l
      · subst hm; simp [Yard.standing, setContents, count_of_perm_cons hx]
      · simp [Yard.standing, setContents, hm]
    | _ => simp [Yard.standing, setContents]
  home := rfl
  turns := ⟨fun t => ⟨t.bays, t.washes⟩, fun t => ⟨t.bays, t.washes⟩⟩

theorem gains_bay {d : Nat} (hd : y.bay d = none) : y.Gains b (.fuelBay d) (y.setBay d (some (b, true))) where
  standing c r := by
    cases r with
    | fuelBay k =>
      by_cases hk : k = d
      · subst hk; simp [Yard.standing, setBay, hd, count_of_perm_cons (List.Perm.refl [b])]
      · simp [Yard.standing, setBay, hk]
    | _ => simp [Yard.standing, setBay]
  home := rfl
  turns := by
    refine ⟨fun t => ⟨fun k x hx => t.bays k x ?_, t.washes⟩, fun t => ⟨fun k x hx => ?_, t.washes⟩⟩
    · have hk : k ≠ d := by rintro rfl; simp [hd] at hx
      simpa [setBay, hk] using hx
    · by_cases hk : k = d
      · subst hk
        obtain rfl : (b, true) = x := by simpa [setBay] using hx
        rfl
      · exact t.bays k x (by simpa [setBay, hk] using hx)

theorem gains_washBay {w : Nat} (hw : y.washBay w = none) : y.Gains b (.wash w) (y.setWashBay w (some (b, true))) where
  standing c r := by
    cases r with
    | wash k =>
      by_cases hk : k = w
      · subst hk; simp [Yard.standing, setWashBay, hw, count_of_perm_cons (List.Perm.refl [b])]
      · simp [Yard.standing, setWashBay, hk]
    | _ => simp [Yard.standing, setWashBay]
  home := rfl
  turns := by
    refine ⟨fun t => ⟨t.bays, fun k x hx => t.washes k x ?_⟩, fun t => ⟨t.bays, fun k x hx => ?_⟩⟩
    · have hk : k ≠ w := by rintro rfl; simp [hw] at hx
      simpa [setWashBay, hk] using hx
    · by_cases hk : k = w
      · subst hk
        obtain rfl : (b, true) = x := by simpa [setWashBay] using hx
        rfl
      · exact t.washes k x (by simpa [setWashBay, hk] using hx)

/-! ### Taking buses out of each collection -/

theorem mem_of_count_eq_one {α : Type} [BEq α] [LawfulBEq α] {a : α} {xs : List α} (h : xs.count a = 1) : a ∈ xs :=
  List.count_pos_iff.1 (h ▸ Nat.one_pos)

theorem mem_fuelQueue (h : y.standing b .fuelWait = 1) : b ∈ y.fuelQueue := mem_of_count_eq_one h

theorem mem_washQueue (h : y.standing b .washWait = 1) : b ∈ y.washQueue := mem_of_count_eq_one h

theorem mem_hold (h : y.standing b .hold = 1) : b ∈ y.hold := mem_of_count_eq_one h

theorem mem_directions {l : Nat} (h : y.standing b (.directed l) = 1) : (b, l) ∈ y.directions := mem_of_count_eq_one h

theorem perm_cons_filter {α : Type} [DecidableEq α] {a : α} {xs : List α} (h : xs.count a = 1) :
    xs.Perm (a :: xs.filter (· != a)) := by
  rw [List.perm_iff_count]
  intro c
  by_cases hc : c = a
  · subst hc; simp [h, List.count_eq_zero]
  · rw [List.count_cons_of_ne (Ne.symm hc), List.count_filter (by simpa using hc)]

theorem Agrees.leave_hold (h : y.Agrees L) (hb : b ∈ y.hold) : ({ y with hold := y.hold.filter (· != b) }).Agrees (b :: L) := by
  have hc : y.hold.count b = 1 := Nat.le_antisymm (h.standing_le_one b .hold) (List.count_pos_iff.2 hb)
  exact h.release_one (gains_hold (y := { y with hold := y.hold.filter (· != b) }) (perm_cons_filter hc))

theorem Agrees.leave_fuelQueue (h : y.Agrees L) (hb : b ∈ y.fuelQueue) :
    ({ y with fuelQueue := y.fuelQueue.filter (· != b) }).Agrees (b :: L) := by
  have hc : y.fuelQueue.count b = 1 := Nat.le_antisymm (h.standing_le_one b .fuelWait) (List.count_pos_iff.2 hb)
  exact h.release_one (gains_fuelQueue (y := { y with fuelQueue := y.fuelQueue.filter (· != b) }) (perm_cons_filter hc))

theorem Agrees.leave_washQueue (h : y.Agrees L) (hb : b ∈ y.washQueue) :
    ({ y with washQueue := y.washQueue.filter (· != b) }).Agrees (b :: L) := by
  have hc : y.washQueue.count b = 1 := Nat.le_antisymm (h.standing_le_one b .washWait) (List.count_pos_iff.2 hb)
  exact h.release_one (gains_washQueue (y := { y with washQueue := y.washQueue.filter (· != b) }) (perm_cons_filter hc))

theorem Agrees.leave_directions {l : Nat} {ds : List (Nat × Nat)} (h : y.Agrees L) (hd : y.directions.Perm ((b, l) :: ds)) :
    ({ y with directions := ds }).Agrees (b :: L) :=
  h.release_one (gains_directions (y := { y with directions := ds }) hd)

theorem Agrees.leave_contents {l : Nat} {xs : List LaneEntry} (h : y.Agrees L) (hx : (y.contents l).Perm (.bus b :: xs)) :
    (y.setContents l xs).Agrees (b :: L) := by
  have g := gains_contents (y := y.setContents l xs) (l := l) (b := b) (xs := y.contents l) (by simpa [setContents] using hx)
  exact h.release_one (by simpa [setContents] using g)

/-- A dispenser's seat emptied: whoever sat there is loose. -/
theorem Agrees.empty_bay (h : y.Agrees L) (d : Nat) : (y.setBay d none).Agrees ((y.bay d).toList.map Prod.fst ++ L) := by
  cases hd : y.bay d with
  | none => rwa [setBay_self hd]
  | some x =>
    obtain ⟨b, t⟩ := x
    cases h.turns.bays d _ hd
    have g := gains_bay (y := y.setBay d none) (d := d) (b := b) (by simp [setBay])
    exact h.release_one (by rwa [setBay_setBay, setBay_self hd] at g)

/-- A wash lane's seat emptied: whoever sat there is loose. -/
theorem Agrees.empty_washBay (h : y.Agrees L) (w : Nat) : (y.setWashBay w none).Agrees ((y.washBay w).toList.map Prod.fst ++ L) := by
  cases hw : y.washBay w with
  | none => rwa [setWashBay_self hw]
  | some x =>
    obtain ⟨b, t⟩ := x
    cases h.turns.washes w _ hw
    have g := gains_washBay (y := y.setWashBay w none) (w := w) (b := b) (by simp [setWashBay])
    exact h.release_one (by rwa [setWashBay_setWashBay, setWashBay_self hw] at g)

/-! ### Several buses at once -/

/-- Whatever keeps every standing, every home and the turns keeps the agreement. -/
theorem Agrees.of_same_standing (h : y.Agrees L) (hs : z.standing = y.standing) (hhome : z.home = y.home) (ht : z.InTurn) : z.Agrees L where
  placed c q := by rw [hs, hhome, h.placed]
  valid c hc := hhome ▸ h.valid c hc
  apart := h.apart
  turns := ht

theorem Agrees.perm {M : List Nat} (h : y.Agrees L) (hp : L.Perm M) : y.Agrees M where
  placed c q := by simp only [h.placed, hp.mem_iff]
  valid c hc := h.valid c (hp.mem_iff.2 hc)
  apart := hp.nodup_iff.1 h.apart
  turns := h.turns

/-- The first entries of a collection taken out of it: their buses are loose. -/
theorem Agrees.release_front {α : Type} {bus : α → Nat} {place : α → Place} {put : List α → Yard}
    (hput : ∀ x xs, (put xs).Gains (bus x) (place x) (put (x :: xs))) (ys : List α) :
    ∀ (xs : List α) {L : List Nat}, (put (xs ++ ys)).Agrees L → (put ys).Agrees (xs.map bus ++ L)
  | [], _, h => h
  | x :: xs, _, h => (Agrees.release_front hput ys xs (h.release_one (hput x (xs ++ ys)))).perm List.perm_middle

theorem Agrees.empty_hold (h : y.Agrees L) : ({ y with hold := [] } : Yard).Agrees (y.hold ++ L) := by
  have hout := Agrees.release_front (bus := id) (put := fun q => ({ y with hold := q } : Yard))
    (fun b q => gains_hold (y := { y with hold := q }) (List.Perm.refl _)) [] y.hold (L := L) (by simpa using h)
  simpa using hout

theorem Agrees.empty_directions (h : y.Agrees L) : ({ y with directions := [] } : Yard).Agrees (y.directions.map Prod.fst ++ L) :=
  Agrees.release_front (put := fun q => ({ y with directions := q } : Yard))
    (fun d q => gains_directions (y := { y with directions := q }) (List.Perm.refl _)) [] y.directions (by simpa using h)

theorem Agrees.split_washQueue {M q : List Nat} (h : y.Agrees L) (hq : y.washQueue.Perm (M ++ q)) :
    ({ y with washQueue := q } : Yard).Agrees (M ++ L) := by
  have hsame : ({ y with washQueue := M ++ q } : Yard).standing = y.standing := by
    funext c r
    cases r <;> simp [standing, hq.count_eq]
  have hout := Agrees.release_front (bus := id) (put := fun q => ({ y with washQueue := q } : Yard))
    (fun b q => gains_washQueue (y := { y with washQueue := q }) (List.Perm.refl _)) q M
    (h.of_same_standing hsame rfl ⟨h.turns.bays, h.turns.washes⟩)
  simpa using hout

end Yard
end Sys2Proof.Machine

namespace Sys2Proof.Machine

/-! ### What each operation leaves of the yard -/

@[simp] theorem State.yard_contents (s : State) : s.yard.contents = fun l => (s.lane l).contents := rfl
@[simp] theorem State.yard_fuelQueue (s : State) : s.yard.fuelQueue = s.fuel.queue.map FuelEntry.bus := rfl
@[simp] theorem State.yard_bay (s : State) : s.yard.bay = fun d => (s.dispenser d).seat := rfl
@[simp] theorem State.yard_washQueue (s : State) : s.yard.washQueue = s.wash.queue.map WashEntry.bus := rfl
@[simp] theorem State.yard_washBay (s : State) : s.yard.washBay = fun w => (s.washLane w).seat := rfl
@[simp] theorem State.yard_hold (s : State) : s.yard.hold = s.holdList := rfl
@[simp] theorem State.yard_directions (s : State) : s.yard.directions = s.laneMap.directions.map fun d => (d.bus, d.lane) := rfl

theorem State.yard_congr {s t : State} (hbus : s.gate.buses = t.gate.buses) (hlane : s.laneMap.lanes = t.laneMap.lanes)
    (hdir : s.laneMap.directions = t.laneMap.directions) (hhold : s.holdList = t.holdList) (hfuel : s.fuel.queue = t.fuel.queue)
    (hdisp : s.fuel.dispensers = t.fuel.dispensers) (hwash : s.wash.queue = t.wash.queue) (hwlane : s.wash.lanes = t.wash.lanes) :
    s.yard = t.yard := by
  simp only [State.yard, State.bus, State.lane, State.dispenser, State.washLane, hbus, hlane, hdir, hhold, hfuel, hdisp, hwash, hwlane]

@[simp] theorem Ev.ite_yard (c : Prop) [Decidable c] (a b : Ev) : (if c then a else b).yard = if c then a.yard else b.yard := by
  split <;> rfl

@[simp] theorem Ev.foldl_yard {α : Type} (g : Ev → α → Ev) (l : List α) (e : Ev) (h : ∀ e a, (g e a).yard = e.yard) :
    (l.foldl g e).yard = e.yard := foldl_keeps (fun e => e.yard) g h l e

@[simp] theorem Ev.setDuty_yard (e : Ev) (d : Nat) (r : DutyRec) : (e.setDuty d r).yard = e.yard := rfl
@[simp] theorem Ev.setRelease_yard (e : Ev) (l : Nat) (r : Option ReleaseRec) : (e.setRelease l r).yard = e.yard := rfl
@[simp] theorem Ev.setNode_yard (e : Ev) (n : Nat) (r : NodeRec) : (e.setNode n r).yard = e.yard := rfl
@[simp] theorem Ev.setCommands_yard (e : Ev) (q : List CommandEntry) : (e.setCommands q).yard = e.yard := rfl
@[simp] theorem Ev.nextSerial_yard (e : Ev) : e.nextSerial.2.yard = e.yard := rfl
@[simp] theorem Ev.countBy_yard (e : Ev) (c : Counter) (n : Nat) : (e.countBy c n).yard = e.yard := rfl
@[simp] theorem Ev.count_yard (e : Ev) (c : Counter) : (e.count c).yard = e.yard := rfl
@[simp] theorem Ev.triggerRerun_yard (e : Ev) : e.triggerRerun.yard = e.yard := rfl
@[simp] theorem Ev.triggerFuel_yard (e : Ev) : e.triggerFuel.yard = e.yard := rfl
@[simp] theorem Ev.triggerWash_yard (e : Ev) : e.triggerWash.yard = e.yard := rfl
@[simp] theorem Ev.triggerPull_yard (e : Ev) : e.triggerPull.yard = e.yard := rfl
@[simp] theorem Ev.advanceYard_yard (e : Ev) : e.advanceYard.yard = e.yard := rfl

/-- A bus record written with its place and validity kept. -/
theorem Ev.setBus_yard_same (e : Ev) (b : Nat) (r : BusRec) (h : r.home = (e.bus b).home) : (e.setBus b r).yard = e.yard := by
  have hhome : (fun j => ((e.setBus b r).bus j).home) = fun j => (e.bus j).home :=
    funext fun j => tget_tset_congr BusRec.home e.gate.buses b j r h
  simp [State.yard, hhome]

/-- A lane record written with its contents kept. -/
theorem Ev.setLane_yard_same (e : Ev) (l : Nat) (r : LaneRec) (h : r.contents = (e.lane l).contents) : (e.setLane l r).yard = e.yard := by
  have hlane : (fun j => ((e.setLane l r).lane j).contents) = fun j => (e.lane j).contents :=
    funext fun j => tget_tset_congr LaneRec.contents e.laneMap.lanes l j r h
  simp [State.yard, hlane]

/-- A dispenser record written with its seat kept. -/
theorem Ev.setDispenser_yard_same (e : Ev) (d : Nat) (r : DispenserRec) (h : r.seat = (e.dispenser d).seat) :
    (e.setDispenser d r).yard = e.yard := by
  have hbay : (fun j => ((e.setDispenser d r).dispenser j).seat) = fun j => (e.dispenser j).seat :=
    funext fun j => tget_tset_congr DispenserRec.seat e.fuel.dispensers d j r h
  simp [State.yard, hbay]

/-- A wash-lane record written with its seat kept. -/
theorem Ev.setWashLane_yard_same (e : Ev) (w : Nat) (r : WashLaneRec) (h : r.seat = (e.washLane w).seat) :
    (e.setWashLane w r).yard = e.yard := by
  have hbay : (fun j => ((e.setWashLane w r).washLane j).seat) = fun j => (e.washLane j).seat :=
    funext fun j => tget_tset_congr WashLaneRec.seat e.wash.lanes w j r h
  simp [State.yard, hbay]

@[simp] theorem Ev.setHold_yard (e : Ev) (bs : List Nat) : (e.setHold bs).yard = { e.yard with hold := bs } := rfl
@[simp] theorem Ev.setDirections_yard (e : Ev) (ds : List Direction) :
    (e.setDirections ds).yard = { e.yard with directions := ds.map fun d => (d.bus, d.lane) } := rfl
@[simp] theorem Ev.setFuelQueue_yard (e : Ev) (q : List FuelEntry) :
    (e.setFuelQueue q).yard = { e.yard with fuelQueue := q.map FuelEntry.bus } := rfl
@[simp] theorem Ev.setWashQueue_yard (e : Ev) (q : List WashEntry) :
    (e.setWashQueue q).yard = { e.yard with washQueue := q.map WashEntry.bus } := rfl

/-- Reading a table at every index, after a record was written at one: the index named reads the new value, also outside the table where the
new value is what is read there. -/
theorem map_tget_tset {α β : Type} {n : Nat} [Inhabited α] (π : α → β) (v : Vector α n) (i : Nat) (a : α)
    (hout : n ≤ i → π a = π default) :
    (fun j => π (tget (tset v i a) j)) = putAt (fun j => π (tget v j)) i (π a) := by
  funext j
  rw [tget_tset]
  by_cases hj : j = i
  · subst hj
    by_cases hn : j < n
    · simp [hn]
    · simp [hn, tget_outside v hn, hout (by omega)]
  · simp [hj, Ne.symm hj]

@[simp] theorem Ev.setPlace_yard (e : Ev) (b : Nat) (p : Place) : (e.setPlace b p).yard = e.yard.setHome b p := by
  have hhome : (fun j => ((e.setPlace b p).bus j).home)
      = putAt (fun j => (e.bus j).home) b ((e.bus b).home.map fun _ => p) := by
    have hnew : ((e.bus b).home.map fun _ => p) = { e.bus b with place := p, lastSeen := e.now }.home := by
      unfold BusRec.home; split <;> simp_all
    rw [hnew]
    refine map_tget_tset BusRec.home e.gate.buses b _ fun hb => ?_
    simp [BusRec.home, e.bus_outside hb]; rfl
  simp [State.yard, Yard.setHome, hhome]

/-- A bus record is written: the bus's home changes; no record lies outside the table. -/
theorem Ev.setBus_yard (e : Ev) {b : Nat} (r : BusRec) (hb : b < 256) :
    (e.setBus b r).yard = { e.yard with home := putAt e.yard.home b r.home } := by
  have hhome : (fun j => ((e.setBus b r).bus j).home) = putAt (fun j => (e.bus j).home) b r.home :=
    map_tget_tset BusRec.home e.gate.buses b r fun h => absurd hb (by omega)
  simp [State.yard, hhome]

theorem Ev.setBus_yard_outside (e : Ev) {b : Nat} (r : BusRec) (hb : ¬ b < 256) : (e.setBus b r).yard = e.yard := by
  have hbuses : (e.setBus b r).gate.buses = e.gate.buses := tset_outside e.gate.buses r hb
  simp [State.yard, State.bus, hbuses]

/-- A lane's contents change; a lane that is none stays empty. -/
theorem Ev.setLane_yard (e : Ev) (l : Nat) (r : LaneRec) (h : l < 32 ∨ r.contents = []) :
    (e.setLane l r).yard = e.yard.setContents l r.contents := by
  have hlane : (fun j => ((e.setLane l r).lane j).contents) = putAt (fun j => (e.lane j).contents) l r.contents :=
    map_tget_tset LaneRec.contents e.laneMap.lanes l r fun hl => h.resolve_left (by omega)
  simp [State.yard, Yard.setContents, hlane]

/-- A dispenser's seat changes; a dispenser that is none stays empty. -/
theorem Ev.setDispenser_yard (e : Ev) (d : Nat) (r : DispenserRec) (h : d < 6 ∨ r.seat = none) :
    (e.setDispenser d r).yard = e.yard.setBay d r.seat := by
  have hbay : (fun j => ((e.setDispenser d r).dispenser j).seat) = putAt (fun j => (e.dispenser j).seat) d r.seat :=
    map_tget_tset DispenserRec.seat e.fuel.dispensers d r fun hd => h.resolve_left (by omega)
  simp [State.yard, Yard.setBay, hbay]

/-- A wash lane's seat changes; a wash lane that is none stays empty. -/
theorem Ev.setWashLane_yard (e : Ev) (w : Nat) (r : WashLaneRec) (h : w < 2 ∨ r.seat = none) :
    (e.setWashLane w r).yard = e.yard.setWashBay w r.seat := by
  have hbay : (fun j => ((e.setWashLane w r).washLane j).seat) = putAt (fun j => (e.washLane j).seat) w r.seat :=
    map_tget_tset WashLaneRec.seat e.wash.lanes w r fun hw => h.resolve_left (by omega)
  simp [State.yard, Yard.setWashBay, hbay]

/-! ### Operations that stay off the yard -/

section
variable (e : Ev)

@[simp] theorem Ev.send_yard (n : Notice) : (e.send n).yard = e.yard := by
  apply State.yard_congr <;> simp
@[simp] theorem Ev.deriveReserve_yard : e.deriveReserve.yard = e.yard := by
  apply State.yard_congr <;> simp
@[simp] theorem Ev.comparePermissions_yard (before : State) : (e.comparePermissions before).yard = e.yard := by
  apply State.yard_congr <;> simp
@[simp] theorem Ev.failAtOnce_yard : e.failAtOnce.yard = e.yard := by
  apply State.yard_congr <;> simp
@[simp] theorem Ev.request_yard (n : Nat) (k : CommandKind) (c : Contribution) : (e.request n k c).yard = e.yard := by
  apply State.yard_congr <;> simp
@[simp] theorem Ev.requestAspect_yard (sig : Signal) (k : CommandKind) (p : Purpose) : (e.requestAspect sig k p).yard = e.yard := by
  simp [Ev.requestAspect]
@[simp] theorem Ev.requestClear_yard (sig : Signal) (p : Purpose) : (e.requestClear sig p).yard = e.yard := by
  simp [Ev.requestClear]
@[simp] theorem Ev.requestPlain_yard (n : Nat) (k : CommandKind) (p : Purpose) : (e.requestPlain n k p).yard = e.yard := by
  simp [Ev.requestPlain]
@[simp] theorem Ev.allStop_yard : e.allStop.yard = e.yard := by
  apply State.yard_congr <;> simp
@[simp] theorem Ev.clearShadows_yard : e.clearShadows.yard = e.yard := by
  apply State.yard_congr <;> simp
@[simp] theorem Ev.restoreNode_yard (n : Nat) : (e.restoreNode n).yard = e.yard := by
  apply State.yard_congr <;> simp
@[simp] theorem Ev.transmit_yard (x : CommandEntry) : (e.transmit x).yard = e.yard := by
  apply State.yard_congr <;> simp
@[simp] theorem Ev.attemptFailed_yard (x : CommandEntry) : (e.attemptFailed x).yard = e.yard := by
  apply State.yard_congr <;> simp
@[simp] theorem Ev.takeAck_yard (n : Nat) (k : Byte) (ok : Bool) : (e.takeAck n k ok).yard = e.yard := by
  apply State.yard_congr <;> simp
@[simp] theorem Ev.abortWaiting_yard : e.abortWaiting.yard = e.yard := by
  apply State.yard_congr <;> simp
@[simp] theorem Ev.clearCommands_yard : e.clearCommands.yard = e.yard := by
  apply State.yard_congr <;> simp
@[simp] theorem Ev.finishInShadow_yard : e.finishInShadow.yard = e.yard := by
  apply State.yard_congr <;> simp
@[simp] theorem Ev.takeHealth_yard (n : Nat) (ready : Bool) : (e.takeHealth n ready).yard = e.yard := by
  apply State.yard_congr <;> simp
@[simp] theorem Ev.stopRelease_yard (l : Nat) (d : Option Nat) : (e.stopRelease l d).yard = e.yard := by
  apply State.yard_congr <;> simp
@[simp] theorem Ev.depart_yard (d : Nat) (c : DepartedAs) : (e.depart d c).yard = e.yard := by
  apply State.yard_congr <;> simp
@[simp] theorem Ev.departBus_yard (b : Nat) (c : DepartedAs) : (e.departBus b c).yard = e.yard := by
  apply State.yard_congr <;> simp
@[simp] theorem Ev.departByRead_yard (b : Nat) : (e.departByRead b).yard = e.yard := by
  apply State.yard_congr <;> simp
@[simp] theorem Ev.departParked_yard (b : Nat) : (e.departParked b).yard = e.yard := by
  apply State.yard_congr <;> simp
@[simp] theorem Ev.withdrawRelease_yard (d : Nat) : (e.withdrawRelease d).yard = e.yard := by
  apply State.yard_congr <;> simp
@[simp] theorem Ev.clearPins_yard (p : Nat → DutyRec → Bool) : (e.clearPins p).yard = e.yard := by
  apply State.yard_congr <;> simp
@[simp] theorem Ev.clearReleases_yard : e.clearReleases.yard = e.yard := by
  apply State.yard_congr <;> simp
@[simp] theorem Ev.restoreNodes_yard : e.restoreNodes.yard = e.yard := by
  simp [Ev.restoreNodes]
@[simp] theorem Ev.clearBay_yard (d : Nat) : (e.clearBay d).yard = e.yard := by
  simp [Ev.clearBay]
@[simp] theorem Ev.refuseNozzle_yard (d : Nat) : (e.refuseNozzle d).yard = e.yard := by
  simp [Ev.refuseNozzle]
@[simp] theorem Ev.tellContents_yard (old new : List LaneEntry) : (e.tellContents old new).yard = e.yard := by
  apply State.yard_congr <;> simp
@[simp] theorem Ev.markUncertain_yard (l : Nat) : (e.markUncertain l).yard = e.yard := by
  unfold Ev.markUncertain
  split
  · rfl
  · simp [Ev.setLane_yard_same]
@[simp] theorem Ev.overfull_yard (l : Nat) (b i : Option Nat) : (e.overfull l b i).yard = e.yard := by
  simp [Ev.overfull]
@[simp] theorem Ev.exitUnreleased_yard (l d : Nat) : (e.exitUnreleased l d).yard = e.yard := by
  apply State.yard_congr <;> simp

/-! ### Bindings and duties -/

@[simp] theorem Ev.bind_yard (b d : Nat) : (e.bind b d).yard = e.yard := by
  unfold Ev.bind
  split
  · rfl
  · exact Ev.setBus_yard_same _ b _ rfl

@[simp] theorem Ev.clearNames_yard (b d : Nat) : (e.clearNames b d).yard = e.yard :=
  Ev.setBus_yard_same _ b _ rfl

@[simp] theorem Ev.unbind_yard (b : Nat) : (e.unbind b).yard = e.yard := by
  unfold Ev.unbind
  (repeat' split) <;> simp

@[simp] theorem Ev.rebindOne_yard (d : Nat) : (e.rebindOne d).yard = e.yard := by
  unfold Ev.rebindOne
  (repeat' split) <;> simp

@[simp] theorem Ev.rebind_yard : e.rebind.yard = e.yard := by
  simp [Ev.rebind, Ev.rebindClass]

@[simp] theorem Ev.bindProvisional_yard (b : Nat) : (e.bindProvisional b).yard = e.yard := by
  unfold Ev.bindProvisional
  (repeat' split) <;> simp

@[simp] theorem Ev.unbindDuty_yard (d : Nat) : (e.unbindDuty d).yard = e.yard := by
  unfold Ev.unbindDuty
  split <;> simp

@[simp] theorem Ev.bindBoth_yard (b d : Option Nat) : (e.bindBoth b d).yard = e.yard := by
  unfold Ev.bindBoth
  split <;> simp

@[simp] theorem Ev.exchange_yard (d x : Nat) : (e.exchange d x).yard = e.yard := by
  simp [Ev.exchange]

@[simp] theorem Ev.missDuty_yard (d : Nat) : (e.missDuty d).yard = e.yard := by
  unfold Ev.missDuty
  dsimp only
  split <;> simp

@[simp] theorem Ev.testDuty_yard (d : Nat) : (e.testDuty d).yard = e.yard := by
  unfold Ev.testDuty Ev.lateDuty
  (repeat' split) <;> simp

@[simp] theorem Ev.blockDuty_yard (d : Nat) : (e.blockDuty d).yard = e.yard := by
  unfold Ev.blockDuty
  split <;> simp

@[simp] theorem Ev.releaseOrWait_yard (d l : Nat) : (e.releaseOrWait d l).yard = e.yard := by
  unfold Ev.releaseOrWait
  split
  · apply State.yard_congr <;> simp
  · rfl

@[simp] theorem Ev.exchangeOrBlock_yard (d : Nat) : (e.exchangeOrBlock d).yard = e.yard := by
  unfold Ev.exchangeOrBlock
  dsimp only
  (repeat' split) <;> simp

@[simp] theorem Ev.takeDue_yard (d : Nat) : (e.takeDue d).yard = e.yard := by
  unfold Ev.takeDue
  (repeat' split) <;> simp

@[simp] theorem Ev.closeWindow_yard (k : NoticeKind) : (e.closeWindow k).yard = e.yard := by
  unfold Ev.closeWindow
  split
  · rfl
  · simp; rfl

end

end Sys2Proof.Machine

namespace Sys2Proof.Machine

/-! ### The lane assigner hands a bus on -/

/-- A bus that the assigner may attempt: a loose one, or one on the hold list (R47, R48). -/
def Yard.Assignable (y : Yard) (b : Nat) (L : List Nat) : Prop := y.Agrees (b :: L) ∨ y.Agrees L ∧ b ∈ y.hold

section
variable {e : Ev} {b : Nat} {L : List Nat}

/-- Off the hold list, a bus that the assigner may attempt is loose. -/
theorem Yard.Assignable.leave_hold {y : Yard} (h : y.Assignable b L) : ({ y with hold := y.hold.filter (· != b) }).Agrees (b :: L) := by
  rcases h with h | ⟨h, hb⟩
  · have hout : b ∉ y.hold := List.count_eq_zero.1 (h.standing_loose List.mem_cons_self .hold)
    have hsame : y.hold.filter (· != b) = y.hold :=
      List.filter_eq_self.2 fun c hc => by simpa using ne_of_mem_of_not_mem hc hout
    rwa [hsame]
  · exact h.leave_hold hb

theorem Ev.joinHold_agrees (h : e.yard.Agrees (b :: L)) : (e.joinHold b).yard.Agrees L := by
  rw [Ev.joinHold, Ev.setPlace_yard, Ev.setHold_yard]
  exact h.seat (Yard.gains_hold (List.perm_append_singleton b e.holdList))

theorem Ev.holdBus_agrees {r : HeldReason} (h : e.yard.Assignable b L) : (e.holdBus b r).yard.Agrees L := by
  have hheld : e.holdList.contains b = true ↔ b ∈ e.yard.hold := List.contains_iff_mem
  unfold Ev.holdBus
  rcases h with h | ⟨h, hb⟩
  · have hout : b ∉ e.yard.hold := List.count_eq_zero.1 (h.standing_loose List.mem_cons_self .hold)
    rw [if_neg (fun hc => hout (hheld.1 hc)), Ev.send_yard]
    exact Ev.joinHold_agrees h
  · rwa [if_pos (hheld.2 hb)]

theorem Ev.direct_yard (e : Ev) (b l : Nat) : (e.direct b l).yard =
    ({ e.yard with hold := e.yard.hold.filter (· != b), directions := e.yard.directions ++ [(b, l)] }).setHome b (.directed l) := by
  simp [Ev.direct, Ev.leaveHold]

theorem Ev.direct_agrees {l : Nat} (h : e.yard.Assignable b L) : (e.direct b l).yard.Agrees L := by
  rw [Ev.direct_yard]
  exact h.leave_hold.seat (Yard.gains_directions (List.perm_append_singleton (b, l) e.yard.directions))

/-- An assignment attempt leaves its bus on the hold list or on the direction list (R56). -/
theorem Ev.attempt_agrees (h : e.yard.Assignable b L) : (e.attempt b).yard.Agrees L := by
  replace h : (e.bindProvisional b).yard.Assignable b L := by rwa [Ev.bindProvisional_yard]
  unfold Ev.attempt
  dsimp only
  split
  · exact Ev.holdBus_agrees h
  · split
    · exact Ev.holdBus_agrees h
    · split
      · exact Ev.direct_agrees h
      · exact Ev.holdBus_agrees h

/-! ### The wash queue -/

theorem Ev.washSkip_agrees {r : SkipReason} (h : e.yard.Agrees (b :: L)) : (e.washSkip b r).yard.Agrees L := by
  refine Ev.attempt_agrees (.inl ?_)
  rwa [Ev.send_yard, Ev.count_yard, Ev.setBus_yard_same _ _ _ (by rfl)]

theorem Ev.passOverWash_agrees (h : e.yard.Agrees (b :: L)) : (e.passOverWash b).yard.Agrees L := by
  refine Ev.attempt_agrees (.inl ?_)
  rwa [Ev.count_yard, Ev.setBus_yard_same _ _ _ (by rfl)]

theorem Ev.joinWash_agrees {x : WashEntry} {head : Bool} (h : e.yard.Agrees (x.bus :: L)) : (e.joinWash x head).yard.Agrees L := by
  have hperm : ((if head then x :: e.wash.queue else e.wash.queue ++ [x]).map WashEntry.bus).Perm (x.bus :: e.yard.washQueue) := by
    cases head
    · simp
    · exact List.Perm.refl _
  rw [Ev.joinWash, Ev.setPlace_yard, Ev.setWashQueue_yard]
  exact h.seat (Yard.gains_washQueue hperm)

theorem Ev.enqueueWash_agrees (h : e.yard.Agrees (b :: L)) : (e.enqueueWash b).yard.Agrees L := by
  unfold Ev.enqueueWash
  split
  · exact Ev.washSkip_agrees h
  · exact Ev.joinWash_agrees h

/-- A bus that returns to the wash queue stands there, or is skipped (R89, R103). -/
theorem Ev.returnWash_agrees {x : WashEntry} {head trigger : Bool} (h : e.yard.Agrees (x.bus :: L)) :
    (e.returnWash x head trigger).yard.Agrees L := by
  unfold Ev.returnWash
  split
  · exact Ev.washSkip_agrees h
  · split
    · exact Ev.washSkip_agrees h
    · split <;> exact Ev.joinWash_agrees h

/-- The wash test hands its bus on to the wash queue or to the lane assigner (R12). -/
theorem Ev.washTest_agrees (h : e.yard.Agrees (b :: L)) : (e.washTest b).yard.Agrees L := by
  unfold Ev.washTest
  split
  · split
    · exact Ev.passOverWash_agrees h
    · exact Ev.enqueueWash_agrees h
  · exact Ev.attempt_agrees (.inl h)

end

/-- A loop that hands on one loose bus for each element hands on the buses of the whole list. -/
theorem Ev.foldl_hands_on {α : Type} (f : Ev → α → Ev) (bus : α → Nat)
    (hf : ∀ (e : Ev) (x : α) (L : List Nat), e.yard.Agrees (bus x :: L) → (f e x).yard.Agrees L) :
    ∀ (xs : List α) (e : Ev) (L : List Nat), e.yard.Agrees (xs.map bus ++ L) → (xs.foldl f e).yard.Agrees L
  | [], _, _, h => h
  | x :: xs, e, L, h => Ev.foldl_hands_on f bus hf xs (f e x) L (hf e x _ h)

/-- A loop whose every turn keeps the yard in agreement keeps it. -/
theorem Ev.foldl_agrees {α : Type} (f : Ev → α → Ev) {L : List Nat} (hf : ∀ (e : Ev) (x : α), e.yard.Agrees L → (f e x).yard.Agrees L) :
    ∀ (xs : List α) (e : Ev), e.yard.Agrees L → (xs.foldl f e).yard.Agrees L
  | [], _, h => h
  | x :: xs, e, h => Ev.foldl_agrees f hf xs (f e x) (hf e x h)

end Sys2Proof.Machine

namespace Sys2Proof.Machine

/-! ### Wash lanes and their seats -/

theorem WashLaneRec.seat_eq_none {r : WashLaneRec} : r.seat = none ↔ r.occupant = none := by simp [WashLaneRec.seat]

theorem WashLaneRec.seat_bus (r : WashLaneRec) : r.seat.toList.map Prod.fst = r.occupant.toList.map WashEntry.bus := by
  unfold WashLaneRec.seat
  cases r.occupant <;> rfl

section
variable {e : Ev} {w : Nat} {L : List Nat}

/-- The record of an empty wash lane is written, and it stays empty. -/
theorem Ev.setWashLane_yard_vacant {r : WashLaneRec} (h : (e.washLane w).occupant = none) (hr : r.occupant = none) :
    (e.setWashLane w r).yard = e.yard :=
  e.setWashLane_yard_same w r (by rw [WashLaneRec.seat_eq_none.2 h, WashLaneRec.seat_eq_none.2 hr])

theorem Ev.washLane_setWashLane_vacant {r : WashLaneRec} (h : (e.washLane w).occupant = none) (hr : r.occupant = none) :
    ((e.setWashLane w r).washLane w).occupant = none := by
  rw [Ev.setWashLane_washLane]
  split
  · exact hr
  · exact h

theorem Ev.washState_yard_vacant {st : WashState} (h : (e.washLane w).occupant = none) : (e.washState w st).yard = e.yard :=
  Ev.setWashLane_yard_vacant h h

theorem Ev.setWashLane_washState_yard_vacant {r : WashLaneRec} {st : WashState} (h : (e.washLane w).occupant = none)
    (hr : r.occupant = none) : ((e.setWashLane w r).washState w st).yard = e.yard := by
  rw [Ev.washState_yard_vacant (Ev.washLane_setWashLane_vacant h hr), Ev.setWashLane_yard_vacant h hr]

/-- A wash lane goes from one state of its turn to another. -/
theorem Ev.washState_yard_occupied {st : WashState} (h : (e.washLane w).occupied = true) (hst : st = .calling ∨ st = .washing) :
    (e.washState w st).yard = e.yard := by
  refine e.setWashLane_yard_same w _ ?_
  have hturn : ({ e.washLane w with state := st, since := e.now } : WashLaneRec).occupied = true := by
    rcases hst with rfl | rfl <;> rfl
  simp [WashLaneRec.seat, h, hturn]

theorem Ev.closeOr_yard_vacant {st : WashState} (h : (e.washLane w).occupant = none) : (e.closeOr w st).yard = e.yard := by
  unfold Ev.closeOr
  split
  · exact Ev.setWashLane_washState_yard_vacant h h
  · exact Ev.washState_yard_vacant h

theorem Ev.enterReady_yard_vacant (h : (e.washLane w).occupant = none) : (e.enterReady w).yard = e.yard := by
  simp [Ev.enterReady, Ev.closeOr_yard_vacant h]

theorem Ev.setWashLane_enterReady_yard_vacant {r : WashLaneRec} (h : (e.washLane w).occupant = none) (hr : r.occupant = none) :
    ((e.setWashLane w r).enterReady w).yard = e.yard := by
  rw [Ev.enterReady_yard_vacant (Ev.washLane_setWashLane_vacant h hr), Ev.setWashLane_yard_vacant h hr]

theorem Ev.enterClearingWash_yard_vacant {n : Nat} (h : (e.washLane w).occupant = none) : (e.enterClearingWash w n).yard = e.yard :=
  Ev.setWashLane_washState_yard_vacant h h

@[simp] theorem Ev.setFaultScore_yard (e : Ev) (w n : Nat) : (e.setFaultScore w n).yard = e.yard := by
  unfold Ev.setFaultScore
  dsimp only
  split
  · exact e.setWashLane_yard_same w _ rfl
  · rw [Ev.send_yard]
    exact e.setWashLane_yard_same w _ rfl

/-- A wash lane's record without an occupant is written: the seat is empty. -/
theorem Ev.setWashLane_yard_emptied {r : WashLaneRec} (hr : r.occupant = none) :
    (e.setWashLane w r).yard = e.yard.setWashBay w none := by
  have hseat := WashLaneRec.seat_eq_none.2 hr
  rw [e.setWashLane_yard w r (.inr hseat), hseat]

@[simp] theorem Ev.emptyWash_yard (e : Ev) (w : Nat) : (e.emptyWash w).yard = e.yard.setWashBay w none :=
  Ev.setWashLane_yard_emptied rfl

/-- With its seat emptied, the occupant of a wash lane is loose. -/
theorem Ev.vacate_washLane (h : e.yard.Agrees L) (w : Nat) :
    (e.yard.setWashBay w none).Agrees ((e.washLane w).occupant.toList.map WashEntry.bus ++ L) := by
  rw [← WashLaneRec.seat_bus]
  exact h.empty_washBay w

theorem Ev.setWashLane_occupant_none {r : WashLaneRec} (e : Ev) (w : Nat) (hr : r.occupant = none) :
    ((e.setWashLane w r).washLane w).occupant = none := by
  rw [Ev.setWashLane_washLane]
  by_cases hw : w < 2
  · simpa [hw] using hr
  · rw [if_neg (fun h => hw h.2)]
    exact e.washLane_outside (by omega)

theorem Ev.emptyWash_occupant (e : Ev) (w : Nat) : ((e.emptyWash w).washLane w).occupant = none :=
  e.setWashLane_occupant_none w rfl

@[simp] theorem Ev.emptyWash_enterReady_yard (e : Ev) (w : Nat) : ((e.emptyWash w).enterReady w).yard = e.yard.setWashBay w none := by
  rw [Ev.enterReady_yard_vacant (e.emptyWash_occupant w), Ev.emptyWash_yard]

@[simp] theorem Ev.emptyWash_closeOr_yard (e : Ev) (w : Nat) (st : WashState) :
    ((e.emptyWash w).closeOr w st).yard = e.yard.setWashBay w none := by
  rw [Ev.closeOr_yard_vacant (e.emptyWash_occupant w), Ev.emptyWash_yard]

/-- An unoccupied wash lane is empty (R91). -/
theorem Ev.occupant_of_unoccupied (h : e.yard.Agrees L) (hw : (e.washLane w).occupied = false) : (e.washLane w).occupant = none := by
  cases hx : (e.washLane w).occupant with
  | none => rfl
  | some x =>
    have hturn : (e.washLane w).occupied = true :=
      h.turns.washes w (x.bus, (e.washLane w).occupied) (by simp [WashLaneRec.seat, hx])
    exact absurd (hw.symm.trans hturn) Bool.false_ne_true

/-- A bus is taken out of the wash queue. -/
theorem Ev.leave_washQueue {b : Nat} (h : e.yard.Agrees L) (hb : b ∈ e.wash.queue.map WashEntry.bus) :
    (e.setWashQueue (e.wash.queue.filter fun y => y.bus != b)).yard.Agrees (b :: L) := by
  have hfilter : (e.wash.queue.filter fun y => y.bus != b).map WashEntry.bus = (e.wash.queue.map WashEntry.bus).filter (· != b) := by
    rw [List.filter_map]; rfl
  rw [Ev.setWashQueue_yard, hfilter]
  exact h.leave_washQueue hb

/-- A bus is called to an empty wash lane (R93). -/
theorem Ev.callWash_agrees {x : WashEntry} (h : e.yard.Agrees L) (hx : x ∈ e.wash.queue) (hw : w < 2)
    (ho : (e.washLane w).occupant = none) : (e.callWash x w).yard.Agrees L := by
  have hout := Ev.leave_washQueue h (List.mem_map_of_mem hx)
  have hseat := hout.seat (Yard.gains_washBay (w := w) (by simpa [State.washLane] using WashLaneRec.seat_eq_none.2 ho))
  unfold Ev.callWash
  simp only [Ev.requestAspect_yard, Ev.setPlace_yard]
  unfold Ev.washState
  rw [Ev.setWashLane_yard _ _ _ (.inl hw), Ev.setWashLane_yard _ _ _ (.inl hw)]
  simpa [WashLaneRec.seat, WashLaneRec.occupied, hw] using hseat

end
end Sys2Proof.Machine

namespace Sys2Proof.Machine

/-! ### The wash scheduler -/

section
variable {e : Ev} {w : Nat} {L : List Nat}

/-- The entry signal of a call failed (R94). -/
theorem Ev.washSignalFailed_agrees (h : e.yard.Agrees L) : (e.washSignalFailed w).yard.Agrees L := by
  have hout := Ev.vacate_washLane h w
  unfold Ev.washSignalFailed
  cases hocc : (e.washLane w).occupant with
  | none =>
    rw [hocc] at hout
    rwa [Ev.emptyWash_closeOr_yard]
  | some x =>
    rw [hocc] at hout
    exact Ev.returnWash_agrees (by rwa [Ev.emptyWash_closeOr_yard])

/-- The call timeout of a wash lane (R95). -/
theorem Ev.washCallTimedOut_agrees (h : e.yard.Agrees L) : (e.washCallTimedOut w).yard.Agrees L := by
  have hout := Ev.vacate_washLane h w
  have hy := ((e.requestClear (e.washLane w).entrySignal .washClear).emptyWash_enterReady_yard w).symm
  rw [Ev.requestClear_yard] at hy
  rw [hy] at hout
  unfold Ev.washCallTimedOut
  cases hocc : (e.washLane w).occupant with
  | none => rwa [hocc] at hout
  | some x =>
    rw [hocc] at hout
    dsimp only
    split
    · exact Ev.washSkip_agrees hout
    · rw [Ev.send_yard]
      exact Ev.returnWash_agrees hout

/-- "entered" in CALLING (R96). -/
theorem Ev.washEntered_yard (hw : (e.washLane w).state = .calling) : (e.washEntered w).yard = e.yard := by
  have hin : (e.washLane w).occupied = true := by simp [WashLaneRec.occupied, hw]
  unfold Ev.washEntered
  dsimp only
  rw [Ev.requestPlain_yard, Ev.setWashLane_yard_same _ _ _ (by rfl), Ev.nextSerial_yard, Ev.requestClear_yard,
    Ev.washState_yard_occupied hin (.inr rfl)]

/-- "entered" in CALLING while a mode change is pending (R96). -/
theorem Ev.washEnteredRestricted_agrees (h : e.yard.Agrees L) : (e.washEnteredRestricted w).yard.Agrees L := by
  have hout := Ev.vacate_washLane h w
  have hvacant := (e.requestClear (e.washLane w).entrySignal .washClear).emptyWash_occupant w
  unfold Ev.washEnteredRestricted
  cases hocc : (e.washLane w).occupant with
  | none =>
    rw [hocc] at hout
    rwa [Ev.enterClearingWash_yard_vacant hvacant, Ev.emptyWash_yard, Ev.requestClear_yard]
  | some x =>
    rw [hocc] at hout
    rw [Ev.enterClearingWash_yard_vacant (by simpa [State.washLane] using hvacant)]
    exact Ev.washSkip_agrees (by rwa [Ev.emptyWash_yard, Ev.requestClear_yard])

/-- "done" in WASHING (R98). -/
theorem Ev.washDone_agrees (h : e.yard.Agrees L) : (e.washDone w).yard.Agrees L := by
  have hout := Ev.vacate_washLane h w
  unfold Ev.washDone
  cases hocc : (e.washLane w).occupant with
  | none =>
    rw [hocc] at hout
    dsimp only
    rwa [Ev.enterClearingWash_yard_vacant (Ev.emptyWash_occupant _ w), Ev.emptyWash_yard, Ev.setWashLane_yard_same _ _ _ (by rfl),
      Ev.setFaultScore_yard, Ev.count_yard]
  | some x =>
    rw [hocc] at hout
    dsimp only
    rw [Ev.enterClearingWash_yard_vacant (by simpa [State.washLane] using Ev.emptyWash_occupant _ w)]
    refine Ev.attempt_agrees (.inl ?_)
    rwa [Ev.emptyWash_yard, Ev.setWashLane_yard_same _ _ _ (by rfl), Ev.setFaultScore_yard, Ev.count_yard,
      Ev.setBus_yard_same _ _ _ (by rfl)]

/-- An abort of a cycle (R99). -/
theorem Ev.washAbort_agrees {reason : AbortReason} (h : e.yard.Agrees L) : (e.washAbort w reason).yard.Agrees L := by
  have hout := Ev.vacate_washLane h w
  unfold Ev.washAbort
  dsimp only
  generalize hm : Ev.closeOr _ w .faulted = m
  have hy : m.yard = e.yard.setWashBay w none := by
    rw [← hm, Ev.closeOr_yard_vacant (Ev.setWashLane_occupant_none _ w (by rfl)), Ev.setWashLane_yard_emptied (by rfl), Ev.send_yard,
      Ev.count_yard, Ev.setWashLane_yard_same _ _ _ (by rfl), Ev.setFaultScore_yard]
  rw [← hy] at hout
  cases hocc : (e.washLane w).occupant with
  | none => rwa [hocc] at hout
  | some x =>
    rw [hocc] at hout
    dsimp only
    split
    · exact Ev.washSkip_agrees hout
    · exact Ev.returnWash_agrees hout

/-- "ready" in FAULTED (R100). -/
theorem Ev.washReady_agrees (h : e.yard.Agrees L) (hw : (e.washLane w).state = .faulted) : (e.washReady w).yard.Agrees L := by
  have hvacant := Ev.occupant_of_unoccupied h (w := w) (by simp [WashLaneRec.occupied, hw])
  unfold Ev.washReady
  split
  · rwa [Ev.send_yard]
  · rwa [Ev.enterClearingWash_yard_vacant hvacant]

theorem Ev.eventEntered_agrees (h : e.yard.Agrees L) : (e.eventEntered w).yard.Agrees L := by
  unfold Ev.eventEntered
  split
  · split
    · exact Ev.washEnteredRestricted_agrees h
    · rwa [Ev.washEntered_yard ‹_›]
  · rwa [Ev.washIgnored, Ev.send_yard]

theorem Ev.eventDone_agrees (h : e.yard.Agrees L) : (e.eventDone w).yard.Agrees L := by
  unfold Ev.eventDone
  split
  · exact Ev.washDone_agrees h
  · rwa [Ev.washIgnored, Ev.send_yard]

theorem Ev.eventAborted_agrees {reason : Nat} (h : e.yard.Agrees L) : (e.eventAborted w reason).yard.Agrees L := by
  unfold Ev.eventAborted
  split
  · exact Ev.washAbort_agrees h
  · rwa [Ev.washIgnored, Ev.send_yard]

theorem Ev.eventReady_agrees (h : e.yard.Agrees L) : (e.eventReady w).yard.Agrees L := by
  unfold Ev.eventReady
  split
  · exact Ev.washReady_agrees h ‹_›
  · rwa [Ev.washIgnored, Ev.send_yard]

/-- The end of clearing (R98). -/
theorem Ev.washCleared_agrees (h : e.yard.Agrees L) (hdue : e.clearingDue w = true) : (e.washCleared w).yard.Agrees L := by
  have hstate : (e.washLane w).state = .clearing := by
    unfold State.clearingDue at hdue
    simp_all
  have hvacant := Ev.occupant_of_unoccupied h (w := w) (by simp [WashLaneRec.occupied, hstate])
  have hy : (e.washCleared w).yard = e.yard := Ev.setWashLane_enterReady_yard_vacant hvacant hvacant
  rwa [hy]

/-- A bus in WASH is taken out of the yard state (R102). -/
theorem Ev.takeOutOfWash_yard (e : Ev) (w : Nat) : (e.takeOutOfWash w).yard = e.yard.setWashBay w none := by
  unfold Ev.takeOutOfWash
  split
  · rw [Ev.emptyWash_enterReady_yard, Ev.requestClear_yard]
  · exact Ev.setWashLane_yard_emptied rfl

/-! ### The waiver, the orders on wash lanes and the restart -/

/-- A class becomes waived: its waiting buses are loose until they are skipped one after another (R103). -/
theorem Ev.startWaiver_agrees {c : Nat} (h : e.yard.Agrees L) : (e.startWaiver c).yard.Agrees L := by
  have hsplit : (e.wash.queue.map WashEntry.bus).Perm
      ((e.wash.queue.filter fun x => (e.bus x.bus).cls == c).map WashEntry.bus
        ++ (e.wash.queue.filter fun x => (e.bus x.bus).cls != c).map WashEntry.bus) := by
    rw [← List.map_append]
    exact ((List.filter_append_perm _ e.wash.queue).map WashEntry.bus).symm
  rw [Ev.startWaiver, Ev.send_yard]
  exact Ev.foldl_hands_on _ WashEntry.bus (fun _ _ _ => Ev.washSkip_agrees) _ _ L (h.split_washQueue hsplit)

theorem Ev.deriveWaiver_agrees (h : e.yard.Agrees L) : e.deriveWaiver.yard.Agrees L := by
  refine Ev.foldl_agrees Ev.deriveWaiverOf (fun e c h => ?_) _ e h
  unfold Ev.deriveWaiverOf
  split
  · exact h
  · split
    · exact Ev.startWaiver_agrees h
    · rwa [Ev.endWaiver, Ev.send_yard]

/-- CLOSE WASH LANE (R104). -/
theorem Ev.closeWash_agrees (h : e.yard.Agrees L) : (e.closeWash w).yard.Agrees L := by
  have hclose (hw : (e.washLane w).occupied = false) :
      ((e.setWashLane w { e.washLane w with deadline := none }).washState w .closed).yard.Agrees L := by
    have hvacant := Ev.occupant_of_unoccupied h hw
    rwa [Ev.setWashLane_washState_yard_vacant hvacant (by exact hvacant)]
  unfold Ev.closeWash
  cases hw : (e.washLane w).state with
  | ready | clearing | faulted => exact hclose (by simp [WashLaneRec.occupied, hw])
  | closed => exact h
  | calling | washing => dsimp only; rwa [Ev.setWashLane_yard_same _ _ _ (by rfl)]

/-- REOPEN WASH LANE (R105). -/
theorem Ev.reopenWash_agrees (h : e.yard.Agrees L) : (e.reopenWash w).yard.Agrees L := by
  unfold Ev.reopenWash
  dsimp only
  generalize hm : Ev.setWashLane (e.setFaultScore w 0) w _ = m
  replace h : m.yard.Agrees L := by rwa [← hm, Ev.setWashLane_yard_same _ _ _ (by rfl), Ev.setFaultScore_yard]
  have hopen (hw : (m.washLane w).occupied = false) :
      ((m.setWashLane w { m.washLane w with deadline := none }).enterReady w).yard.Agrees L := by
    have hvacant := Ev.occupant_of_unoccupied h hw
    rwa [Ev.setWashLane_enterReady_yard_vacant hvacant (by exact hvacant)]
  split
  case h_1 hw | h_2 hw => exact hopen (by simp [WashLaneRec.occupied, hw])
  all_goals exact h

/-- A warm restart returns the called bus to the head of the queue (R107). -/
theorem Ev.settleWashLane_agrees (h : e.yard.Agrees L) : (e.settleWashLane w).yard.Agrees L := by
  have hout := Ev.vacate_washLane h w
  rw [← Ev.emptyWash_enterReady_yard] at hout
  unfold Ev.settleWashLane
  split
  · cases hocc : (e.washLane w).occupant with
    | none => rwa [hocc] at hout
    | some x =>
      rw [hocc] at hout
      exact Ev.returnWash_agrees hout
  · exact h

theorem Ev.settleWash_agrees (h : e.yard.Agrees L) : e.settleWash.yard.Agrees L :=
  Ev.foldl_agrees Ev.settleWashLane (fun _ _ => Ev.settleWashLane_agrees) _ e h

end
end Sys2Proof.Machine

namespace Sys2Proof.Machine

/-! ### Dispensers and their seats -/

theorem DispenserRec.seat_eq_none {r : DispenserRec} : r.seat = none ↔ r.occupant = none := by simp [DispenserRec.seat]

theorem DispenserRec.seat_bus (r : DispenserRec) : r.seat.toList.map Prod.fst = r.occupant.toList.map FuelOccupant.bus := by
  unfold DispenserRec.seat
  cases r.occupant <;> rfl

section
variable {e : Ev} {d : Nat} {L : List Nat}

/-- The record of an empty dispenser is written, and it stays empty. -/
theorem Ev.setDispenser_yard_vacant {r : DispenserRec} (h : (e.dispenser d).occupant = none) (hr : r.occupant = none) :
    (e.setDispenser d r).yard = e.yard :=
  e.setDispenser_yard_same d r (by rw [DispenserRec.seat_eq_none.2 h, DispenserRec.seat_eq_none.2 hr])

theorem Ev.dispenser_setDispenser_vacant {r : DispenserRec} (h : (e.dispenser d).occupant = none) (hr : r.occupant = none) :
    ((e.setDispenser d r).dispenser d).occupant = none := by
  rw [Ev.setDispenser_dispenser]
  split
  · exact hr
  · exact h

theorem Ev.dispState_yard_vacant {st : DispenserState} (h : (e.dispenser d).occupant = none) : (e.dispState d st).yard = e.yard :=
  Ev.setDispenser_yard_vacant h h

theorem Ev.dispState_vacant {st : DispenserState} (e : Ev) (h : (e.dispenser d).occupant = none) :
    ((e.dispState d st).dispenser d).occupant = none :=
  Ev.dispenser_setDispenser_vacant h h

theorem Ev.setDispenser_dispState_yard_vacant {r : DispenserRec} {st : DispenserState} (h : (e.dispenser d).occupant = none)
    (hr : r.occupant = none) : ((e.setDispenser d r).dispState d st).yard = e.yard := by
  rw [Ev.dispState_yard_vacant (Ev.dispenser_setDispenser_vacant h hr), Ev.setDispenser_yard_vacant h hr]

theorem Ev.enterFree_yard_vacant (h : (e.dispenser d).occupant = none) : (e.enterFree d).yard = e.yard := by
  rw [Ev.enterFree, Ev.triggerFuel_yard, Ev.dispState_yard_vacant h]

theorem Ev.enterClearing_yard_vacant (h : (e.dispenser d).occupant = none) : (e.enterClearing d).yard = e.yard := by
  have hcleared : (e.dispState d .clearing).yard = e.yard := Ev.dispState_yard_vacant h
  unfold Ev.enterClearing
  split
  · exact Ev.setDispenser_dispState_yard_vacant h h
  · dsimp only
    split
    · rw [Ev.enterFree_yard_vacant (e.dispState_vacant h), hcleared]
    · exact hcleared

theorem Ev.closeForFault_yard_vacant (h : (e.dispenser d).occupant = none) : (e.closeForFault d).yard = e.yard :=
  Ev.setDispenser_dispState_yard_vacant h h

/-- A dispenser goes from one state of its turn to another. -/
theorem Ev.dispState_yard_inTurn {st : DispenserState} (h : (e.dispenser d).state.inTurn = true) (hst : st.inTurn = true) :
    (e.dispState d st).yard = e.yard :=
  e.setDispenser_yard_same d _ (by simp [DispenserRec.seat, h, hst])

/-- A dispenser's record without an occupant is written: the seat is empty. -/
theorem Ev.setDispenser_yard_emptied {r : DispenserRec} (hr : r.occupant = none) :
    (e.setDispenser d r).yard = e.yard.setBay d none := by
  have hseat := DispenserRec.seat_eq_none.2 hr
  rw [e.setDispenser_yard d r (.inr hseat), hseat]

theorem Ev.setDispenser_occupant_none {r : DispenserRec} (e : Ev) (d : Nat) (hr : r.occupant = none) :
    ((e.setDispenser d r).dispenser d).occupant = none := by
  rw [Ev.setDispenser_dispenser]
  by_cases hd : d < 6
  · simpa [hd] using hr
  · rw [if_neg (fun h => hd h.2)]
    exact e.dispenser_outside (by omega)

@[simp] theorem Ev.emptyDispenser_yard (e : Ev) (d : Nat) : (e.emptyDispenser d).yard = e.yard.setBay d none :=
  Ev.setDispenser_yard_emptied rfl

theorem Ev.emptyDispenser_occupant (e : Ev) (d : Nat) : ((e.emptyDispenser d).dispenser d).occupant = none :=
  e.setDispenser_occupant_none d rfl

/-- A change of state is forgotten by the yard once the seat is emptied. -/
@[simp] theorem Ev.dispState_setBay (e : Ev) (d : Nat) (st : DispenserState) :
    (e.dispState d st).yard.setBay d none = e.yard.setBay d none := by
  by_cases hd : d < 6
  · rw [Ev.dispState, Ev.setDispenser_yard _ _ _ (.inl hd), Yard.setBay_setBay]
  · rw [Ev.dispState_yard_vacant (e.dispenser_outside (by omega))]

@[simp] theorem Ev.enterFree_setBay (e : Ev) (d : Nat) : (e.enterFree d).yard.setBay d none = e.yard.setBay d none := by
  rw [Ev.enterFree, Ev.triggerFuel_yard, Ev.dispState_setBay]

@[simp] theorem Ev.closeForFault_setBay (e : Ev) (d : Nat) : (e.closeForFault d).yard.setBay d none = e.yard.setBay d none := by
  rw [Ev.closeForFault, Ev.dispState_setBay, Ev.setDispenser_yard_same _ _ _ (by rfl)]

/-- With its seat emptied, the occupant of a dispenser is loose. -/
theorem Ev.vacate_dispenser (h : e.yard.Agrees L) (d : Nat) :
    (e.yard.setBay d none).Agrees ((e.dispenser d).occupant.toList.map FuelOccupant.bus ++ L) := by
  rw [← DispenserRec.seat_bus]
  exact h.empty_bay d

/-- A dispenser that serves no turn is empty (R65). -/
theorem Ev.occupant_of_not_inTurn (h : e.yard.Agrees L) (hd : (e.dispenser d).state.inTurn = false) : (e.dispenser d).occupant = none := by
  cases ho : (e.dispenser d).occupant with
  | none => rfl
  | some o =>
    have hturn : (e.dispenser d).state.inTurn = true :=
      h.turns.bays d (o.bus, (e.dispenser d).state.inTurn) (by simp [DispenserRec.seat, ho])
    exact absurd (hd.symm.trans hturn) Bool.false_ne_true

end

/-! ### The fuel queue -/

theorem insertFuel_perm (x : FuelEntry) : ∀ q : List FuelEntry, (insertFuel x q).Perm (x :: q)
  | [] => .refl _
  | y :: ys => by
    unfold insertFuel
    split
    · exact ((insertFuel_perm x ys).cons y).trans (.swap x y ys)
    · exact .refl _

theorem mem_of_newestOf {p : Nat} {q : List FuelEntry} {y : FuelEntry} (h : newestOf p q = some y) : y ∈ q := by
  revert h
  unfold newestOf
  refine List.foldlRecOn q _ (motive := fun best => best = some y → y ∈ q) (by simp) fun best hbest x hx h => ?_
  grind

section
variable {e : Ev} {b d : Nat} {L : List Nat}

theorem Ev.fuelSkip_agrees {p : Nat} (h : e.yard.Agrees (b :: L)) : (e.fuelSkip b p).yard.Agrees L := by
  refine Ev.washTest_agrees ?_
  rwa [Ev.send_yard, Ev.count_yard, Ev.setBus_yard_same _ _ _ (by rfl)]

theorem Ev.insertFuelEntry_agrees {x : FuelEntry} (h : e.yard.Agrees (x.bus :: L)) : (e.insertFuelEntry x).yard.Agrees L := by
  rw [Ev.insertFuelEntry, Ev.triggerFuel_yard, Ev.setPlace_yard, Ev.setFuelQueue_yard]
  exact h.seat (Yard.gains_fuelQueue ((insertFuel_perm x e.fuel.queue).map FuelEntry.bus))

theorem Ev.leave_fuelQueue (h : e.yard.Agrees L) (hb : b ∈ e.fuel.queue.map FuelEntry.bus) :
    (e.setFuelQueue (e.fuel.queue.filter fun z => z.bus != b)).yard.Agrees (b :: L) := by
  have hfilter : (e.fuel.queue.filter fun z => z.bus != b).map FuelEntry.bus = (e.fuel.queue.map FuelEntry.bus).filter (· != b) := by
    rw [List.filter_map]; rfl
  rw [Ev.setFuelQueue_yard, hfilter]
  exact h.leave_fuelQueue hb

/-- A bus that joins the fuel queue stands there or is skipped; at a full queue it may be another that is skipped (R63). -/
theorem Ev.joinFuel_agrees {x : FuelEntry} (h : e.yard.Agrees (x.bus :: L)) : (e.joinFuel x).yard.Agrees L := by
  unfold Ev.joinFuel
  split
  · exact Ev.insertFuelEntry_agrees h
  · split
    · split
      next y hy => exact Ev.insertFuelEntry_agrees (Ev.fuelSkip_agrees (Ev.leave_fuelQueue h (List.mem_map_of_mem (mem_of_newestOf hy))))
      next => exact Ev.fuelSkip_agrees h
    · exact Ev.fuelSkip_agrees h

theorem Ev.returnOccupant_agrees {o : Option FuelOccupant} {front : Bool} (h : e.yard.Agrees (o.toList.map FuelOccupant.bus ++ L)) :
    (e.returnOccupant o front).yard.Agrees L := by
  cases o with
  | none => exact h
  | some o => exact Ev.joinFuel_agrees h

/-! ### Calls -/

/-- A bus is called to an empty dispenser (R67). -/
theorem Ev.callFuel_agrees {x : FuelEntry} (h : e.yard.Agrees L) (hx : x ∈ e.fuel.queue) (hd : d < 6)
    (ho : (e.dispenser d).occupant = none) : (e.callFuel x d).yard.Agrees L := by
  have hout := Ev.leave_fuelQueue h (List.mem_map_of_mem hx)
  have hseat := hout.seat (Yard.gains_bay (d := d) (by simpa [State.dispenser] using DispenserRec.seat_eq_none.2 ho))
  unfold Ev.callFuel
  simp only [Ev.requestAspect_yard, Ev.setPlace_yard]
  unfold Ev.dispState
  rw [Ev.setDispenser_yard _ _ _ (.inl hd), Ev.setDispenser_yard _ _ _ (.inl hd)]
  simpa [DispenserRec.seat, DispenserState.inTurn, hd] using hseat

theorem Ev.setFuelQueue_yard_same {f : FuelEntry → FuelEntry} (e : Ev) (hf : ∀ x, (f x).bus = x.bus) :
    (e.setFuelQueue (e.fuel.queue.map f)).yard = e.yard := by
  have hbus : (e.fuel.queue.map f).map FuelEntry.bus = e.fuel.queue.map FuelEntry.bus := by simp [hf]
  rw [Ev.setFuelQueue_yard, hbus]
  rfl

@[simp] theorem Ev.lowerTurns_yard (e : Ev) (d b : Nat) : (e.lowerTurns d b).yard = e.yard := by
  unfold Ev.lowerTurns
  split
  · exact e.setFuelQueue_yard_same fun x => by unfold FuelEntry.afterCall; split <;> rfl
  · rfl

@[simp] theorem Ev.deferralEnds_yard (e : Ev) (b : Nat) : (e.deferralEnds b).yard = e.yard := by
  rw [Ev.deferralEnds, Ev.triggerFuel_yard]
  exact e.setFuelQueue_yard_same fun x => by split <;> rfl

/-- The bay signal of a call failed (R68). -/
theorem Ev.baySignalFailed_agrees (h : e.yard.Agrees L) : (e.baySignalFailed d).yard.Agrees L := by
  rw [Ev.baySignalFailed, Ev.send_yard]
  refine Ev.returnOccupant_agrees ?_
  rw [Ev.emptyDispenser_yard, Ev.closeForFault_setBay]
  exact Ev.vacate_dispenser h d

theorem Ev.dock_yard (hd : (e.dispenser d).state = .calling) : (e.dock d).yard = e.yard := by
  rw [Ev.dock, Ev.clearBay_yard, Ev.dispState_yard_inTurn (by simp [hd, DispenserState.inTurn]) rfl]

theorem Ev.missedCall_agrees {o : FuelOccupant} (h : e.yard.Agrees (o.bus :: L)) : (e.missedCall o d).yard.Agrees L := by
  unfold Ev.missedCall
  split
  · exact Ev.joinFuel_agrees h
  · refine Ev.washTest_agrees ?_
    rwa [Ev.send_yard, Ev.count_yard, Ev.setBus_yard_same _ _ _ (by rfl)]

/-- The call timeout of a dispenser (R70). -/
theorem Ev.callTimedOut_agrees (h : e.yard.Agrees L) : (e.callTimedOut d).yard.Agrees L := by
  have hout := Ev.vacate_dispenser h d
  have hy : (((e.clearBay d).enterFree d).emptyDispenser d).yard = e.yard.setBay d none := by simp
  rw [← hy] at hout
  unfold Ev.callTimedOut
  cases hocc : (e.dispenser d).occupant with
  | none => rwa [hocc] at hout
  | some o =>
    rw [hocc] at hout
    exact Ev.missedCall_agrees hout

/-- An occupant is taken out of its dispenser and tested for the wash, and the dispenser is cleared. -/
theorem Ev.dismiss_agrees {o : FuelOccupant} (h : e.yard.Agrees L) (hocc : (e.dispenser d).occupant = some o) :
    (((e.emptyDispenser d).washTest o.bus).enterClearing d).yard.Agrees L := by
  have hout := Ev.vacate_dispenser h d
  rw [hocc, ← Ev.emptyDispenser_yard] at hout
  have hvacant : (((e.emptyDispenser d).washTest o.bus).dispenser d).occupant = none := by
    simpa [State.dispenser] using e.emptyDispenser_occupant d
  rw [Ev.enterClearing_yard_vacant hvacant]
  exact Ev.washTest_agrees hout

/-- A turn that ends with no fuel (R75). -/
theorem Ev.dockingTimedOut_agrees (h : e.yard.Agrees L) : (e.dockingTimedOut d).yard.Agrees L := by
  unfold Ev.dockingTimedOut
  split
  next o hocc =>
    refine Ev.dismiss_agrees ?_ (by simpa [State.dispenser] using hocc)
    rwa [Ev.send_yard, Ev.count_yard, Ev.setBus_yard_same _ _ _ (by rfl)]
  next hocc => rwa [Ev.enterClearing_yard_vacant hocc]

/-! ### Grants -/

theorem Ev.setCommitted_yard (e : Ev) (n : Nat) : ({ e with fuel.committed := n } : Ev).yard = e.yard := rfl

@[simp] theorem Ev.grantFuel_yard (e : Ev) (d litres : Nat) : (e.grantFuel d litres).yard = e.yard := by
  rw [Ev.grantFuel, Ev.requestPlain_yard, Ev.deriveReserve_yard, Ev.setCommitted_yard, Ev.setDispenser_yard_same _ _ _ (by rfl),
    Ev.nextSerial_yard]

theorem Ev.denyFuel_agrees {o : FuelOccupant} (h : e.yard.Agrees L) (hocc : (e.dispenser d).occupant = some o) :
    (e.denyFuel d o).yard.Agrees L := by
  refine Ev.dismiss_agrees ?_ (by simpa [State.dispenser] using hocc)
  simpa using h

theorem Ev.requestGrant_agrees {o : FuelOccupant} (h : e.yard.Agrees L) (hocc : (e.dispenser d).occupant = some o) :
    (e.requestGrant d o).yard.Agrees L := by
  unfold Ev.requestGrant
  split
  · simpa using h
  · split
    · simpa using h
    · exact Ev.denyFuel_agrees h hocc

/-- A NOZZLE frame (R72). -/
theorem Ev.takeNozzle_agrees {tag : Nat} (h : e.yard.Agrees L) : (e.takeNozzle d tag).yard.Agrees L := by
  have hrefused : (e.refuseNozzle d).yard.Agrees L := by rwa [Ev.refuseNozzle_yard]
  unfold Ev.takeNozzle
  dsimp only
  split
  · exact h
  · split
    · split
      · exact h
      · split
        next o hocc =>
          split
          · exact Ev.requestGrant_agrees h hocc
          · rwa [Ev.send_yard]
        next => exact hrefused
    · exact hrefused

/-- The GRANT of a dispenser is acknowledged (R74). -/
theorem Ev.grantDone_yard (h : e.yard.Agrees L) : (e.grantDone d).yard = e.yard := by
  cases hturn : (e.dispenser d).state.inTurn with
  | true => exact Ev.dispState_yard_inTurn hturn rfl
  | false => exact Ev.dispState_yard_vacant (Ev.occupant_of_not_inTurn h hturn)

@[simp] theorem Ev.releaseGrant_yard (e : Ev) (d : Nat) : (e.releaseGrant d).yard = e.yard := by
  unfold Ev.releaseGrant
  split
  · rw [Ev.deriveReserve_yard, Ev.setDispenser_yard_same _ _ _ (by rfl)]
    rfl
  · rfl

/-- The GRANT of a dispenser failed (R74). -/
theorem Ev.grantFailed_agrees (h : e.yard.Agrees L) : (e.grantFailed d).yard.Agrees L := by
  refine Ev.returnOccupant_agrees ?_
  rw [Ev.send_yard, Ev.emptyDispenser_yard, Ev.closeForFault_setBay, Ev.releaseGrant_yard]
  exact Ev.vacate_dispenser h d

/-! ### Deliveries -/

/-- A delivery that settles a grant (R76). -/
theorem Ev.settleDelivery_agrees {g litres : Nat} {full : Bool} (h : e.yard.Agrees L) : (e.settleDelivery d g litres full).yard.Agrees L := by
  have hout := Ev.vacate_dispenser h d
  unfold Ev.settleDelivery
  dsimp only
  generalize hm : Ev.countBy _ .litresDelivered litres = m
  have hy : m.yard = e.yard.setBay d none := by
    rw [← hm, Ev.countBy_yard, Ev.ite_yard, Ev.send_yard, Ev.count_yard, ite_self, Ev.deriveReserve_yard,
      Ev.setDispenser_yard_emptied (by rfl)]
    rfl
  have hvacant : (m.dispenser d).occupant = none := by
    rw [← hm]
    split <;> simpa [State.dispenser] using Ev.setDispenser_occupant_none _ d (by rfl)
  rw [← hy] at hout
  cases hocc : (e.dispenser d).occupant with
  | none =>
    rw [hocc] at hout
    dsimp only
    rwa [Ev.enterClearing_yard_vacant hvacant]
  | some o =>
    rw [hocc] at hout
    dsimp only
    rw [Ev.enterClearing_yard_vacant (by simpa [State.dispenser] using hvacant)]
    refine Ev.washTest_agrees ?_
    rwa [Ev.count_yard, Ev.setBus_yard_same _ _ _ (by rfl)]

@[simp] theorem Ev.orphanDelivery_yard (e : Ev) (d litres : Nat) : (e.orphanDelivery d litres).yard = e.yard := by
  rw [Ev.orphanDelivery, Ev.send_yard, Ev.count_yard, Ev.countBy_yard, Ev.deriveReserve_yard]
  rfl

theorem Ev.takeDelivery_agrees {litres : Nat} {full : Bool} (h : e.yard.Agrees L) : (e.takeDelivery d litres full).yard.Agrees L := by
  unfold Ev.takeDelivery
  split
  · exact h
  · split
    · exact Ev.settleDelivery_agrees h
    · rwa [Ev.orphanDelivery_yard]

/-! ### Loop changes -/

theorem Ev.bayOccupied_agrees (h : e.yard.Agrees L) : (e.bayOccupied d).yard.Agrees L := by
  unfold Ev.bayOccupied
  split
  next hd => rwa [Ev.dock_yard hd]
  next => exact h

theorem Ev.enterFree_agrees_of_clearing (h : e.yard.Agrees L) (hd : (e.dispenser d).state = .clearing) : (e.enterFree d).yard.Agrees L := by
  rwa [Ev.enterFree_yard_vacant (Ev.occupant_of_not_inTurn h (by simp [hd, DispenserState.inTurn]))]

theorem Ev.bayVacant_agrees (h : e.yard.Agrees L) : (e.bayVacant d).yard.Agrees L := by
  unfold Ev.bayVacant
  split
  case h_1 =>
    split
    · exact h
    · exact Ev.dockingTimedOut_agrees h
  case h_2 hd => exact Ev.enterFree_agrees_of_clearing h hd
  all_goals exact h

theorem Ev.bayFaulted_agrees (h : e.yard.Agrees L) : (e.bayFaulted d).yard.Agrees L := by
  unfold Ev.bayFaulted
  split
  · refine Ev.returnOccupant_agrees ?_
    rw [Ev.emptyDispenser_yard, Ev.enterFree_setBay, Ev.clearBay_yard]
    exact Ev.vacate_dispenser h d
  · exact h

theorem Ev.bayRecovered_agrees (h : e.yard.Agrees L) : (e.bayRecovered d).yard.Agrees L := by
  rw [Ev.bayRecovered, Ev.triggerFuel_yard]
  split
  next hd => exact Ev.enterFree_agrees_of_clearing h hd
  next => exact h

/-! ### Removal, alarms, closures and the restart -/

/-- A bus in FUEL_BAY is taken out of the yard state (R80). -/
theorem Ev.takeOutOfBay_yard (e : Ev) (d : Nat) : (e.takeOutOfBay d).yard = e.yard.setBay d none := by
  have hvacant := e.emptyDispenser_occupant d
  unfold Ev.takeOutOfBay
  dsimp only
  split
  case h_1 =>
    rw [Ev.enterFree_yard_vacant (by simpa [State.dispenser] using hvacant), Ev.clearBay_yard, Ev.emptyDispenser_yard]
  case h_2 =>
    split
    · exact Ev.emptyDispenser_yard e d
    · rw [Ev.enterClearing_yard_vacant hvacant, Ev.emptyDispenser_yard]
  all_goals exact Ev.emptyDispenser_yard e d

/-- A DISP ALARM frame (R81). -/
theorem Ev.takeAlarm_agrees {reason : Nat} (h : e.yard.Agrees L) : (e.takeAlarm d reason).yard.Agrees L := by
  have hout := Ev.vacate_dispenser h d
  unfold Ev.takeAlarm
  dsimp only
  split
  · exact h
  · split
    case h_1 => rwa [Ev.send_yard]
    all_goals
      rw [Ev.send_yard]
      refine Ev.returnOccupant_agrees ?_
      rwa [Ev.closeForFault_yard_vacant (Ev.emptyDispenser_occupant _ d), Ev.emptyDispenser_yard, Ev.releaseGrant_yard, Ev.ite_yard,
        Ev.clearBay_yard, ite_self]

theorem Ev.dispenserHealth_agrees {ready : Bool} (h : e.yard.Agrees L) : (e.dispenserHealth d ready).yard.Agrees L := by
  unfold Ev.dispenserHealth
  split
  next hd => rwa [Ev.enterClearing_yard_vacant (Ev.occupant_of_not_inTurn h (by simp [hd.2, DispenserState.inTurn]))]
  next => exact h

theorem Ev.openDisp_agrees (h : e.yard.Agrees L) : (e.openDisp d).yard.Agrees L := by
  unfold Ev.openDisp
  dsimp only
  generalize hm : Ev.setDispenser e d _ = m
  replace h : m.yard.Agrees L := by rwa [← hm, Ev.setDispenser_yard_same _ _ _ (by rfl)]
  split
  case h_1 hd => rwa [Ev.enterClearing_yard_vacant (Ev.occupant_of_not_inTurn h (by simp [hd, DispenserState.inTurn]))]
  all_goals exact h

theorem Ev.closeDisp_agrees (h : e.yard.Agrees L) : (e.closeDisp d).yard.Agrees L := by
  have hvacant (hd : (e.dispenser d).state.inTurn = false) := Ev.occupant_of_not_inTurn h hd
  unfold Ev.closeDisp
  split
  case h_1 hd | h_2 hd => rwa [Ev.dispState_yard_vacant (hvacant (by simp [hd, DispenserState.inTurn]))]
  case h_3 hd => 
    have ho := hvacant (by simp [hd, DispenserState.inTurn])
    rwa [Ev.setDispenser_yard_vacant ho (by exact ho)]
  case h_4 => exact h
  case h_5 => 
    refine Ev.returnOccupant_agrees ?_
    rw [Ev.emptyDispenser_yard, Ev.dispState_setBay, Ev.clearBay_yard]
    exact Ev.vacate_dispenser h d
  all_goals rwa [Ev.setDispenser_yard_same _ _ _ (by rfl)]

/-- A warm restart settles a dispenser by its state (R87). -/
theorem Ev.settleDispenser_agrees (h : e.yard.Agrees L) : (e.settleDispenser d).yard.Agrees L := by
  have hdock (hd : (e.dispenser d).state.inTurn = true) :
      ((e.setDispenser d { e.dispenser d with grant := none }).dispState d .docked).yard.Agrees L := by
    have hturn : ((e.setDispenser d { e.dispenser d with grant := none }).dispenser d).state.inTurn = true := by
      rw [Ev.setDispenser_dispenser]
      split <;> exact hd
    rwa [Ev.dispState_yard_inTurn hturn rfl, Ev.setDispenser_yard_same _ _ _ (by rfl)]
  unfold Ev.settleDispenser
  split
  case h_4 =>
    refine Ev.returnOccupant_agrees ?_
    rw [Ev.emptyDispenser_yard, Ev.enterFree_setBay]
    exact Ev.vacate_dispenser h d
  case h_5 hd =>
    split
    · exact hdock (by simp [hd, DispenserState.inTurn])
    · exact h
  case h_6 hd => exact hdock (by simp [hd, DispenserState.inTurn])
  all_goals exact h

theorem Ev.settleFuel_agrees (h : e.yard.Agrees L) : e.settleFuel.yard.Agrees L := by
  rw [Ev.settleFuel, Ev.deriveReserve_yard, Ev.setCommitted_yard]
  exact Ev.foldl_agrees Ev.settleDispenser (fun _ _ => Ev.settleDispenser_agrees) _ e h

end
end Sys2Proof.Machine

namespace Sys2Proof.Machine

/-! ### Directions -/

theorem removeFirst_perm {α : Type} [DecidableEq α] {a : α} {xs : List α} (h : a ∈ xs) : xs.Perm (a :: removeFirst (fun x => x == a) xs) := by
  induction xs with
  | nil => simp at h
  | cons x xs ih =>
    by_cases hx : x = a
    · simp [removeFirst, hx]
    · have hrest := ih (List.mem_of_ne_of_mem (Ne.symm hx) h)
      simpa [removeFirst, hx] using (hrest.cons x).trans (.swap a x _)

section
variable {e : Ev} {b l : Nat} {d : Direction} {L : List Nat}

theorem Ev.leaveDirection_agrees (h : e.yard.Agrees L) (hd : d ∈ e.laneMap.directions) :
    (e.leaveDirection d).yard.Agrees (d.bus :: L) := by
  have hperm := (removeFirst_perm hd).map fun d => (d.bus, d.lane)
  have hy : (e.leaveDirection d).yard =
      { e.yard with directions := (removeFirst (fun x => x == d) e.laneMap.directions).map fun d => (d.bus, d.lane) } := by
    simp [Ev.leaveDirection]
  rw [hy]
  exact h.leave_directions hperm

theorem Ev.loseDirected_agrees (h : e.yard.Agrees L) (hd : d ∈ e.laneMap.directions) : (e.loseDirected d).yard.Agrees L := by
  rw [Ev.loseDirected, Ev.setPlace_yard]
  exact (Ev.leaveDirection_agrees h hd).setHome_outside rfl

theorem State.mem_of_directionsTo {s : State} {ds : List Direction} (h : s.directionsTo l = d :: ds) : d ∈ s.laneMap.directions :=
  (List.mem_filter.1 (h ▸ List.mem_cons_self : d ∈ s.directionsTo l)).1

/-! ### Contents -/

/-- The contents of a lane change; a lane that is none has none. -/
theorem Ev.changeContents_yard {new : List LaneEntry} (h : (e.lane l).contents = [] → l < 32 ∨ new = []) :
    (e.changeContents l new).yard = e.yard.setContents l new := by
  have hl : l < 32 ∨ new = [] := by
    by_cases hl : l < 32
    · exact .inl hl
    · exact h (e.lane_outside (by omega))
  rw [Ev.changeContents, Ev.tellContents_yard, Ev.setLane_yard _ _ _ hl]

theorem LaneRec.joined_perm (r : LaneRec) (x : LaneEntry) : (r.joined x).Perm (x :: r.contents) := by
  unfold LaneRec.joined
  split
  · exact List.perm_append_singleton x r.contents
  · exact .refl _

/-- A loose bus joins a lane (R34). -/
theorem Ev.park_agrees (h : e.yard.Agrees (b :: L)) (hl : l < 32) : (e.park b l).yard.Agrees L := by
  rw [Ev.park, Ev.joinLane, Ev.setPlace_yard, Ev.changeContents_yard fun _ => .inl hl]
  exact h.seat (Yard.gains_contents ((e.lane l).joined_perm (.bus b)))

/-- A change of a lane's contents that only concerns placeholders. -/
theorem Yard.Agrees.setContents_placeholders {y : Yard} {new : List LaneEntry} (h : y.Agrees L)
    (hnew : ∀ c, new.count (.bus c) = (y.contents l).count (.bus c)) : (y.setContents l new).Agrees L := by
  refine h.of_same_standing ?_ rfl ⟨h.turns.bays, h.turns.washes⟩
  funext c q
  cases q with
  | parked m =>
    by_cases hm : m = l
    · subst hm; simp [Yard.standing, Yard.setContents, hnew]
    · simp [Yard.standing, Yard.setContents, hm]
  | _ => rfl

theorem Ev.joinLane_placeholder_agrees (h : e.yard.Agrees L) (hl : l < 32) : (e.joinLane l .placeholder).yard.Agrees L := by
  rw [Ev.joinLane, Ev.changeContents_yard fun _ => .inl hl]
  exact h.setContents_placeholders fun c => by simp [((e.lane l).joined_perm .placeholder).count_eq]

theorem headBus_eq_some {c : List LaneEntry} (h : headBus c = some b) : c = .bus b :: c.tail := by
  unfold headBus at h
  split at h <;> simp_all

theorem count_tail_of_headBus_eq_none {c : List LaneEntry} (h : headBus c = none) (b : Nat) : c.tail.count (.bus b) = c.count (.bus b) := by
  unfold headBus at h
  split at h <;> simp_all

/-- The bus at the exit end is taken out of its lane. -/
theorem Ev.removeHead_agrees (h : e.yard.Agrees L) (hb : headBus (e.lane l).contents = some b) :
    (e.changeContents l (e.lane l).contents.tail).yard.Agrees (b :: L) := by
  rw [Ev.changeContents_yard fun hc => .inr (by simp [hc])]
  exact h.leave_contents (.of_eq (headBus_eq_some hb))

theorem Ev.removeHead_agrees_of_none (h : e.yard.Agrees L) (hb : headBus (e.lane l).contents = none) :
    (e.changeContents l (e.lane l).contents.tail).yard.Agrees L := by
  rw [Ev.changeContents_yard fun hc => .inr (by simp [hc])]
  exact h.setContents_placeholders fun c => count_tail_of_headBus_eq_none hb c

/-- A bus is taken out of the lane it stands in. -/
theorem Ev.removeFromLane_agrees (h : e.yard.Agrees L) (hb : e.yard.standing b (.parked l) = 1) :
    (e.removeFromLane b l).yard.Agrees (b :: L) := by
  rw [Ev.removeFromLane, Ev.changeContents_yard fun hc => .inr (by simp [hc])]
  exact h.leave_contents (Yard.perm_cons_filter hb)

/-! ### Passages -/

theorem Ev.overfullBus_agrees {i : Option Nat} (h : e.yard.Agrees (b :: L)) : (e.overfullBus l b i).yard.Agrees L := by
  rw [Ev.overfullBus, Ev.overfull_yard, Ev.count_yard, Ev.setPlace_yard]
  exact h.setHome_outside rfl

theorem Ev.matchedEntry_agrees (h : e.yard.Agrees L) (hd : d ∈ e.laneMap.directions) (hl : l < 32) :
    (e.matchedEntry l d).yard.Agrees L := by
  have hout := Ev.leaveDirection_agrees h hd
  unfold Ev.matchedEntry
  dsimp only
  split
  · rw [Ev.count_yard]
    exact Ev.park_agrees hout hl
  · exact Ev.overfullBus_agrees hout

theorem Ev.misroute_agrees (h : e.yard.Agrees L) (hd : d ∈ e.laneMap.directions) (hl : l < 32) : (e.misroute l d).yard.Agrees L := by
  have hout : ((e.loseDirected d).count .misroutes).yard.Agrees (d.bus :: L) := by
    rw [Ev.count_yard, Ev.loseDirected, Ev.setPlace_yard]
    exact (Ev.leaveDirection_agrees h hd).setHome_loose List.mem_cons_self
  unfold Ev.misroute
  dsimp only
  split
  · rw [Ev.send_yard]
    exact Ev.park_agrees hout hl
  · exact Ev.overfullBus_agrees hout

theorem Ev.unexpectedEntry_agrees (h : e.yard.Agrees L) (hl : l < 32) : (e.unexpectedEntry l).yard.Agrees L := by
  replace h : (e.count .unexpectedEntries).yard.Agrees L := h
  unfold Ev.unexpectedEntry
  dsimp only
  split
  · rw [Ev.markUncertain_yard]
    exact Ev.joinLane_placeholder_agrees h hl
  · rwa [Ev.overfull_yard]

theorem Ev.entryPassage_agrees (h : e.yard.Agrees L) (hl : l < 32) : (e.entryPassage l).yard.Agrees L := by
  unfold Ev.entryPassage
  split
  next hd => exact Ev.matchedEntry_agrees h (State.mem_of_directionsTo hd) hl
  next =>
    split
    next hd => exact Ev.misroute_agrees h (hd ▸ List.mem_cons_self) hl
    next => exact Ev.unexpectedEntry_agrees h hl

theorem Ev.releasedExit_agrees {d : Nat} (h : e.yard.Agrees L) (hb : headBus (e.lane l).contents = some b) :
    (e.releasedExit l d b).yard.Agrees L := by
  unfold Ev.releasedExit
  rw [Ev.stopRelease_yard, Ev.setDuty_yard, Ev.setPlace_yard]
  exact (Ev.removeHead_agrees h hb).setHome_outside rfl

theorem Ev.removeExit_agrees (h : e.yard.Agrees L) : (e.removeExit l).yard.Agrees L := by
  unfold Ev.removeExit
  dsimp only
  split
  next b hb =>
    have hout := (Ev.removeHead_agrees h hb).setHome_outside (p := .leaving) rfl
    rw [← Ev.setPlace_yard] at hout
    split
    · rwa [Ev.exitUnreleased_yard]
    · exact hout
  next hb => exact Ev.removeHead_agrees_of_none h hb

theorem Ev.unexpectedExit_agrees (h : e.yard.Agrees L) : (e.unexpectedExit l).yard.Agrees L := by
  rw [Ev.unexpectedExit, Ev.send_yard, Ev.markUncertain_yard]
  split
  · exact h
  · exact Ev.removeExit_agrees h

theorem Ev.exitPassage_agrees (h : e.yard.Agrees L) : (e.exitPassage l).yard.Agrees L := by
  unfold Ev.exitPassage
  split
  next hb =>
    split
    · exact Ev.releasedExit_agrees h hb
    · exact Ev.unexpectedExit_agrees h
  next => exact Ev.unexpectedExit_agrees h

theorem Ev.mouthPassage_agrees (h : e.yard.Agrees L) (hl : l < 32) : (e.mouthPassage l).yard.Agrees L := by
  unfold Ev.mouthPassage
  split
  next hd => exact Ev.matchedEntry_agrees h (State.mem_of_directionsTo hd) hl
  next =>
    split
    · exact Ev.exitPassage_agrees h
    · split
      next hd => exact Ev.misroute_agrees h (hd ▸ List.mem_cons_self) hl
      next =>
        split
        · exact Ev.unexpectedEntry_agrees h hl
        · exact Ev.unexpectedExit_agrees h

theorem Ev.passage_agrees {c : Nat} (h : e.yard.Agrees L) : (e.passage c).yard.Agrees L := by
  unfold Ev.passage
  split
  next => exact h
  next l hl =>
    replace hl : l < 32 := (mem_indices _ l).1 (List.mem_of_find?_eq_some hl)
    split
    · exact Ev.mouthPassage_agrees h hl
    · split
      · exact Ev.entryPassage_agrees h hl
      · exact Ev.exitPassage_agrees h

end
end Sys2Proof.Machine

namespace Sys2Proof.Machine

/-! ### The gate -/

section
variable {e : Ev} {b : Nat} {L : List Nat}

theorem Ev.home_eq_some {p : Place} : e.yard.home b = some p ↔ (e.bus b).valid = true ∧ (e.bus b).place = p := BusRec.home_eq_some

/-- A valid bus stands once where its place says. -/
theorem Ev.standing_place (h : e.yard.Agrees L) (hb : b ∉ L) (hv : (e.bus b).valid = true) (ho : (e.bus b).place.outside = false) :
    e.yard.standing b (e.bus b).place = 1 :=
  h.standing_home hb (Ev.home_eq_some.2 ⟨hv, rfl⟩) ho

theorem Ev.leaveHold_agrees (h : e.yard.Agrees L) (hb : b ∈ e.holdList) : (e.leaveHold b).yard.Agrees (b :: L) :=
  h.leave_hold hb

/-- Whoever stands in a direction has one on the list (R29). -/
theorem Ev.directionOf_of_standing {l : Nat} (hb : e.yard.standing b (.directed l) = 1) :
    ∃ d ∈ e.laneMap.directions, d.bus = b ∧ e.directionOf b = some d := by
  have hlisted : ∃ d ∈ e.laneMap.directions, d.bus = b := by
    obtain ⟨d, hd, heq⟩ := List.mem_map.1 (Yard.mem_directions hb)
    exact ⟨d, hd, congrArg Prod.fst heq⟩
  obtain ⟨d, hd⟩ := Option.isSome_iff_exists.1 (List.find?_isSome (p := fun d : Direction => d.bus == b) |>.2 (by simpa using hlisted))
  exact ⟨d, List.mem_of_find?_eq_some hd, by simpa using List.find?_some hd, hd⟩

/-- Whoever stands in a dispenser is its occupant (R65). -/
theorem Ev.occupant_of_standing_bay {d : Nat} (hb : e.yard.standing b (.fuelBay d) = 1) :
    (e.dispenser d).occupant.toList.map FuelOccupant.bus = [b] := by
  have hmem : b ∈ (e.dispenser d).occupant.toList.map FuelOccupant.bus := by
    rw [← DispenserRec.seat_bus]
    exact Yard.mem_of_count_eq_one hb
  cases ho : (e.dispenser d).occupant <;> simp_all

/-- Whoever stands in a wash lane is its occupant (R91). -/
theorem Ev.occupant_of_standing_wash {w : Nat} (hb : e.yard.standing b (.wash w) = 1) :
    (e.washLane w).occupant.toList.map WashEntry.bus = [b] := by
  have hmem : b ∈ (e.washLane w).occupant.toList.map WashEntry.bus := by
    rw [← WashLaneRec.seat_bus]
    exact Yard.mem_of_count_eq_one hb
  cases ho : (e.washLane w).occupant <;> simp_all

/-- A bus in the yard state is removed from whatever holds it (R11, R33, R80, R102). -/
theorem Ev.takeOut_agrees (h : e.yard.Agrees L) (hb : b ∉ L) (hv : (e.bus b).valid = true) : (e.takeOut b).yard.Agrees (b :: L) := by
  have hstand := Ev.standing_place h hb hv
  have houtside (ho : (e.bus b).place.outside = true) : e.yard.Agrees (b :: L) := h.loosen hb (Ev.home_eq_some.2 ⟨hv, rfl⟩) ho
  unfold Ev.takeOut
  cases hp : (e.bus b).place with
  | fuelWait => exact Ev.leave_fuelQueue h (Yard.mem_fuelQueue (hp ▸ hstand (by rw [hp]; rfl)))
  | washWait => exact Ev.leave_washQueue h (Yard.mem_washQueue (hp ▸ hstand (by rw [hp]; rfl)))
  | hold => exact Ev.leaveHold_agrees h (Yard.mem_hold (hp ▸ hstand (by rw [hp]; rfl)))
  | fuelBay d =>
    have hout := Ev.vacate_dispenser h d
    rw [Ev.occupant_of_standing_bay (hp ▸ hstand (by rw [hp]; rfl))] at hout
    rwa [Ev.takeOutOfBay_yard]
  | wash w =>
    have hout := Ev.vacate_washLane h w
    rw [Ev.occupant_of_standing_wash (hp ▸ hstand (by rw [hp]; rfl))] at hout
    rwa [Ev.takeOutOfWash_yard]
  | directed l =>
    obtain ⟨d, hd, rfl, hof⟩ := Ev.directionOf_of_standing (hp ▸ hstand (by rw [hp]; rfl))
    dsimp only
    rw [hof]
    exact Ev.leaveDirection_agrees h hd
  | parked l => exact Ev.removeFromLane_agrees h (hp ▸ hstand (by rw [hp]; rfl))
  | out | leaving | lost => exact houtside (by rw [hp]; rfl)

/-- An arrival hands its bus on to the fuel test or the wash test (R10, R12). -/
theorem Ev.arrive_agrees {level : Option Nat} (h : e.yard.Agrees (b :: L)) : (e.arrive b level).yard.Agrees L := by
  have hroute (m : Ev) (hm : m.yard.Agrees (b :: L)) : (m.route b).yard.Agrees L := by
    unfold Ev.route
    split
    · exact Ev.joinFuel_agrees hm
    · exact Ev.washTest_agrees hm
  refine hroute _ ?_
  rwa [Ev.setBus_yard_same _ _ _ (by rfl)]

theorem Ev.reappear_agrees {level : Option Nat} (h : e.yard.Agrees L) (hb : b ∉ L) (hv : (e.bus b).valid = true) :
    (e.reappear b level).yard.Agrees L := by
  refine Ev.arrive_agrees ?_
  rw [Ev.send_yard, Ev.count_yard, Ev.unbind_yard]
  split
  · rw [Ev.markUncertain_yard]
    exact Ev.takeOut_agrees h hb hv
  · rw [Ev.departBus_yard]
    exact Ev.takeOut_agrees h hb hv
  all_goals exact Ev.takeOut_agrees h hb hv

theorem Ev.gateIn_agrees {level : Option Nat} (h : e.yard.Agrees L) (hb : b ∉ L) (hv : (e.bus b).valid = true) :
    (e.gateIn b level).yard.Agrees L := by
  unfold Ev.gateIn
  split
  next hp => exact Ev.arrive_agrees (h.loosen hb (Ev.home_eq_some.2 ⟨hv, hp⟩) rfl)
  next => exact Ev.reappear_agrees h hb hv

/-- A bus outside every collection changes to another place that names none. -/
theorem Ev.setPlace_agrees_of_outside {p : Place} (h : e.yard.Agrees L) (hb : b ∉ L) (hv : (e.bus b).valid = true)
    (ho : (e.bus b).place.outside = true) (hp : p.outside = true) : (e.setPlace b p).yard.Agrees L := by
  rw [Ev.setPlace_yard]
  exact (h.loosen hb (Ev.home_eq_some.2 ⟨hv, rfl⟩) ho).setHome_outside hp

theorem Ev.gateOutParked_agrees {l : Nat} (h : e.yard.Agrees L) (hb : b ∉ L) (hv : (e.bus b).valid = true)
    (hp : (e.bus b).place = .parked l) : (e.gateOutParked b l).yard.Agrees L := by
  have hout := Ev.removeFromLane_agrees h (hp ▸ Ev.standing_place h hb hv (by rw [hp]; rfl))
  rw [Ev.gateOutParked, Ev.send_yard, Ev.setPlace_yard, Ev.unbind_yard, Ev.departParked_yard, Ev.ite_yard, Ev.markUncertain_yard, ite_self]
  exact hout.setHome_outside rfl

/-- A gate-out read (R13 to R15). -/
theorem Ev.gateOut_agrees (h : e.yard.Agrees L) (hb : b ∉ L) (hv : (e.bus b).valid = true) : (e.gateOut b).yard.Agrees L := by
  have hother : (e.gateOutOther b).yard.Agrees L := by
    rw [Ev.gateOutOther, Ev.send_yard, Ev.setPlace_yard, Ev.unbind_yard, Ev.departBus_yard]
    exact (Ev.takeOut_agrees h hb hv).setHome_outside rfl
  unfold Ev.gateOut
  cases hp : (e.bus b).place with
  | leaving =>
    dsimp only
    rw [Ev.gateOutLeaving, Ev.unbind_yard, Ev.departByRead_yard]
    exact Ev.setPlace_agrees_of_outside h hb hv (by rw [hp]; rfl) rfl
  | parked l => exact Ev.gateOutParked_agrees h hb hv hp
  | out =>
    dsimp only
    rwa [Ev.gateOutOut, Ev.send_yard, Ev.setBus_yard_same _ _ _ (by rfl)]
  | fuelWait | fuelBay d | washWait | wash w | hold | directed l | lost => exact hother

/-- The record a tag finds is valid (R4). -/
theorem State.valid_of_findTag {s : State} {code : Nat} (h : s.findTag code = some b) : (s.bus b).valid = true := by
  unfold State.findTag at h
  split at h
  · exact absurd h (by simp)
  · have hfound := List.find?_some h
    simp_all

theorem Ev.takeTag_agrees {source code : Nat} {role : Role} {level : Option Nat} (h : e.yard.Agrees []) :
    (e.takeTag source role code level).yard.Agrees [] := by
  unfold Ev.takeTag
  split
  next => rwa [Ev.stranger, Ev.send_yard]
  next b hb =>
    have hv := State.valid_of_findTag hb
    split
    · exact Ev.gateIn_agrees h List.not_mem_nil hv
    · exact Ev.gateOut_agrees h List.not_mem_nil hv
    all_goals exact h

/-- The leaving timeout of a bus (R16). -/
theorem Ev.leavingExpires_agrees (h : e.yard.Agrees []) (hdue : e.leavingDue b = true) : (e.leavingExpires b).yard.Agrees [] := by
  have hleaving : (e.bus b).valid = true ∧ (e.bus b).place = .leaving := by
    unfold State.leavingDue at hdue
    simp_all
  rw [Ev.leavingExpires, Ev.unbind_yard, Ev.departBus_yard]
  exact Ev.setPlace_agrees_of_outside h List.not_mem_nil hleaving.1 (by rw [hleaving.2]; rfl) rfl

/-- Day-start processing moves no bus (R17). -/
@[simp] theorem Ev.dayStart_yard (e : Ev) : e.dayStart.yard = e.yard := by
  have hhome : (fun b => (e.dayStart.bus b).home) = fun b => (e.bus b).home := by
    funext b
    simp only [Ev.dayStart, State.bus, tget_tmap]
    split
    · split <;> rfl
    next hb => rw [tget_outside _ hb]
  have hrest : e.dayStart.yard = { e.yard with home := fun b => (e.dayStart.bus b).home } := rfl
  rw [hrest, hhome]
  rfl

end
end Sys2Proof.Machine

namespace Sys2Proof.Machine

/-! ### Outcomes -/

section
variable {e : Ev}

/-- A failed direction brings its bus back to the hold list (R30). -/
theorem Ev.directionOutcome_agrees {ticket : Nat} {r : Result3} (h : e.yard.Agrees []) : (e.directionOutcome ticket r).yard.Agrees [] := by
  unfold Ev.directionOutcome
  split
  next d hd =>
    split
    · exact h
    · exact Ev.joinHold_agrees (Ev.leaveDirection_agrees h (List.mem_of_find?_eq_some hd))
  next => exact h

@[simp] theorem Ev.proceedDone_yard (e : Ev) (l d : Nat) (r : ReleaseRec) : (e.proceedDone l d r).yard = e.yard := by
  simp [Ev.proceedDone]

@[simp] theorem Ev.proceedFailed_yard (e : Ev) (l d : Nat) : (e.proceedFailed l d).yard = e.yard := by
  simp [Ev.proceedFailed]

@[simp] theorem Ev.releaseOutcome_yard (e : Ev) (l ticket : Nat) (r : Result3) : (e.releaseOutcome l ticket r).yard = e.yard := by
  unfold Ev.releaseOutcome
  (repeat' split) <;> simp

@[simp] theorem Ev.stopOutcome_yard (e : Ev) (l ticket : Nat) (r : Result3) : (e.stopOutcome l ticket r).yard = e.yard := by
  unfold Ev.stopOutcome
  (repeat' split) <;> simp

/-- One outcome delivered (R173). -/
theorem Ev.deliver_agrees {x : Decided} (h : e.yard.Agrees []) : (e.deliver x).yard.Agrees [] := by
  unfold Ev.deliver
  dsimp only
  generalize hm : e.countOutcome x.result = m
  replace h : m.yard.Agrees [] := by rwa [← hm, Ev.countOutcome, Ev.ite_yard, Ev.count_yard, ite_self]
  split
  · exact Ev.directionOutcome_agrees h
  · unfold Ev.bayCallOutcome
    split
    · exact Ev.baySignalFailed_agrees h
    · exact h
  · unfold Ev.grantOutcome
    split
    · split
      · rwa [Ev.grantDone_yard h]
      · exact Ev.grantFailed_agrees h
    · exact h
  · unfold Ev.washCallOutcome
    split
    · exact Ev.washSignalFailed_agrees h
    · exact h
  · unfold Ev.washGoOutcome
    split
    · exact Ev.washAbort_agrees h
    · exact h
  · rwa [Ev.releaseOutcome_yard]
  · rwa [Ev.stopOutcome_yard]
  · rwa [Ev.forwardOutcome, Ev.send_yard]
  all_goals exact h

theorem Ev.drainFor_agrees : ∀ (n : Nat) {e : Ev}, e.yard.Agrees [] → (e.drainFor n).yard.Agrees []
  | 0, _, h => h
  | n + 1, e, h => by
    unfold Ev.drainFor
    split
    · exact h
    · exact Ev.drainFor_agrees n (Ev.deliver_agrees h)

theorem Ev.drain_agrees (h : e.yard.Agrees []) : e.drain.yard.Agrees [] := Ev.drainFor_agrees drainBound h

/-! ### Detectors -/

theorem Ev.tellOccupied_agrees {c : Nat} (h : e.yard.Agrees []) : (e.tellOccupied c).yard.Agrees [] := by
  unfold Ev.tellOccupied
  split
  · exact Ev.foldl_agrees Ev.bayOccupied (fun _ _ => Ev.bayOccupied_agrees) _ e h
  · exact h

theorem Ev.tellVacant_agrees {c : Nat} {accepted : Bool} (h : e.yard.Agrees []) : (e.tellVacant c accepted).yard.Agrees [] := by
  unfold Ev.tellVacant
  split
  · exact Ev.foldl_agrees Ev.bayVacant (fun _ _ => Ev.bayVacant_agrees) _ e h
  · split
    · exact Ev.passage_agrees h
    · exact h

theorem Ev.tellFault_agrees {before : State} {c : Nat} (h : e.yard.Agrees []) : (e.tellFault before c).yard.Agrees [] := by
  replace h : (e.comparePermissions before).yard.Agrees [] := by rwa [Ev.comparePermissions_yard]
  unfold Ev.tellFault
  dsimp only
  split
  · split
    · exact Ev.foldl_agrees Ev.bayFaulted (fun _ _ => Ev.bayFaulted_agrees) _ _ h
    · exact Ev.foldl_agrees Ev.bayRecovered (fun _ _ => Ev.bayRecovered_agrees) _ _ h
  · exact h

/-- A change of a channel's accepted state delivered (R146). -/
theorem Ev.tellChannel_agrees {before : State} {c : Nat} {accepted : Bool} (h : e.yard.Agrees []) :
    (e.tellChannel before c accepted).yard.Agrees [] := by
  unfold Ev.tellChannel
  split
  · exact Ev.tellOccupied_agrees h
  · exact Ev.tellVacant_agrees h
  case h_3 | h_4 | h_5 | h_6 => exact Ev.tellFault_agrees h
  all_goals exact h

theorem Ev.restartChannels_agrees (h : e.yard.Agrees []) : e.restartChannels.yard.Agrees [] :=
  Ev.foldl_agrees Ev.restartChannel (fun _ _ h => Ev.tellChannel_agrees h) _ e h

/-- A reading delivered to a channel (R138). -/
theorem Ev.takeReading_agrees {c v : Nat} (h : e.yard.Agrees []) : (e.takeReading c v).yard.Agrees [] := by
  have hfaulted : (e.readFaulted c v).yard.Agrees [] := by
    unfold Ev.readFaulted
    dsimp only
    split
    · exact h
    · split
      · refine Ev.tellChannel_agrees ?_
        rwa [Ev.send_yard]
      · exact h
  have hgood : (if badReading v then e.faultChannel c v
      else (e.setChannel c ((e.channel c).gather v)).tellChannel e.toState c true).yard.Agrees [] := by
    split
    · refine Ev.tellChannel_agrees ?_
      rwa [Ev.send_yard]
    · exact Ev.tellChannel_agrees h
  unfold Ev.takeReading
  split
  · exact hfaulted
  · exact hgood
  · exact hgood

theorem Ev.takeSample_agrees {node : Nat} : ∀ (vs : List Nat) {input : Nat} {e : Ev}, e.yard.Agrees [] →
    (e.takeSample node input vs).yard.Agrees []
  | [], _, _, h => h
  | v :: vs, input, e, h => by
    unfold Ev.takeSample
    refine Ev.takeSample_agrees vs ?_
    split
    · exact h
    · split
      · exact Ev.drain_agrees (Ev.takeReading_agrees h)
      · exact h

/-! ### Passes -/

theorem Ev.rerunOver_agrees : ∀ (bs : List Nat) {e : Ev}, e.yard.Agrees [] → (e.rerunOver bs).yard.Agrees []
  | [], _, h => h
  | b :: bs, e, h => by
    unfold Ev.rerunOver
    split
    · exact h
    · refine Ev.rerunOver_agrees bs ?_
      split
      · exact h
      next hb =>
        have hheld : b ∉ e.heldBack ∧ b ∈ e.holdList := by simpa using hb
        exact Ev.drain_agrees (Ev.attempt_agrees (.inr ⟨h, hheld.2⟩))

/-- The entry called waits, and its dispenser is free (R67). -/
theorem State.nextFuelCall_spec {s : State} {x : FuelEntry × Nat} :
    ∀ {q : List FuelEntry}, s.nextFuelCall q = some x → x.1 ∈ q ∧ x.2 < 6 ∧ (s.dispenser x.2).state = .free
  | [], h => by simp [State.nextFuelCall] at h
  | y :: ys, h => by
    unfold State.nextFuelCall at h
    split at h
    next d hd =>
      cases h
      split at hd
      · have hcallable := List.find?_some hd
        have hmem := (mem_indices _ _).1 (List.mem_of_find?_eq_some hd)
        unfold State.dispenserCallable at hcallable
        refine ⟨List.mem_cons_self, hmem, ?_⟩
        simp_all
      · simp at hd
    next =>
      obtain ⟨hmem, hrest⟩ := State.nextFuelCall_spec h
      exact ⟨List.mem_cons_of_mem y hmem, hrest⟩

theorem Ev.fuelCalls_agrees : ∀ (n : Nat) {e : Ev}, e.yard.Agrees [] → (e.fuelCalls n).yard.Agrees []
  | 0, _, h => h
  | n + 1, e, h => by
    unfold Ev.fuelCalls
    split
    next x hx =>
      obtain ⟨hmem, hd, hfree⟩ := State.nextFuelCall_spec hx
      have hvacant := Ev.occupant_of_not_inTurn h (d := x.2) (by simp [hfree, DispenserState.inTurn])
      refine Ev.fuelCalls_agrees n ?_
      rw [Ev.lowerTurns_yard]
      exact Ev.drain_agrees (Ev.callFuel_agrees h hmem hd hvacant)
    next => exact h

/-- The entry called waits, and its wash lane is ready (R93). -/
theorem Ev.nextWashCall_spec {x : WashEntry × Nat} :
    ∀ {q : List WashEntry}, e.nextWashCall q = some x → x.1 ∈ q ∧ x.2 < 2 ∧ (e.washLane x.2).state = .ready
  | [], h => by simp [Ev.nextWashCall] at h
  | y :: ys, h => by
    unfold Ev.nextWashCall at h
    split at h
    next w hw =>
      cases h
      split at hw
      · simp at hw
      · have hcallable := List.find?_some hw
        have hmem := (mem_indices _ _).1 (List.mem_of_find?_eq_some hw)
        unfold State.washCallable at hcallable
        refine ⟨List.mem_cons_self, hmem, ?_⟩
        simp_all
    next =>
      obtain ⟨hmem, hrest⟩ := Ev.nextWashCall_spec h
      exact ⟨List.mem_cons_of_mem y hmem, hrest⟩

theorem Ev.washCalls_agrees : ∀ (n : Nat) {e : Ev}, e.yard.Agrees [] → (e.washCalls n).yard.Agrees []
  | 0, _, h => h
  | n + 1, e, h => by
    unfold Ev.washCalls
    split
    next x hx =>
      obtain ⟨hmem, hw, hready⟩ := Ev.nextWashCall_spec hx
      have hvacant := Ev.occupant_of_unoccupied h (w := x.2) (by simp [hready, WashLaneRec.occupied])
      exact Ev.washCalls_agrees n (Ev.drain_agrees (Ev.callWash_agrees h hmem hw hvacant))
    next => exact h

theorem Ev.pullPass_agrees (h : e.yard.Agrees []) : e.pullPass.yard.Agrees [] := by
  refine Ev.foldl_agrees _ (fun e d h => Ev.drain_agrees (by rwa [Ev.takeDue_yard])) _ _ (Ev.drain_agrees ?_)
  rwa [Ev.foldl_yard _ _ _ Ev.testDuty_yard]

theorem Ev.runPass_agrees (h : e.yard.Agrees []) : ∀ p : Pass, (e.runPass p).yard.Agrees []
  | .rerun => Ev.rerunOver_agrees _ h
  | .fuel => Ev.fuelCalls_agrees 6 h
  | .wash => Ev.washCalls_agrees 2 h
  | .pull => Ev.pullPass_agrees h

theorem Ev.makePass_agrees {ps : List Pass} (h : e.yard.Agrees []) : (e.makePass ps).yard.Agrees [] := by
  unfold Ev.makePass
  split
  · exact h
  · exact Ev.runPass_agrees h _
  · unfold Ev.choosePass
    split
    next p _ => exact Ev.runPass_agrees (e := { e with choice := e.choice + 1 }) h p
    next => exact h

end
end Sys2Proof.Machine

namespace Sys2Proof.Machine

/-! ### Timers -/

section
variable {e : Ev} {L : List Nat}

/-- The expiry of a direction on the list (R32). -/
theorem Ev.directionExpires_agrees {d : Direction} (h : e.yard.Agrees L) (hd : d ∈ e.laneMap.directions) :
    (e.directionExpires d).yard.Agrees L := by
  rw [Ev.directionExpires, Ev.send_yard, Ev.count_yard]
  exact Ev.loseDirected_agrees h hd

@[simp] theorem Ev.releaseTimesOut_yard (e : Ev) (l : Nat) : (e.releaseTimesOut l).yard = e.yard := by
  unfold Ev.releaseTimesOut
  split <;> simp

theorem Ev.takeIf_agrees {due : Bool} {f : Ev → Ev} (h : e.yard.Agrees []) (hf : due = true → (f e).yard.Agrees []) :
    (e.takeIf due f).yard.Agrees [] := by
  unfold Ev.takeIf
  split
  next hdue => exact Ev.drain_agrees (hf hdue)
  next => exact h

/-- The timeouts that passed in CONFIGURE (R205). -/
theorem Ev.takeOverdue_agrees (h : e.yard.Agrees []) : e.takeOverdue.yard.Agrees [] := by
  unfold Ev.takeOverdue
  extract_lets left called docked deferred washCalled cycled
  have hleft : left.yard.Agrees [] :=
    Ev.foldl_agrees (fun e b => e.takeIf (e.leavingDue b) (·.leavingExpires b))
      (fun _ _ h => Ev.takeIf_agrees h fun hdue => Ev.leavingExpires_agrees h hdue) _ _ h
  have hcalled : called.yard.Agrees [] :=
    Ev.foldl_agrees (fun e d => e.takeIf (e.callDue d) (·.callTimedOut d))
      (fun _ _ h => Ev.takeIf_agrees h fun _ => Ev.callTimedOut_agrees h) _ _ hleft
  have hdocked : docked.yard.Agrees [] :=
    Ev.foldl_agrees (fun e d => e.takeIf (e.dockingDue d) (·.dockingTimedOut d))
      (fun _ _ h => Ev.takeIf_agrees h fun _ => Ev.dockingTimedOut_agrees h) _ _ hcalled
  have hdeferred : deferred.yard.Agrees [] :=
    Ev.foldl_agrees (fun e b => e.takeIf (e.deferralDue b) (·.deferralEnds b))
      (fun e b h => Ev.takeIf_agrees h fun _ => (e.deferralEnds_yard b).symm ▸ h) _ _ hdocked
  have hwashCalled : washCalled.yard.Agrees [] :=
    Ev.foldl_agrees (fun e w => e.takeIf (e.washCallDue w) (·.washCallTimedOut w))
      (fun _ _ h => Ev.takeIf_agrees h fun _ => Ev.washCallTimedOut_agrees h) _ _ hdeferred
  have hcycled : cycled.yard.Agrees [] :=
    Ev.foldl_agrees (fun e w => e.takeIf (e.cycleDue w) (·.washAbort w .timeout))
      (fun _ _ h => Ev.takeIf_agrees h fun _ => Ev.washAbort_agrees h) _ _ hwashCalled
  exact Ev.foldl_agrees (fun e w => e.takeIf (e.clearingDue w) (·.washCleared w))
    (fun _ _ h => Ev.takeIf_agrees h fun hdue => Ev.washCleared_agrees h hdue) _ _ hcycled

@[simp] theorem Ev.minuteTick_yard (e : Ev) : e.minuteTick.yard = e.yard := by
  unfold Ev.minuteTick
  rw [Ev.triggerPull_yard]
  split
  · exact Ev.dayStart_yard _
  · rfl

@[simp] theorem Ev.yardTick_yard (e : Ev) : e.yardTick.yard = e.yard := by
  unfold Ev.yardTick
  dsimp only
  split
  · split
    · exact Ev.minuteTick_yard _
    · rfl
  · rfl

/-! ### Modes -/

/-- Every pending direction is cancelled: its bus goes to the hold list (R33). -/
theorem Ev.cancelDirections_agrees (h : e.yard.Agrees L) : e.cancelDirections.yard.Agrees L := by
  have hout := h.empty_directions
  rw [State.yard_directions, List.map_map] at hout
  exact Ev.foldl_hands_on _ Direction.bus (fun _ _ _ => Ev.joinHold_agrees) _ _ L hout

/-- The hold list is emptied: its buses become LOST (R49). -/
theorem Ev.emptyHold_agrees (h : e.yard.Agrees L) : e.emptyHold.yard.Agrees L := by
  refine Ev.foldl_hands_on _ id (fun m b L hm => ?_) _ _ L (by simpa using h.empty_hold)
  rw [Ev.setPlace_yard]
  exact hm.setHome_outside rfl

theorem Ev.settleTurns_agrees (h : e.yard.Agrees L) : e.settleTurns.yard.Agrees L := by
  rw [Ev.settleTurns, Ev.clearReleases_yard]
  exact Ev.settleWash_agrees (Ev.settleFuel_agrees h)

/-- Entry to CONFIGURE (R205). -/
theorem Ev.enterConfigure_agrees (h : e.yard.Agrees L) : e.enterConfigure.yard.Agrees L := by
  rw [Ev.enterConfigure, Ev.restoreNodes_yard, Ev.clearCommands_yard, Ev.ite_yard, Ev.closeWindow_yard, ite_self]
  exact Ev.settleTurns_agrees (Ev.emptyHold_agrees (Ev.cancelDirections_agrees h))

/-- Entry to RUN or SHADOW (R205, R206). -/
theorem Ev.enterWatch_agrees {old : Mode} {stop : Bool} (h : e.yard.Agrees []) : (e.enterWatch old stop).yard.Agrees [] := by
  unfold Ev.enterWatch
  extract_lets restarted stopped overtaken
  have hrestarted : restarted.yard.Agrees [] := by
    simp only [restarted]
    split
    · exact Ev.restartChannels_agrees h
    · exact h
  have hstopped : stopped.yard.Agrees [] := by
    simp only [stopped]
    rwa [Ev.ite_yard, Ev.allStop_yard, ite_self]
  have hovertaken : overtaken.yard.Agrees [] := by
    simp only [overtaken]
    split
    · exact Ev.takeOverdue_agrees hstopped
    · exact hstopped
  exact hovertaken

theorem Ev.turnTo_agrees {m : Mode} (h : e.yard.Agrees []) : (e.turnTo m).yard.Agrees [] := by
  unfold Ev.turnTo
  dsimp only
  generalize hk : Ev.send _ _ = k
  replace h : k.yard.Agrees [] := by rwa [← hk, Ev.send_yard]
  split
  · exact Ev.enterConfigure_agrees h
  · exact Ev.enterWatch_agrees h
  · refine Ev.enterWatch_agrees ?_
    rwa [Ev.ite_yard, Ev.finishInShadow_yard, ite_self]
  · exact h

theorem Ev.enterMode_agrees {m : Mode} (h : e.yard.Agrees []) : (e.enterMode m).yard.Agrees [] :=
  Ev.turnTo_agrees (e := { e with office.pendingMode := none }) h

@[simp] theorem Ev.endPending_yard (e : Ev) : e.endPending.yard = e.yard := rfl

theorem Ev.takePending_agrees (h : e.yard.Agrees []) : e.takePending.yard.Agrees [] := by
  unfold Ev.takePending
  split
  · split
    · unfold Ev.changeTakesEffect
      split
      · rwa [Ev.send_yard]
      · exact Ev.enterMode_agrees h
    · exact h
  · exact h

/-! ### The end of an event and the warm restart -/

theorem Ev.settleFor_agrees : ∀ (n : Nat) {e : Ev}, e.yard.Agrees [] → (e.settleFor n).yard.Agrees []
  | 0, _, h => h
  | n + 1, e, h => by
    have hround := Ev.deriveWaiver_agrees (Ev.takePending_agrees (Ev.drain_agrees h))
    unfold Ev.settleFor
    dsimp only
    split
    · split
      · exact hround
      · exact Ev.settleFor_agrees n (Ev.makePass_agrees hround)
    · exact Ev.settleFor_agrees n hround

theorem Ev.settle_agrees (h : e.yard.Agrees []) : e.settle.yard.Agrees [] := Ev.settleFor_agrees settleBound h

@[simp] theorem Ev.restartCommands_yard (e : Ev) : e.restartCommands.yard = e.yard := by
  unfold Ev.restartCommands
  dsimp only
  split <;> simp

@[simp] theorem Ev.restartTriggers_yard (e : Ev) : e.restartTriggers.yard = e.yard := by
  unfold Ev.restartTriggers
  dsimp only
  split <;> rfl

/-- The warm restart (R207). -/
theorem Ev.warmRestart_agrees (h : e.yard.Agrees []) : e.warmRestart.yard.Agrees [] := by
  unfold Ev.warmRestart
  extract_lets closed quiet settled triggered
  have hclosed : closed.yard.Agrees [] := by
    simp only [closed]
    rwa [Ev.closeWindow_yard]
  have hquiet : quiet.yard.Agrees [] := by
    simp only [quiet]
    show closed.restartCommands.yard.Agrees []
    rwa [Ev.restartCommands_yard]
  have hsettled : settled.yard.Agrees [] := Ev.restartChannels_agrees (Ev.settleTurns_agrees (Ev.cancelDirections_agrees hquiet))
  have htriggered : triggered.yard.Agrees [] := by
    simp only [triggered]
    rwa [Ev.restartTriggers_yard]
  rwa [Ev.send_yard]

end
end Sys2Proof.Machine

namespace Sys2Proof.Machine

/-! ### Records loaded -/

theorem firstRefusal_eq_none {cs : List (Bool × ResultCode)} : firstRefusal cs = none ↔ ∀ c ∈ cs, c.1 = false := by
  induction cs with
  | nil => simp [firstRefusal]
  | cons c cs ih =>
    obtain ⟨bad, r⟩ := c
    cases bad <;> simp [firstRefusal, ih]

section
variable {e : Ev} {i : Nat} {p : List Byte}

/-- The withdrawn bus of an index is loose (R5). -/
theorem Ev.withdraw_agrees (h : e.yard.Agrees []) (hv : (e.bus i).valid = true) : (e.withdraw i).yard.Agrees [i] := by
  rw [Ev.withdraw, Ev.clearPins_yard, Ev.unbind_yard]
  split
  · rw [Ev.markUncertain_yard]
    exact Ev.takeOut_agrees h List.not_mem_nil hv
  all_goals exact Ev.takeOut_agrees h List.not_mem_nil hv

theorem busOf_home_outside {now : Nat} {q : Place} (h : (busOf p now).home = some q) : q.outside = true := by
  rw [← (BusRec.home_eq_some.1 h).2]
  rfl

/-- A bus record loaded (R5). -/
theorem Ev.writeBus_agrees (h : e.yard.Agrees []) : (e.writeBus i p).yard.Agrees [] := by
  unfold Ev.writeBus
  by_cases hi : i < 256
  · rw [Ev.setBus_yard _ _ hi]
    split
    next hv =>
      have hout := (Ev.withdraw_agrees h hv).setHome_outside (p := .out) rfl
      have hwritten := hout.rehome_outside (b := i) (x := (busOf p (e.withdraw i).now).home) List.not_mem_nil
        (fun q hq => by simp [Yard.setHome] at hq; rw [← hq.2]; rfl) fun _ => busOf_home_outside
      simpa [Yard.setHome] using hwritten
    next hv =>
      exact h.rehome_outside List.not_mem_nil (fun q hq => absurd (BusRec.home_eq_some.1 hq).1 hv) fun _ => busOf_home_outside
  · rwa [Ev.setBus_yard_outside _ _ hi, if_neg (by simp [e.bus_outside (by omega : 256 ≤ i)])]

/-- A lane record loaded: the lane is not in use, and so it is empty (R21). -/
theorem Ev.writeLane_yard (hc : e.checkLane i p = none) : (e.writeLane i p).yard = e.yard := by
  have hunused : e.laneInUse i = false := firstRefusal_eq_none.1 hc (e.laneInUse i, .conflict) (by simp)
  have hempty : (laneOf p).contents = (e.lane i).contents := by
    have hnone : (e.lane i).contents = [] := by
      unfold State.laneInUse at hunused
      simp_all
    rw [hnone]
    rfl
  have hset := e.setLane_yard_same i (laneOf p) hempty
  unfold Ev.writeLane
  dsimp only
  split <;> simpa using hset

@[simp] theorem Ev.writeNode_yard (e : Ev) (i : Nat) (p : List Byte) : (e.writeNode i p).yard = e.yard := by
  simp [Ev.writeNode]

/-- A dispenser record loaded: the dispenser serves no turn, and so it is empty (R64). -/
theorem Ev.writeDispenser_yard (h : e.yard.Agrees []) (hc : e.checkDispenser i p = none) : (e.writeDispenser i p).yard = e.yard := by
  have hidle : (e.dispenser i).state.inTurn = false := firstRefusal_eq_none.1 hc ((e.dispenser i).state.inTurn, .conflict) (by simp)
  have hvacant := Ev.occupant_of_not_inTurn h hidle
  have hset := Ev.setDispenser_yard_vacant (r := dispenserOf p e.now) hvacant rfl
  unfold Ev.writeDispenser
  dsimp only
  split
  · rw [Ev.enterClearing_yard_vacant (Ev.dispenser_setDispenser_vacant hvacant rfl), hset]
  · exact hset

/-- A wash-lane record loaded: the lane is unoccupied, and so it is empty (R90). -/
theorem Ev.writeWashLane_yard (h : e.yard.Agrees []) (hc : e.checkWashLane i p = none) : (e.writeWashLane i p).yard = e.yard := by
  have hidle : (e.washLane i).occupied = false := firstRefusal_eq_none.1 hc ((e.washLane i).occupied, .conflict) (by simp)
  have hvacant : ((e.setFaultScore i 0).washLane i).occupant = none := by
    rw [← WashLaneRec.seat_eq_none]
    have hseat := congrArg (fun y => y.washBay i) (e.setFaultScore_yard i 0)
    exact hseat.trans (WashLaneRec.seat_eq_none.2 (Ev.occupant_of_unoccupied h hidle))
  have hset := Ev.setWashLane_yard_vacant (r := washLaneOf p e.now) hvacant rfl
  rw [Ev.setFaultScore_yard] at hset
  unfold Ev.writeWashLane
  dsimp only
  split
  · rw [Ev.enterReady_yard_vacant (Ev.washLane_setWashLane_vacant hvacant rfl)]
    exact hset
  · exact hset

@[simp] theorem Ev.writeParams_yard (e : Ev) (p : Params) : (e.writeParams p).yard = e.yard := by
  unfold Ev.writeParams
  dsimp only
  split
  · rw [Ev.triggerRerun_yard, Ev.deriveReserve_yard]
    rfl
  · rw [Ev.deriveReserve_yard]
    rfl

/-- An accepted record of any table (R203). -/
theorem Ev.writeRecord_agrees {t : Table} (h : e.yard.Agrees []) (hc : e.checkRecord t i p = none) :
    (e.writeRecord t i p).yard.Agrees [] := by
  cases t with
  | roster => exact Ev.writeBus_agrees h
  | classes | schedule | groupHash => exact h
  | lanes => exact (Ev.writeLane_yard hc).symm ▸ h
  | nodes => exact (e.writeNode_yard i p).symm ▸ h
  | channels => exact Ev.tellChannel_agrees h
  | dispensers => exact (Ev.writeDispenser_yard h hc).symm ▸ h
  | washLanes => exact (Ev.writeWashLane_yard h hc).symm ▸ h
  | parameters => exact (e.writeParams_yard (paramsOf p)).symm ▸ h

end

/-- The records of a LOAD RECORDS (R203). -/
theorem Ev.loadEach_agrees {t : Table} : ∀ (ps : List (List Byte)) {e : Ev} {i : Nat} {tally : LoadTally}, e.yard.Agrees [] →
    (e.loadEach t i tally ps).1.yard.Agrees []
  | [], _, _, _, h => h
  | p :: ps, e, i, tally, h => by
    unfold Ev.loadEach
    split
    next hc => exact Ev.loadEach_agrees ps (Ev.drain_agrees (Ev.writeRecord_agrees h hc))
    next => exact Ev.loadEach_agrees ps h

@[simp] theorem Ev.advanceWindow_yard (e : Ev) (w : Window) (n : Nat) : (e.advanceWindow w n).yard = e.yard := by
  unfold Ev.advanceWindow
  dsimp only
  split
  · rw [Ev.closeWindow_yard]
    rfl
  · rfl

/-! ### The office's corrections to lanes -/

section
variable {e : Ev} {l : Nat}

theorem insertAt_perm {α : Type} (x : α) : ∀ (n : Nat) (xs : List α), (insertAt x n xs).Perm (x :: xs)
  | 0, _ => .refl _
  | _ + 1, [] => .refl _
  | n + 1, y :: ys => ((insertAt_perm x n ys).cons y).trans (.swap x y ys)

theorem perm_cons_removeAt {α : Type} {x : α} : ∀ {n : Nat} {xs : List α}, xs[n]? = some x → xs.Perm (x :: removeAt n xs)
  | 0, y :: ys, h => by simp at h; simp [h, removeAt]
  | n + 1, y :: ys, h => ((perm_cons_removeAt (xs := ys) (by simpa using h)).cons y).trans (.swap x y _)

theorem removeAt_of_none {α : Type} : ∀ {n : Nat} {xs : List α}, xs[n]? = none → removeAt n xs = xs
  | n, [], _ => by cases n <;> rfl
  | 0, y :: ys, h => by simp at h
  | n + 1, y :: ys, h => by rw [removeAt, removeAt_of_none (by simpa using h)]

theorem State.lane_lt {s : State} (h : (s.lane l).valid = true) : l < 32 := by
  refine Decidable.byContradiction fun hl => ?_
  rw [State.lane, tget_outside _ hl] at h
  exact absurd h (by decide)

@[simp] theorem Ev.clearUncertain_yard (e : Ev) (l : Nat) : (e.setLane l { e.lane l with uncertain := false }).yard = e.yard :=
  e.setLane_yard_same l _ rfl

/-- PLACE BUS of an accepted entry (R41). -/
theorem Ev.placeEntry_agrees {position : Nat} {x : LaneEntry} (h : e.yard.Agrees []) (hl : l < 32) (hx : e.placeable x = true)
    (hfree : e.placedElsewhere x = false) : (e.placeEntry l position x).yard.Agrees [] := by
  unfold Ev.placeEntry
  dsimp only
  rw [Ev.clearUncertain_yard, Ev.changeContents_yard fun _ => .inl hl]
  have hperm := insertAt_perm x (min position (e.lane l).contents.length) (e.lane l).contents
  cases x with
  | placeholder => exact h.setContents_placeholders fun c => by simp [hperm.count_eq]
  | bus b =>
    have hv : (e.bus b).valid = true := hx
    have hloose : (if (e.bus b).place = .hold then e.leaveHold b else e).yard.Agrees [b] := by
      split
      next hp => exact Ev.leaveHold_agrees h (Yard.mem_hold (hp ▸ Ev.standing_place h List.not_mem_nil hv (by rw [hp]; rfl)))
      next hp =>
        refine h.loosen List.not_mem_nil (Ev.home_eq_some.2 ⟨hv, rfl⟩) ?_
        cases hplace : (e.bus b).place <;> simp_all [State.placedElsewhere, Place.outside]
    have hcontents : (if (e.bus b).place = .hold then e.leaveHold b else e).yard.contents l = (e.lane l).contents := by split <;> rfl
    rw [Ev.parkPlaced, Ev.setPlace_yard]
    exact hloose.seat (Yard.gains_contents (by rwa [hcontents]))

/-- REMOVE BUS (R42). -/
theorem Ev.removeEntry_agrees {position : Nat} (h : e.yard.Agrees []) : (e.removeEntry l position).yard.Agrees [] := by
  have hempty (hc : (e.lane l).contents = []) : l < 32 ∨ removeAt position (e.lane l).contents = [] := .inr (by rw [hc]; cases position <;> rfl)
  unfold Ev.removeEntry
  dsimp only
  rw [Ev.clearUncertain_yard]
  cases hx : (e.lane l).contents[position]? with
  | none =>
    rw [Ev.loseRemoved, Ev.changeContents_yard hempty, removeAt_of_none hx]
    exact h.setContents_placeholders fun _ => rfl
  | some x =>
    have hperm := perm_cons_removeAt hx
    cases x with
    | placeholder =>
      rw [Ev.loseRemoved, Ev.changeContents_yard hempty]
      exact h.setContents_placeholders fun c => by simp [hperm.count_eq]
    | bus b =>
      rw [Ev.loseRemoved, Ev.changeContents_yard (by exact hempty), Ev.setPlace_yard]
      exact (h.leave_contents hperm).setHome_outside rfl

end
end Sys2Proof.Machine

namespace Sys2Proof.Machine

/-! ### How a command acts on the yard -/

section
variable {s t : State}

theorem State.event_agrees {f : Ev → Ev} (ht : s.event f = .next t) (hf : (f s.begin).yard.Agrees []) : t.yard.Agrees [] := by
  cases ht
  exact Ev.settle_agrees hf

theorem State.eventIf_agrees {occurs : Bool} {f : Ev → Ev} (ht : s.eventIf occurs f = .next t) (h : s.yard.Agrees [])
    (hf : occurs = true → (f s.begin).yard.Agrees []) : t.yard.Agrees [] := by
  unfold State.eventIf at ht
  split at ht
  next hocc => exact State.event_agrees ht (hf hocc)
  next => cases ht; exact h

theorem State.delivery_agrees {α : Type} {read : FieldReport → Option α} {owner : InboxEntry → α → Ev → Ev}
    (ht : s.delivery read owner = .next t) (h : s.yard.Agrees [])
    (hf : ∀ (x : InboxEntry) (a : α) (e : Ev), e.yard.Agrees [] → (owner x a e).yard.Agrees []) : t.yard.Agrees [] := by
  unfold State.delivery at ht
  split at ht
  · cases ht; exact h
  · split at ht
    next x _ _ _ a _ =>
      refine State.event_agrees ht ?_
      unfold Ev.deliverTo
      dsimp only
      split
      · rwa [Ev.relay, Ev.send_yard]
      · exact hf x a { s.begin with field.inbox := s.field.inbox.tail } h
    next => cases ht; exact h

@[simp] theorem State.answer_yard (s : State) (o : Order) (r : ResultCode) (data : List Byte) : (s.answer o r data).yard = s.yard := rfl

theorem State.perform_agrees {o : Order} {f : Ev → Ev} {data : State → List Byte} (hf : (f s.begin).yard.Agrees []) :
    (s.perform o f data).yard.Agrees [] := by
  rw [State.perform, State.answer_yard]
  exact Ev.settle_agrees hf

theorem State.checked_agrees {o : Order} {checks : List (Bool × ResultCode)} {done : State} (h : s.yard.Agrees [])
    (hdone : (∀ c ∈ checks, c.1 = false) → done.yard.Agrees []) : (s.checked o checks done).yard.Agrees [] := by
  unfold State.checked
  split
  · exact h
  next hc => exact hdone (firstRefusal_eq_none.1 hc)

theorem State.order_agrees {code : Byte} {f : Order → State} (ht : s.order code f = .next t) (h : s.yard.Agrees [])
    (hf : ∀ o, (f o).yard.Agrees []) : t.yard.Agrees [] := by
  unfold State.order at ht
  split at ht
  · cases ht; exact hf _
  · cases ht; exact h

/-! ### Deliveries of the field port -/

theorem Ev.tagDelivered_agrees {x : InboxEntry} {r : Nat × Option Nat} {e : Ev} (h : e.yard.Agrees []) :
    (e.tagDelivered x r).yard.Agrees [] := by
  refine Ev.takeTag_agrees ?_
  split
  · exact Ev.enterMode_agrees h
  · exact h

theorem Ev.sampleDelivered_agrees {x : InboxEntry} {r : Nat × List Nat} {e : Ev} (h : e.yard.Agrees []) :
    (e.sampleDelivered x r).yard.Agrees [] := by
  unfold Ev.sampleDelivered
  split
  · exact h
  · exact Ev.takeSample_agrees r.2 h

theorem Ev.healthDelivered_agrees {x : InboxEntry} {ready : Bool} {e : Ev} (h : e.yard.Agrees []) :
    (e.healthDelivered x ready).yard.Agrees [] := by
  replace h : (e.takeHealth x.source ready).yard.Agrees [] := by rwa [Ev.takeHealth_yard]
  unfold Ev.healthDelivered
  dsimp only
  split
  · exact Ev.dispenserHealth_agrees h
  · exact h

@[simp] theorem Ev.quietExpires_yard (e : Ev) : e.quietExpires.yard = e.yard := by
  apply State.yard_congr <;> simp

@[simp] theorem Ev.fieldArrival_yard (e : Ev) (f : Frame) : (e.fieldArrival f).yard = e.yard := by
  apply State.yard_congr <;> simp

@[simp] theorem Ev.transmitted_yard (e : Ev) (tx : FieldTx) : (e.transmitted tx).yard = e.yard := by
  apply State.yard_congr <;> simp

/-! ### The office port -/

@[simp] theorem State.officeArrival_yard (s : State) (f : Frame) : (s.officeArrival f).yard = s.yard := by
  unfold State.officeArrival State.arriveOrder State.makeAnswer
  (repeat' split) <;> rfl

@[simp] theorem State.officeSend_yard (s : State) : s.officeSend.yard = s.yard := by
  unfold State.officeSend
  split <;> rfl

/-! ### The orders -/

theorem Ev.nameMode_agrees {e : Ev} {m : Mode} (h : e.yard.Agrees []) : (e.nameMode m).yard.Agrees [] := by
  have henter : (if m = e.mode then e else e.enterMode m).yard.Agrees [] := by
    split
    · exact h
    · exact Ev.enterMode_agrees h
  unfold Ev.nameMode
  split
  · exact henter
  · exact henter
  all_goals
    split
    · unfold Ev.nameCurrent
      split
      · rwa [Ev.endPending_yard]
      · exact h
    · exact h

theorem State.orderSetMode_agrees (h : s.yard.Agrees []) (o : Order) : (s.orderSetMode o).yard.Agrees [] := by
  unfold State.orderSetMode
  split
  · exact h
  · exact State.checked_agrees h fun _ => State.perform_agrees (Ev.nameMode_agrees h)

theorem State.orderSetClock_agrees (h : s.yard.Agrees []) (o : Order) : (s.orderSetClock o).yard.Agrees [] :=
  State.checked_agrees h fun _ => h

theorem State.orderSetParameter_agrees (h : s.yard.Agrees []) (o : Order) : (s.orderSetParameter o).yard.Agrees [] :=
  State.checked_agrees h fun _ => State.perform_agrees (by rwa [Ev.writeParams_yard])

@[simp] theorem Ev.openWindow_yard (e : Ev) (t : Table) (first stop : Nat) : (e.openWindow t first stop).yard = e.yard := by
  have hschedule : (e.openSchedule first stop).yard = e.yard := by
    rw [Ev.openSchedule, Ev.clearPins_yard, Ev.foldl_yard _ _ _ Ev.unbind_yard]
  unfold Ev.openWindow
  extract_lets opened
  have hopened : opened.yard = e.yard := by
    simp only [opened]
    rw [Ev.ite_yard, hschedule, ite_self]
  exact hopened

theorem State.orderOpenLoad_agrees (h : s.yard.Agrees []) (o : Order) : (s.orderOpenLoad o).yard.Agrees [] := by
  refine State.checked_agrees h fun _ => ?_
  split
  · exact h
  · exact State.checked_agrees h fun _ => State.perform_agrees (by rwa [Ev.openWindow_yard])

theorem State.orderLoadRecords_agrees (h : s.yard.Agrees []) (o : Order) : (s.orderLoadRecords o).yard.Agrees [] := by
  have hload (w : Window) : (s.loadInto o w).yard.Agrees [] := by
    rw [State.loadInto, State.answer_yard]
    refine Ev.settle_agrees ?_
    rw [Ev.advanceWindow_yard]
    exact Ev.loadEach_agrees _ h
  refine State.checked_agrees h fun _ => ?_
  split
  · exact h
  · exact State.checked_agrees h fun _ => hload _

theorem State.orderAbandonLoad_agrees (h : s.yard.Agrees []) (o : Order) : (s.orderAbandonLoad o).yard.Agrees [] :=
  State.checked_agrees h fun _ => State.perform_agrees (by rwa [Ev.closeWindow_yard])

theorem State.orderClearFlags_agrees (h : s.yard.Agrees []) (o : Order) : (s.orderClearFlags o).yard.Agrees [] :=
  State.checked_agrees h fun _ => h

theorem State.orderRestart_agrees (h : s.yard.Agrees []) (o : Order) : (s.orderRestart o).yard.Agrees [] :=
  State.checked_agrees h fun _ => State.perform_agrees (Ev.warmRestart_agrees h)

theorem State.orderReadRecord_agrees (h : s.yard.Agrees []) (o : Order) : (s.orderReadRecord o).yard.Agrees [] := by
  unfold State.orderReadRecord
  split
  · exact h
  · exact State.checked_agrees h fun _ => h

theorem State.orderReadLane_agrees (h : s.yard.Agrees []) (o : Order) : (s.orderReadLane o).yard.Agrees [] :=
  State.checked_agrees h fun _ => h

theorem State.orderReadQueue_agrees (h : s.yard.Agrees []) (o : Order) : (s.orderReadQueue o).yard.Agrees [] := by
  unfold State.orderReadQueue
  split <;> exact h

theorem State.orderReadStatistic_agrees (h : s.yard.Agrees []) (o : Order) : (s.orderReadStatistic o).yard.Agrees [] :=
  State.checked_agrees h fun _ => h

theorem State.orderDecrementStatistic_agrees (h : s.yard.Agrees []) (o : Order) : (s.orderDecrementStatistic o).yard.Agrees [] :=
  State.checked_agrees h fun _ => h

theorem State.orderSetLaneState_agrees (h : s.yard.Agrees []) (o : Order) : (s.orderSetLaneState o).yard.Agrees [] := by
  unfold State.orderSetLaneState
  split
  · exact h
  · refine State.checked_agrees h fun _ => State.perform_agrees ?_
    rwa [Ev.setLaneState, Ev.comparePermissions_yard, Ev.setLane_yard_same _ _ _ (by rfl)]

theorem State.orderPlaceBus_agrees (h : s.yard.Agrees []) (o : Order) : (s.orderPlaceBus o).yard.Agrees [] := by
  refine State.checked_agrees h fun hchecks => ?_
  simp only [List.forall_mem_cons, Bool.or_eq_false_iff, Bool.not_eq_false'] at hchecks
  obtain ⟨-, ⟨hlane, hplaceable⟩, hfree, -⟩ := hchecks
  exact State.perform_agrees (Ev.placeEntry_agrees h (State.lane_lt hlane) hplaceable hfree)

theorem State.orderRemoveBus_agrees (h : s.yard.Agrees []) (o : Order) : (s.orderRemoveBus o).yard.Agrees [] :=
  State.checked_agrees h fun _ => State.perform_agrees (Ev.removeEntry_agrees h)

@[simp] theorem Ev.pin_yard (e : Ev) (d b : Nat) : (e.pin d b).yard = e.yard := by
  simp [Ev.pin]

theorem State.orderPinDuty_agrees (h : s.yard.Agrees []) (o : Order) : (s.orderPinDuty o).yard.Agrees [] :=
  State.checked_agrees h fun _ => State.perform_agrees (by rwa [Ev.pin_yard])

theorem State.orderUnpinDuty_agrees (h : s.yard.Agrees []) (o : Order) : (s.orderUnpinDuty o).yard.Agrees [] :=
  State.checked_agrees h fun _ => h

theorem State.orderCancelDuty_agrees (h : s.yard.Agrees []) (o : Order) : (s.orderCancelDuty o).yard.Agrees [] :=
  State.checked_agrees h fun _ => State.perform_agrees (by rwa [Ev.cancel, Ev.setDuty_yard, Ev.unbindDuty_yard])

theorem State.orderWashNow_agrees (h : s.yard.Agrees []) (o : Order) : (s.orderWashNow o).yard.Agrees [] :=
  State.checked_agrees h fun _ => by rwa [State.answer_yard, Ev.setBus_yard_same _ _ _ (by rfl)]

@[simp] theorem Ev.setStock_yard (e : Ev) (litres : Nat) : (e.setStock litres).yard = e.yard := by
  rw [Ev.setStock, Ev.deriveReserve_yard]
  rfl

theorem State.orderAddStock_agrees (h : s.yard.Agrees []) (o : Order) : (s.orderAddStock o).yard.Agrees [] :=
  State.checked_agrees h fun _ => by rwa [State.answer_yard, Ev.setStock_yard]

theorem State.orderSetStock_agrees (h : s.yard.Agrees []) (o : Order) : (s.orderSetStock o).yard.Agrees [] :=
  State.checked_agrees h fun _ => by rwa [State.answer_yard, Ev.setStock_yard]

theorem State.orderReopenWashLane_agrees (h : s.yard.Agrees []) (o : Order) : (s.orderReopenWashLane o).yard.Agrees [] :=
  State.checked_agrees h fun _ => State.perform_agrees (Ev.reopenWash_agrees h)

theorem State.orderCloseWashLane_agrees (h : s.yard.Agrees []) (o : Order) : (s.orderCloseWashLane o).yard.Agrees [] :=
  State.checked_agrees h fun _ => State.perform_agrees (Ev.closeWash_agrees h)

theorem State.orderOpenDispenser_agrees (h : s.yard.Agrees []) (o : Order) : (s.orderOpenDispenser o).yard.Agrees [] :=
  State.checked_agrees h fun _ => State.perform_agrees (Ev.openDisp_agrees h)

theorem State.orderCloseDispenser_agrees (h : s.yard.Agrees []) (o : Order) : (s.orderCloseDispenser o).yard.Agrees [] :=
  State.checked_agrees h fun _ => State.perform_agrees (Ev.closeDisp_agrees h)

theorem State.orderReinstateNode_agrees (h : s.yard.Agrees []) (o : Order) : (s.orderReinstateNode o).yard.Agrees [] :=
  State.checked_agrees h fun _ => State.perform_agrees (by rwa [Ev.restoreNode_yard])

theorem State.orderAbortCommands_agrees (h : s.yard.Agrees []) (o : Order) : (s.orderAbortCommands o).yard.Agrees [] :=
  State.checked_agrees h fun _ => State.perform_agrees (by rwa [Ev.abortWaiting_yard])

theorem State.orderForward_agrees (h : s.yard.Agrees []) (o : Order) : (s.orderForward o).yard.Agrees [] := by
  refine State.checked_agrees h fun _ => ?_
  split
  · exact h
  · exact State.perform_agrees (by rwa [Ev.placeForward, Ev.requestPlain_yard])

theorem State.unknownOrder_agrees (h : s.yard.Agrees []) (ht : execUnknownOrder s = .next t) : t.yard.Agrees [] := by
  unfold execUnknownOrder at ht
  split at ht <;> cases ht <;> exact h

/-! ### One step -/

/-- In a table of equal records every index reads the same value, also outside the table where that is what is read there. -/
theorem map_tget_replicate {α β : Type} {n : Nat} [Inhabited α] (π : α → β) {a : α} (hout : π default = π a) :
    (fun i => π (tget (Vector.replicate n a) i)) = fun _ => π a := by
  funext i
  by_cases hi : i < n
  · rw [tget_replicate a hi]
  · rw [tget_outside _ hi, hout]

/-- After a cold reset no record is valid and nothing stands anywhere (R208). -/
theorem State.reset_yard : State.reset.yard =
    { home := fun _ => none, contents := fun _ => [], fuelQueue := [], bay := fun _ => none, washQueue := [], washBay := fun _ => none,
      hold := [], directions := [] } := by
  have hhome : (fun b => (State.reset.bus b).home) = fun _ => none := map_tget_replicate BusRec.home (by rfl)
  have hcontents : (fun l => (State.reset.lane l).contents) = fun _ => [] := map_tget_replicate LaneRec.contents (by rfl)
  have hbay : (fun d => (State.reset.dispenser d).seat) = fun _ => none := map_tget_replicate DispenserRec.seat (by rfl)
  have hwash : (fun w => (State.reset.washLane w).seat) = fun _ => none := map_tget_replicate WashLaneRec.seat (by rfl)
  rw [State.yard, hhome, hcontents, hbay, hwash]
  rfl

theorem State.reset_agrees : State.reset.yard.Agrees [] := by
  rw [State.reset_yard]
  refine ⟨fun b p => ?_, by simp, List.nodup_nil, ⟨by simp, by simp⟩⟩
  cases p <;> simp [Yard.standing]

/-- A direction's expiry reads its bus's direction from the list (R32). -/
theorem State.directionExpiry_agrees {b : Nat} (h : s.yard.Agrees []) (ht : execDirectionExpiry b s = .next t) : t.yard.Agrees [] := by
  unfold execDirectionExpiry at ht
  split at ht
  next d hd => exact State.eventIf_agrees ht h (fun _ => Ev.directionExpires_agrees (e := s.begin) h (List.mem_of_find?_eq_some hd))
  next => cases ht; exact h

theorem State.acknowledgementTimeout_agrees {n : Nat} (h : s.yard.Agrees []) (ht : execAcknowledgementTimeout n s = .next t) :
    t.yard.Agrees [] := by
  unfold execAcknowledgementTimeout at ht
  split at ht
  · exact State.event_agrees ht (by rwa [Ev.attemptFailed_yard])
  · cases ht; exact h

theorem State.fieldFrameArrival_agrees {f : Frame} (h : s.yard.Agrees []) (ht : execFieldFrameArrival f s = .next t) :
    t.yard.Agrees [] :=
  State.event_agrees ht (by rwa [Ev.fieldArrival_yard])

theorem State.transmission_agrees (h : s.yard.Agrees []) (ht : execTransmission s = .next t) : t.yard.Agrees [] := by
  unfold execTransmission at ht
  split at ht
  next x _ => cases ht; rwa [Ev.transmit_yard]
  next => cases ht; exact h

theorem State.transmitCompletion_agrees (h : s.yard.Agrees []) (ht : execTransmitCompletion s = .next t) : t.yard.Agrees [] := by
  unfold execTransmitCompletion at ht
  split at ht
  · exact State.event_agrees ht (by rwa [Ev.transmitted_yard])
  · cases ht; exact h

theorem State.officeTransmission_agrees (h : s.yard.Agrees []) (ht : execOfficeTransmission s = .next t) : t.yard.Agrees [] := by
  cases ht
  split
  · rwa [State.officeSend_yard]
  · exact h

/-- Every command keeps buses and collections in agreement (R7). -/
theorem exec_agrees {c : Instr} (h : s.yard.Agrees []) (ht : exec c s = .next t) : t.yard.Agrees [] := by
  cases c with
  | coldReset => cases ht; exact State.reset_agrees
  | yardSecond => exact State.event_agrees ht (by rwa [Ev.yardTick_yard])
  | minuteTick => exact State.eventIf_agrees ht h (fun _ => by rwa [Ev.minuteTick_yard, Ev.advanceYard_yard])
  | leavingTimeout b => exact State.eventIf_agrees ht h (fun hdue => Ev.leavingExpires_agrees (e := s.begin) h (Bool.and_eq_true_iff.1 hdue).2)
  | directionExpiry b => exact State.directionExpiry_agrees h ht
  | callTimeout d => exact State.eventIf_agrees ht h (fun _ => Ev.callTimedOut_agrees h)
  | deferralEnd b => exact State.eventIf_agrees ht h (fun _ => by rwa [Ev.deferralEnds_yard])
  | dockingTimeout d => exact State.eventIf_agrees ht h (fun _ => Ev.dockingTimedOut_agrees h)
  | washCallTimeout w => exact State.eventIf_agrees ht h (fun _ => Ev.washCallTimedOut_agrees h)
  | cycleDeadline w => exact State.eventIf_agrees ht h (fun _ => Ev.washAbort_agrees h)
  | endOfClearing w => exact State.eventIf_agrees ht h (fun hdue => Ev.washCleared_agrees (e := s.begin) h (Bool.and_eq_true_iff.1 hdue).2)
  | releaseTimeout l => exact State.eventIf_agrees ht h (fun _ => by rwa [Ev.releaseTimesOut_yard])
  | acknowledgementTimeout n => exact State.acknowledgementTimeout_agrees h ht
  | quietTimerExpiry => exact State.eventIf_agrees ht h (fun _ => by rwa [Ev.quietExpires_yard])
  | fieldFrameArrival f => exact State.fieldFrameArrival_agrees h ht
  | tag => exact State.delivery_agrees ht h (fun _ _ _ => Ev.tagDelivered_agrees)
  | sample => exact State.delivery_agrees ht h (fun _ _ _ => Ev.sampleDelivered_agrees)
  | ack => exact State.delivery_agrees ht h (fun _ _ _ h => by rwa [Ev.takeAck_yard])
  | health => exact State.delivery_agrees ht h (fun _ _ _ => Ev.healthDelivered_agrees)
  | nozzle => exact State.delivery_agrees ht h (fun _ _ _ => Ev.takeNozzle_agrees)
  | delivery => exact State.delivery_agrees ht h (fun _ _ _ => Ev.takeDelivery_agrees)
  | dispAlarm => exact State.delivery_agrees ht h (fun _ _ _ => Ev.takeAlarm_agrees)
  | washEventEntered => exact State.delivery_agrees ht h (fun _ _ _ => Ev.eventEntered_agrees)
  | washEventDone => exact State.delivery_agrees ht h (fun _ _ _ => Ev.eventDone_agrees)
  | washEventAborted => exact State.delivery_agrees ht h (fun _ _ _ => Ev.eventAborted_agrees)
  | washEventReady => exact State.delivery_agrees ht h (fun _ _ _ => Ev.eventReady_agrees)
  | washEventUnknown => exact State.delivery_agrees ht h (fun _ _ _ h => by rwa [Ev.washIgnored, Ev.send_yard])
  | transmission => exact State.transmission_agrees h ht
  | transmitCompletion => exact State.transmitCompletion_agrees h ht
  | officeFrameArrival f => cases ht; rwa [State.officeArrival_yard]
  | officeTransmission => exact State.officeTransmission_agrees h ht
  | officeTransmitCompletion => cases ht; exact h
  | modeChangeTakesEffect => exact State.eventIf_agrees ht h (fun _ => Ev.takePending_agrees h)
  | setMode => exact State.order_agrees ht h (State.orderSetMode_agrees h)
  | setClock => exact State.order_agrees ht h (State.orderSetClock_agrees h)
  | setParameter => exact State.order_agrees ht h (State.orderSetParameter_agrees h)
  | openLoad => exact State.order_agrees ht h (State.orderOpenLoad_agrees h)
  | loadRecords => exact State.order_agrees ht h (State.orderLoadRecords_agrees h)
  | abandonLoad => exact State.order_agrees ht h (State.orderAbandonLoad_agrees h)
  | readRecord => exact State.order_agrees ht h (State.orderReadRecord_agrees h)
  | readLane => exact State.order_agrees ht h (State.orderReadLane_agrees h)
  | readQueue => exact State.order_agrees ht h (State.orderReadQueue_agrees h)
  | placeBus => exact State.order_agrees ht h (State.orderPlaceBus_agrees h)
  | removeBus => exact State.order_agrees ht h (State.orderRemoveBus_agrees h)
  | setLaneState => exact State.order_agrees ht h (State.orderSetLaneState_agrees h)
  | pinDuty => exact State.order_agrees ht h (State.orderPinDuty_agrees h)
  | unpinDuty => exact State.order_agrees ht h (State.orderUnpinDuty_agrees h)
  | cancelDuty => exact State.order_agrees ht h (State.orderCancelDuty_agrees h)
  | washNow => exact State.order_agrees ht h (State.orderWashNow_agrees h)
  | addStock => exact State.order_agrees ht h (State.orderAddStock_agrees h)
  | setStock => exact State.order_agrees ht h (State.orderSetStock_agrees h)
  | reopenWashLane => exact State.order_agrees ht h (State.orderReopenWashLane_agrees h)
  | closeWashLane => exact State.order_agrees ht h (State.orderCloseWashLane_agrees h)
  | openDispenser => exact State.order_agrees ht h (State.orderOpenDispenser_agrees h)
  | closeDispenser => exact State.order_agrees ht h (State.orderCloseDispenser_agrees h)
  | reinstateNode => exact State.order_agrees ht h (State.orderReinstateNode_agrees h)
  | abortCommands => exact State.order_agrees ht h (State.orderAbortCommands_agrees h)
  | readStatistic => exact State.order_agrees ht h (State.orderReadStatistic_agrees h)
  | decrementStatistic => exact State.order_agrees ht h (State.orderDecrementStatistic_agrees h)
  | clearFlags => exact State.order_agrees ht h (State.orderClearFlags_agrees h)
  | restart => exact State.order_agrees ht h (State.orderRestart_agrees h)
  | forward => exact State.order_agrees ht h (State.orderForward_agrees h)
  | unknownOrder => exact State.unknownOrder_agrees h ht

/-- Settles O8: within each event a bus that leaves a collection is loose until it is handed on, and no event ends with a loose bus. -/
theorem busesStayInTheirPlaces : Obligations.BusesStayInTheirPlaces := by
  intro s t hs ht
  rw [State.yardAgrees_iff] at hs ⊢
  unfold step at ht
  split at ht
  · cases ht; exact hs
  next c rest _ => exact exec_agrees (s := { s with pending := rest }) hs ht

end
end Sys2Proof.Machine

/-! # O15 and O16: the score of a lane (R53), eligibility (R51, R52) and the choice (R55) -/

namespace Sys2Proof.Machine

/-! ### Departures (R25) -/

section
variable {s : State}

theorem State.busDeparture_of_unbound {b : Nat} (h : (s.bus b).boundDuty = none) : s.busDeparture b = 1440 := by
  simp only [State.busDeparture, h, noDeparture]

theorem State.busDeparture_of_bound {b d : Nat} (h : (s.bus b).boundDuty = some d) : s.busDeparture b = s.plannedS d := by
  simp only [State.busDeparture, h]

end

/-! ### The rows of the score's table (R53) -/

section
variable {s : State} {l t : Nat} {x : LaneEntry}

theorem State.score_of_empty (h : s.joinEnd l = none) : s.score l t = 320 + (s.lane l).cost := by
  simp only [State.score, h]

theorem State.score_through_ordered (h : s.joinEnd l = some x) (hk : (s.lane l).kind = .through) (ht : s.entryDeparture x ≤ t) :
    s.score l t = min (t - s.entryDeparture x) 255 + (s.lane l).cost := by
  simp only [State.score, h, hk, if_pos ht]

theorem State.score_through_inverted (h : s.joinEnd l = some x) (hk : (s.lane l).kind = .through) (ht : t < s.entryDeparture x) :
    s.score l t = 1024 + 4 * min (s.entryDeparture x - t) 240 + (s.lane l).cost := by
  simp only [State.score, h, hk, if_neg (Nat.not_le.2 ht)]

theorem State.score_deadEnd_ordered (h : s.joinEnd l = some x) (hk : (s.lane l).kind = .deadEnd) (ht : t ≤ s.entryDeparture x) :
    s.score l t = min (s.entryDeparture x - t) 255 + (s.lane l).cost := by
  simp only [State.score, h, hk, if_pos ht]

theorem State.score_deadEnd_inverted (h : s.joinEnd l = some x) (hk : (s.lane l).kind = .deadEnd) (ht : s.entryDeparture x < t) :
    s.score l t = 1024 + 4 * min (t - s.entryDeparture x) 240 + (s.lane l).cost := by
  simp only [State.score, h, hk, if_neg (Nat.not_le.2 ht)]

/-- The row of the largest score is an inversion of 240 minutes or more. -/
theorem State.score_le_cost : s.score l t ≤ 1984 + (s.lane l).cost := by
  cases hx : s.joinEnd l with
  | none => rw [State.score_of_empty hx]; omega
  | some x =>
    cases hk : (s.lane l).kind with
    | through =>
      rcases Nat.lt_or_ge t (s.entryDeparture x) with ht | ht
      · rw [State.score_through_inverted hx hk ht]; omega
      · rw [State.score_through_ordered hx hk ht]; omega
    | deadEnd =>
      rcases Nat.lt_or_ge (s.entryDeparture x) t with ht | ht
      · rw [State.score_deadEnd_inverted hx hk ht]; omega
      · rw [State.score_deadEnd_ordered hx hk ht]; omega

end

/-! ### Eligibility (R26, R51, R52) -/

section
variable {s : State} {l b : Nat}

theorem State.entryAllowed_iff :
    s.entryAllowed l = true ↔ (s.lane l).valid = true ∧ (s.lane l).office = .opened ∧
      s.cutOff (s.lane l).entrySignal.node = false ∧ (s.channel (s.lane l).entryLoop).state ≠ .faulted := by
  simp [State.entryAllowed, and_assoc]

theorem State.scorable_iff :
    s.scorable l b = true ↔ (s.lane l).valid = true ∧ s.entryAllowed l = true ∧ inMask (s.lane l).classMask (s.bus b).cls = true ∧
      s.busLength b ≤ s.openBays l ∧ ((s.lane l).kind = .through ∨ s.release l = none) := by
  simp [State.scorable, and_assoc]

theorem State.laneEligible_iff :
    s.laneEligible l b = true ↔
      s.scorable l b = true ∧ (s.params.allowInversion = true ∨ s.score l (s.busDeparture b) < 1024) := by
  simp [State.laneEligible]

end

/-! ### The order of the choice (R55) -/

/-- Lane l comes before lane m in the choice for a bus: by score, then by fit, then by index. -/
def State.Beats (s : State) (b l m : Nat) : Prop :=
  s.score l (s.busDeparture b) < s.score m (s.busDeparture b) ∨
    (s.score l (s.busDeparture b) = s.score m (s.busDeparture b) ∧
      (s.openBays l - s.busLength b < s.openBays m - s.busLength b ∨
        (s.openBays l - s.busLength b = s.openBays m - s.busLength b ∧ l < m)))

section
variable {s : State} {b k l m : Nat}

theorem State.Beats.trans (hkl : s.Beats b k l) (hlm : s.Beats b l m) : s.Beats b k m := by
  unfold State.Beats at *
  omega

/-- The model's comparison asks for no index, since the lane it prefers comes first. -/
theorem State.beats_of_prefers (hlm : l < m) (h : s.prefers b l m = true) : s.Beats b l m := by
  simp only [State.prefers, Bool.or_eq_true, Bool.and_eq_true, decide_eq_true_eq, beq_iff_eq] at h
  unfold State.Beats
  omega

theorem State.beats_of_not_prefers (h : ¬ s.prefers b l m = true) : s.Beats b m l := by
  simp only [State.prefers, Bool.or_eq_true, Bool.and_eq_true, decide_eq_true_eq, beq_iff_eq] at h
  unfold State.Beats
  omega

/-- The best of a lane and later ones: the lane, where there are no others or it is preferred to the best of them, and else that best one. -/
theorem State.bestLane_cons_cases {ls : List Nat} (h : s.bestLane b (l :: ls) = some k) :
    (s.bestLane b ls = none ∧ k = l) ∨
    (∃ m, s.bestLane b ls = some m ∧ s.prefers b l m = true ∧ k = l) ∨
    (s.bestLane b ls = some k ∧ ¬ s.prefers b l k = true) := by
  unfold State.bestLane at h
  cases hb : s.bestLane b ls with
  | none => simp only [hb, Option.some.injEq] at h; exact .inl ⟨rfl, h.symm⟩
  | some m =>
    simp only [hb] at h
    split at h
    next hp => cases h; exact .inr (.inl ⟨m, rfl, hp, rfl⟩)
    next hp => cases h; exact .inr (.inr ⟨rfl, hp⟩)

theorem State.bestLane_eq_none_iff {ls : List Nat} : s.bestLane b ls = none ↔ ls = [] := by
  cases ls with
  | nil => simp [State.bestLane]
  | cons l ls =>
    simp only [State.bestLane, reduceCtorEq, iff_false]
    split
    · exact Option.some_ne_none _
    · split <;> exact Option.some_ne_none _

theorem State.bestLane_mem {ls : List Nat} (h : s.bestLane b ls = some k) : k ∈ ls := by
  induction ls with
  | nil => cases h
  | cons l ls ih =>
    obtain ⟨-, rfl⟩ | ⟨m, -, -, rfl⟩ | ⟨hk, -⟩ := State.bestLane_cons_cases h
    · exact List.mem_cons_self
    · exact List.mem_cons_self
    · exact List.mem_cons_of_mem _ (ih hk)

/-- Of lanes in index order, the best comes before every other. -/
theorem State.bestLane_beats {ls : List Nat} (hls : ls.Pairwise (· < ·)) (h : s.bestLane b ls = some k) (hm : m ∈ ls) (hne : m ≠ k) :
    s.Beats b k m := by
  induction ls generalizing k m with
  | nil => cases h
  | cons l ls ih =>
    obtain ⟨hfirst, hrest⟩ := List.pairwise_cons.1 hls
    obtain ⟨hnone, rfl⟩ | ⟨n, hn, hp, rfl⟩ | ⟨hk, hp⟩ := State.bestLane_cons_cases h
    · rw [State.bestLane_eq_none_iff.1 hnone, List.mem_singleton] at hm
      exact absurd hm hne
    · have hkn : s.Beats b k n := State.beats_of_prefers (hfirst n (State.bestLane_mem hn)) hp
      have hmls : m ∈ ls := List.mem_of_ne_of_mem hne hm
      by_cases hmn : m = n
      · rwa [hmn]
      · exact hkn.trans (ih hrest hn hmls hmn)
    · rcases List.mem_cons.1 hm with rfl | hmls
      · exact State.beats_of_not_prefers hp
      · exact ih hrest hk hmls hne

end

/-! ### The chosen lane (R55) -/

section
variable {s : State} {b l m : Nat}

/-- The eligible lanes for a bus, in index order. -/
def State.eligibleLanes (s : State) (b : Nat) : List Nat := (indices s.laneMap.lanes).filter fun l => s.laneEligible l b

theorem State.chosenLane_eq : s.chosenLane b = s.bestLane b (s.eligibleLanes b) := rfl

theorem State.mem_eligibleLanes : l ∈ s.eligibleLanes b ↔ l < 32 ∧ s.laneEligible l b = true := by
  rw [State.eligibleLanes, List.mem_filter, mem_indices]

theorem State.eligibleLanes_ordered : (s.eligibleLanes b).Pairwise (· < ·) := List.pairwise_lt_range.filter _

theorem State.chosenLane_eligible (h : s.chosenLane b = some l) : l < 32 ∧ s.laneEligible l b = true :=
  State.mem_eligibleLanes.1 (State.bestLane_mem h)

theorem State.chosenLane_beats (h : s.chosenLane b = some l) (hm : m < 32) (he : s.laneEligible m b = true) (hne : m ≠ l) :
    s.Beats b l m :=
  State.bestLane_beats State.eligibleLanes_ordered h (State.mem_eligibleLanes.2 ⟨hm, he⟩) hne

theorem State.chosenLane_eq_none_iff : s.chosenLane b = none ↔ ∀ l, l < 32 → s.laneEligible l b = false := by
  rw [State.chosenLane_eq, State.bestLane_eq_none_iff, List.eq_nil_iff_forall_not_mem]
  simp only [State.mem_eligibleLanes, not_and, Bool.not_eq_true]

/-- With inversions not allowed, the sixth condition of R52 keeps the chosen lane's score below the inversions. -/
theorem State.chosenLane_score_lt (hoff : s.params.allowInversion = false) (h : s.chosenLane b = some l) :
    s.score l (s.busDeparture b) < 1024 := by
  obtain ⟨-, hallow | hscore⟩ := State.laneEligible_iff.1 (State.chosenLane_eligible h).2
  · rw [hoff] at hallow
    exact absurd hallow Bool.false_ne_true
  · exact hscore

end

/-- Settles O15: the rows of the table one by one, the bound of the largest row, and the sixth condition of eligibility. -/
theorem laneScoresFollowTheTable : Obligations.LaneScoresFollowTheTable := by
  intro s l
  refine ⟨rfl, fun b => ⟨rfl, State.busDeparture_of_unbound, fun d => State.busDeparture_of_bound⟩, fun t => State.score_of_empty,
    fun t x => State.score_through_ordered, fun t x => State.score_through_inverted, fun t x => State.score_deadEnd_ordered,
    fun t x => State.score_deadEnd_inverted, fun t hcost => ?_, fun b => State.chosenLane_score_lt⟩
  calc s.score l t ≤ 1984 + (s.lane l).cost := State.score_le_cost
    _ ≤ 2015 := by omega

/-- Settles O16: the best of the eligible lanes in index order comes before every other by score, fit and index. -/
theorem bestEligibleLaneIsChosen : Obligations.BestEligibleLaneIsChosen := by
  refine ⟨fun s l b => ⟨rfl, ?_⟩, fun s b => ⟨State.chosenLane_eq_none_iff, fun l h => ?_⟩⟩
  · rw [State.laneEligible_iff, State.scorable_iff, State.entryAllowed_iff, inMask, State.busLength]
    constructor
    · rintro ⟨⟨hvalid, ⟨-, hentry⟩, hmask, hroom, hmouth⟩, hscore⟩
      exact ⟨hvalid, hentry, hmask, hroom, hmouth, hscore⟩
    · rintro ⟨hvalid, hentry, hmask, hroom, hmouth, hscore⟩
      exact ⟨⟨hvalid, ⟨hvalid, hentry⟩, hmask, hroom, hmouth⟩, hscore⟩
  · obtain ⟨hl, he⟩ := State.chosenLane_eligible h
    exact ⟨hl, he, fun m hm hme hne => State.chosenLane_beats h hm hme hne⟩

end Sys2Proof.Machine

/-! # O49: the orders on the statistics (R187, R188) and the attention indication (R189) -/

namespace Sys2Proof.Machine

/-! ### Performing the head order (R197) -/

section
variable {s : State} {o : Order} {code : Byte}

theorem State.OrderAt.headOrder_eq {reads : Byte → Bool} (h : s.OrderAt code o) (hreads : reads o.code = true) :
    s.headOrder reads = some o := by
  obtain ⟨rest, horders⟩ := List.head?_eq_some_iff.1 h.head
  have hroom : s.office.answers.length < answerCapacity := h.room
  simp [State.headOrder, horders, hreads, hroom]

theorem State.OrderAt.order_eq (h : s.OrderAt code o) (f : Order → State) : s.order code f = .next (f o) := by
  have hhead : s.headOrder (fun c => c == code) = some o := h.headOrder_eq (beq_iff_eq.2 h.code)
  rw [State.order, hhead]

end

/-! ### What an answer leaves as it was (R197) -/

section
variable (s : State) (o : Order) (r : ResultCode) (data : List Byte)

@[simp] theorem State.answer_counters : (s.answer o r data).counters = s.counters := rfl
@[simp] theorem State.answer_mode : (s.answer o r data).mode = s.mode := rfl

/-- The status byte in the answer is the one the order leaves (R198): answering does not change what it is read from. -/
theorem State.answer_answers : (s.answer o r data).office.answers =
    s.office.answers ++ [{ status := (s.answer o r data).status, result := r, code := o.code, tag := o.tag, data := data }] := rfl

theorem State.answer_only : s.OnlyChanged (s.answer o r data) [.orders, .answers] := by
  intro p hp
  cases p with
  | orders | answers => simp at hp
  | _ => rfl

end

/-! ### Four bytes (R209) -/

theorem beNat_byte4 {n : Nat} (h : n < 2 ^ 32) : beNat (byte4 n) = n := by
  simp only [beNat, byte4, byte3, byte2, List.foldl_cons, List.foldl_nil, BitVec.toNat_ofNat]
  omega

/-! ### The codes of the counters (R184) -/

theorem Counter.code_lt (c : Counter) : c.code < 30 := by
  cases c <;> decide

/-- Every one of the thirty codes is a counter's. -/
theorem Counter.exists_code {i : Nat} (h : i < 30) : ∃ c : Counter, c.code = i := by
  have hcodes : ∀ i < 30, (Counter.ofNat i).code = i := by decide
  exact ⟨.ofNat i, hcodes i h⟩

section
variable {s : State}

theorem State.counter_eq_getElem (c : Counter) : s.counter c = s.counters[c.code]'c.code_lt := by
  simp [State.counter, tget, c.code_lt]

/-- Attention is on exactly while some counter holds 2^31 or more (R189). -/
theorem State.attention_iff : s.attention = true ↔ ∃ c : Counter, 2147483648 ≤ (s.counter c).toNat := by
  simp only [State.attention, List.any_eq_true, Vector.mem_toList_iff, Vector.mem_iff_getElem, BitVec.msb_eq_decide, decide_eq_true_eq]
  constructor
  · rintro ⟨_, ⟨i, hi, rfl⟩, hhigh⟩
    obtain ⟨c, rfl⟩ := Counter.exists_code hi
    exact ⟨c, by rwa [State.counter_eq_getElem]⟩
  · rintro ⟨c, hhigh⟩
    exact ⟨s.counter c, ⟨c.code, c.code_lt, (s.counter_eq_getElem c).symm⟩, hhigh⟩

end

/-! ### Lowering a counter (R188) -/

section
variable (s : State) (c : Counter) (value : Nat)

theorem State.lowerCounter_counter_toNat :
    ((s.lowerCounter c.code value).counter c).toNat = (s.counter c).toNat - value := by
  have hread : (s.lowerCounter c.code value).counter c = BitVec.ofNat 32 ((s.counter c).toNat - value) :=
    tget_tset_same _ _ c.code_lt
  have hbound : (s.counter c).toNat < 2 ^ 32 := (s.counter c).isLt
  rw [hread, BitVec.toNat_ofNat]
  omega

theorem State.lowerCounter_only : s.OnlyChanged (s.lowerCounter c.code value) [.counter c] := by
  intro p hp
  cases p with
  | counter k =>
    have hne : c.code ≠ k.code := fun h => hp (by rw [Counter.code_injective h]; exact List.mem_singleton_self _)
    exact tget_tset_other _ _ hne
  | _ => rfl

end

/-! ### The two orders -/

section
variable {s : State} {o : Order} {c : Counter}

/-- Of a right length, both orders refuse exactly the codes above 29 (R187, R188). -/
theorem State.checked_statistic {n : Nat} {done : State} (hlen : o.data.length = n) :
    s.checked o [(!o.lengthIs n, .range), (outside 0 29 (o.byte 0), .range)] done =
      if 29 < o.byte 0 then s.answer o .range [] else done := by
  by_cases hcode : 29 < o.byte 0 <;> simp [State.checked, firstRefusal, Order.lengthIs, outside, hlen, hcode]

theorem Counter.not_lt_of_code_eq (hcode : c.code = o.byte 0) : ¬ 29 < o.byte 0 := by
  have hlt := c.code_lt
  omega

theorem State.orderReadStatistic_outside (hlen : o.data.length = 1) (hcode : 29 < o.byte 0) :
    s.orderReadStatistic o = s.answer o .range [] := by
  rw [State.orderReadStatistic, State.checked_statistic hlen, if_pos hcode]

theorem State.orderReadStatistic_counter (hlen : o.data.length = 1) (hcode : c.code = o.byte 0) :
    s.orderReadStatistic o = s.answer o .ok (byte4 (s.counter c).toNat) := by
  rw [State.orderReadStatistic, State.checked_statistic hlen, if_neg (Counter.not_lt_of_code_eq hcode), ← hcode]
  rfl

theorem State.orderDecrementStatistic_outside (hlen : o.data.length = 5) (hcode : 29 < o.byte 0) :
    s.orderDecrementStatistic o = s.answer o .range [] := by
  rw [State.orderDecrementStatistic, State.checked_statistic hlen, if_pos hcode]

theorem State.orderDecrementStatistic_counter (hlen : o.data.length = 5) (hcode : c.code = o.byte 0) :
    s.orderDecrementStatistic o = (s.lowerCounter c.code (numAt o.data 1 4)).answer o .ok
      (byte4 ((s.lowerCounter c.code (numAt o.data 1 4)).counter c).toNat) := by
  rw [State.orderDecrementStatistic, State.checked_statistic hlen, if_neg (Counter.not_lt_of_code_eq hcode), ← hcode]
  rfl

end

/-- Settles O49: a code above 29 is refused by the orders' second check, and any other is the code of a counter, which READ STATISTIC
answers and DECREMENT STATISTIC lowers before its answer reads it. -/
theorem statisticsAreReadAndLowered : Obligations.StatisticsAreReadAndLowered := by
  refine ⟨fun s o horder hlen => ?_, fun s o horder hlen => ?_⟩
  · have hexec : exec .readStatistic s = .next (s.orderReadStatistic o) := horder.order_eq _
    rw [hexec]
    refine ⟨fun hcode => congrArg _ (State.orderReadStatistic_outside hlen hcode), fun c hcode => ?_⟩
    rw [State.orderReadStatistic_counter hlen hcode]
    refine ⟨rfl, beNat_byte4 (s.counter c).isLt, fun t ht => ?_⟩
    cases ht
    exact ⟨State.answer_counters .., State.answer_mode ..⟩
  · have hexec : exec .decrementStatistic s = .next (s.orderDecrementStatistic o) := horder.order_eq _
    rw [hexec]
    refine ⟨fun hcode => congrArg _ (State.orderDecrementStatistic_outside hlen hcode), fun c hcode => ?_⟩
    rw [State.orderDecrementStatistic_counter hlen hcode]
    exact ⟨_, rfl, s.lowerCounter_counter_toNat c _, State.answer_answers .., State.attention_iff,
      (s.lowerCounter_only c _).append (State.answer_only _ o _ _)⟩

end Sys2Proof.Machine
